-- ==== Sys2Proof/Word.lean ====
section
/-! DEFINITION. The word types of the ZD12: its objects are byte-wide to 64-bit-wide registers, held as natural numbers
below a power of two; byte strings are lists. -/

namespace Sys2Proof

/-- A byte string, as it stands in a record, a frame or a dataset. -/
abbrev Bytes := List Nat

end Sys2Proof
end

