-- ==== Sys2Proof/Syntax.lean ====
section
/-! DEFINITION. The commands of the ZD12: one constructor of `Instr` per row of spec/opcode_table.json, with the
operands that the outside world supplies (the item meant, the path of a write, the values measured). -/

namespace Sys2Proof

/-- Doorway d is `d.val + 1` (R4). -/
abbrev Door := Fin 12
/-- Axis a = 3(d-1)+k is `a.val + 1` (R4). -/
abbrev Axis := Fin 36
/-- Channel c = 16(d-1)+n is `c.val + 1` (R4). -/
abbrev Chan := Fin 192

/-- Side of the car (R3). -/
inductive Side | a | b
deriving DecidableEq, Repr

/-- The two lanes (R7); physical names. -/
inductive Lane | a | b
deriving DecidableEq, Repr

/-- The two Seam links (R307). -/
inductive Link | one | two
deriving DecidableEq, Repr

/-- A lane's end of a Seam link (R307). -/
structure LinkEnd where
  lane : Lane
  link : Link
deriving DecidableEq, Repr

/-- What the PTP port says beside a Sync (R501): it is a slave; the interval its master announces, ms. -/
structure PtpPort where
  slave : Bool
  intervalMs : Nat
deriving DecidableEq, Repr

/-- The CAN ports (R446). -/
inductive Port | x7 | x8
deriving DecidableEq, Repr

/-- The three two-channel input pairs (R62). -/
inductive Pair | relA | relB | zero
deriving DecidableEq, Repr

/-- The path a write or read comes on (R398, R567); RPDO and TRDP reception are command sources (R294). -/
inductive Path
  | sdo1
  | sdo2
  | gateway (ip : Nat)
  | x9
  | rpdo (n : Fin 32)
  | trdp
deriving DecidableEq, Repr

/-- The two generators of a doorway: its leaves share one, its step has its own (R11, R116). -/
inductive Group | leaves | step
deriving DecidableEq, Repr

/-- A sensitive edge of a doorway (R162). -/
inductive Edge | ea | eb
deriving DecidableEq, Repr

/-- A digital input: DIn of a doorway or TIn (R4). -/
inductive InputId
  | di (d : Door) (n : Fin 12)
  | ti (n : Fin 16)
deriving DecidableEq, Repr

/-- A receiver group (R277). -/
inductive RxGroup
  | door (d : Door)
  | train
deriving DecidableEq, Repr

/-- Any conditioned input that can fault (R281, R290, R616). -/
inductive Measured
  | input (i : InputId)
  | thermistor (a : Axis)
  | hall (a : Axis)
  | bank (d : Door)
  | inputVoltage
  | linkVoltage
  | busVoltage
  | ambient
deriving DecidableEq, Repr

/-- Input fault causes 1 to 8 (R281). -/
inductive InputCause | overRange | reverse | indeterminate | freshness | lanesDisagree | plausibility | expectation | hallCode
deriving DecidableEq, Repr

/-- Plausibility checks P1 to P4 (R285); P4 is per edge. -/
inductive Check
  | p1
  | p2
  | p3
  | p4 (e : Edge)
deriving DecidableEq, Repr

/-- Entry conditions of the Belt levels, bits 0 to 5 of 0x2105:02 (R220, R242). -/
inductive BeltCond | bus1 | sag | bus2 | bus3 | loss | thermal
deriving DecidableEq, Repr

/-- Obstacle sources, codes 1 to 5 (R57, R160). -/
inductive ObstacleSource | estimator | ea | eb | curtain | stall
deriving DecidableEq, Repr

/-- What a disable drains (R9, R10). -/
inductive DrainItem
  | door (d : Door)
  | axis (a : Axis)
  | chan (c : Chan)
  | port (p : Port)
deriving DecidableEq, Repr

/-- Where a crew close request comes from (R17). -/
inductive CrewClose
  | sideA
  | sideB
  | key (d : Door)
deriving DecidableEq, Repr

/-- The three live limits (R115, R122). -/
inductive LiveLimit | vMax | aAcc | aDec
deriving DecidableEq, Repr

/-- What CONTOUR_SHEET_WRITE writes (R155). -/
inductive SheetWrite
  | opening (bins : List Int)
  | closing (bins : List Int)
  | mass (m : Nat)
  | viscous (c : Nat)
deriving DecidableEq, Repr

/-- Command sources that time out (R294). -/
inductive CmdSource
  | rpdo (n : Fin 32)
  | trdp
deriving DecidableEq, Repr

/-- The two deadlines of R187. -/
inductive Deadline | first | second
deriving DecidableEq, Repr

/-- What a slice samples and estimates for one axis in a stitch (R108, orders 1, 2 and 7). -/
structure AxisSample where
  axis : Axis
  /-- phase current amplitude, mA -/
  current : Int
  /-- torque-producing current i_q of a PMSM, mA (R146) -/
  torqueCurrent : Int
  /-- the estimator's position reading, µm, in a count of its own (R114) -/
  position : Int
  /-- estimated wall-time velocity, µm/s -/
  velocity : Int
  /-- estimated wall-time acceleration, µm/s² -/
  accel : Int
  /-- load angle of a stepper or angle error of a PMSM, 0.1° electrical -/
  angle : Int
  /-- the phase samples pass their range check (R148) -/
  inRange : Bool
  /-- the three Hall lines, 0 to 7 -/
  hall : Nat
  /-- forecast of the energy for the next stitch, whole credits (R225) -/
  demand : Nat
  /-- bridge temperature, 0.1 °C -/
  bridgeTemp : Int
deriving DecidableEq, Repr

/-- The supply quantities sampled in a stitch (R219), in 0.1 V and 0.1 °C. -/
structure SupplySample where
  vin : Nat
  link : Nat
  bus : Nat
  ambient : Int
deriving DecidableEq, Repr

/-- What one stitch samples; an item not listed keeps its last sample. -/
structure StitchSample where
  /-- terminal voltages of digital inputs, 0.1 V -/
  inputs : List (InputId × Int)
  /-- receiver groups that delivered no fresh sample (R277) -/
  stale : List RxGroup
  /-- edge resistances, Ω (R162) -/
  edges : List (Door × Edge × Nat)
  /-- channel sense codes (R255) -/
  codes : List (Chan × Nat)
  axes : List AxisSample
  supply : Option SupplySample
deriving DecidableEq, Repr

/-- A stitch in which every sample repeats the last one. -/
def StitchSample.quiet : StitchSample := ⟨[], [], [], [], [], none⟩

/-- What one side's loop hardware reads back in a frame (R78, R100). -/
structure LoopReadback where
  gateClosed : Bool
  laneClosed : Bool
  /-- mA -/
  current : Nat
  /-- 0.1 V -/
  voltage : Nat
deriving DecidableEq, Repr

/-- The temperatures and the fine-range current of a channel in a frame (R248, R257). -/
structure ChanSample where
  chan : Chan
  /-- channel less case, 0.1 K -/
  deltaT : Int
  /-- junction, 0.1 °C -/
  junction : Int
  /-- 0 to 512, 0.125 mA -/
  fine : Nat
  /-- in current limitation, by the channel hardware -/
  limiting : Bool
deriving DecidableEq, Repr

/-- What one frame measures; an item not listed keeps its last reading. -/
structure FrameSample where
  /-- bank supplies, 0.1 V (R244) -/
  banks : List (Door × Nat)
  /-- channel temperatures -/
  chans : List ChanSample
  /-- thermistor frame means, 0.1 °C (R290) -/
  therms : List (Axis × Int)
  /-- loop readbacks, side A then side B -/
  loopA : Option LoopReadback
  loopB : Option LoopReadback
  /-- gate-mask readback (R75) -/
  maskReadback : Option Nat
  /-- input current 0.1 A, frequency 0.1 Hz, input power W, motor-bus power W -/
  power : Option (Nat × Nat × Nat × Int)
  /-- energy drawn by the axes of a doorway in the frame, mJ -/
  energy : List (Door × Nat)
  /-- delta blocks this frame's changes need (R314) -/
  deltaBlocks : Nat
  /-- cycles the frame work took (R186) -/
  cycles : Nat
deriving DecidableEq, Repr

/-- A frame in which every reading repeats the last one. -/
def FrameSample.quiet : FrameSample := ⟨[], [], [], none, none, none, none, [], 1, 0⟩

/-- The acknowledgement block's payload (R317). -/
structure AckPayload where
  frame : Nat
  /-- 0 applied, 1 delta digest mismatch -/
  result : Nat
  /-- standby flags[7:0] -/
  flags : Nat
  sections : Nat
  /-- filtered DI of doorways 1 to 12 -/
  di : List Nat
  ti : Nat
deriving DecidableEq, Repr

/-- A lane's fault report (R357). -/
structure FaultReport where
  /-- 13, 14, 7 or 8 -/
  event : Nat
  /-- 0 none, 1 first, 2 second, 3 both -/
  checker : Nat
  unit : Nat
  group : Nat
deriving DecidableEq, Repr

/-- What a status block carries (R367, R371, R434, R561). -/
structure StatusPayload where
  powerCycles : Nat
  firmware : Nat
  stateFormat : Nat
  persistentCurrent : Bool
  phase : Nat
  /-- bytes of a loading image held (R561) -/
  bytesHeld : Nat
  /-- a start that failed since the last block: its phase (R371) -/
  failedStart : Option Nat
  /-- survey result mask and frame, where a survey was made (R434) -/
  survey : Option (Nat × Nat)
deriving DecidableEq, Repr

/-- The block types of R309; `other` is any type not listed there. -/
inductive BlockBody
  | delta
  | commit (digestOk : Bool)
  | record
  | image
  | digest (sameLive sameUnused : Bool) (sectionNo : Nat)
  | ack (a : AckPayload)
  | linkAck (seqs : List Nat)
  | status (s : StatusPayload)
  | test
  | fault (f : FaultReport)
  | other
deriving DecidableEq, Repr

/-- A Seam block as received (R308). -/
structure SeamBlock where
  link : Link
  /-- the lane that sent it -/
  sender : Lane
  crcOk : Bool
  resend : Bool
  epoch : Nat
  seq : Nat
  /-- frame counter[31:0] of the frame concerned -/
  frame : Nat
  index : Nat
  count : Nat
  body : BlockBody
deriving DecidableEq, Repr

/-- A CAN frame on the bus (R446). -/
structure CanFrame where
  id : Nat
  extended : Bool
  remote : Bool
  fd : Bool
  brs : Bool
  data : Bytes
deriving DecidableEq, Repr

/-- What a port sees: a complete frame, or an error outside or inside a data phase (R452, R453). -/
inductive CanRx
  | frame (f : CanFrame)
  | nominalError
  | dataError
deriving DecidableEq, Repr

/-- The SDO and USDO services offered (R467), without the byte layout of CiA 301 and CiA 1301. -/
inductive SdoReq
  | download (index sub : Nat) (data : Bytes)
  | downloadInit (index sub size : Nat)
  | downloadSegment (toggle : Bool) (data : Bytes) (last : Bool)
  | upload (index sub : Nat)
  | uploadSegment (toggle : Bool)
  | blockDownloadInit (index sub size : Nat)
  | blockDownload (data : Bytes) (crcOk last : Bool)
  | blockUploadInit (index sub blockSize : Nat)
  | blockUploadNext
  | abort (code : Nat)
deriving DecidableEq, Repr

/-- The outcome of a lane's 800 injections (R359, R362). -/
inductive Injection
  | passed
  /-- a raw-difference flag is missing: the checker that still flagged (0 none, 1, 2) -/
  | rawMissing (unit group checker : Nat)
  /-- the residual is not zero -/
  | residual (unit group : Nat)
deriving DecidableEq, Repr

/-- The results of a lane's start phases 2 to 8 (R364 to R368, R407). -/
structure StartResult where
  /-- backup flag and enclosure-seal latch are read from the backup domain; the cell, mV -/
  cell : Nat
  /-- the boot ROM's verdict on slot 1 and slot 2 (R365) -/
  slotOk : Bool × Bool
  injection : Injection
  sramOk : Bool
  norOk : Bool
  framOk : Bool
  /-- mount method 0 headers, 1 scan, 2 failed -/
  mount : Nat
  /-- the links that trained -/
  link1 : Bool
  link2 : Bool
  readbackOk : Bool
  /-- durations of phases 2 to 8, ms -/
  durations : List Nat
deriving DecidableEq, Repr

/-- The commands. Each constructor is the row of spec/opcode_table.json whose mnemonic it spells. -/
inductive Instr
  -- clocks and frame work
  | stitch (x : StitchSample)
  | frameWork (x : FrameSample)
  | beltConditionConfirmed (c : BeltCond)
  | beltStepDown
  | survey
  | frameOverrun (l : Lane) (w : Deadline)
  | sliceWatchdog (l : Lane) (slice : Fin 4)
  -- the doorway cycle
  | openCommand (p : Path) (d : Door)
  | closeCommand (p : Path) (d : Door)
  | faultResetCommand (p : Path) (d : Door)
  | emergencyResetCommand (p : Path) (d : Door)
  | openButton (d : Door) (outside : Bool)
  | crewCloseInput (c : CrewClose)
  | emergencyHandleOperated (d : Door)
  | emergencyHandleNormal (d : Door)
  | selectiveEnableChange (on : Bool)
  | releasePairChange (ti : Fin 6) (on : Bool)
  | tractionInputChange (on : Bool)
  | warningTimeElapsed (d : Door)
  | autoCloseDwellExpiry (d : Door)
  | closedSettleElapsed (d : Door)
  | lockProvingTimeout (d : Door)
  | lockTimeout (d : Door)
  | reclosePauseElapsed (d : Door)
  | openingRetryDelayExpiry (d : Door)
  | strokeTimeout (d : Door) (g : Group)
  | homingTimeout (d : Door)
  | isolateCommand (p : Path) (d : Door)
  | isolateForcedCommand (p : Path) (d : Door)
  | returnToServiceCommand (p : Path) (d : Door)
  | isolationSwitchInput (d : Door) (on : Bool)
  | drainBoundExpiry (item : DrainItem)
  | drainComplete (item : DrainItem)
  | leafCountWrite (p : Path) (d : Door) (n : Nat)
  | manualEnter (p : Path) (d : Door)
  | manualLeave (p : Path) (d : Door)
  | jogWrite (p : Path) (d : Door) (v : Int)
  | jogRefreshExpiry (d : Door)
  | manualLockRelease (p : Path) (d : Door) (on : Bool)
  | clearDoorwayLatches (p : Path) (d : Door)
  | teachStart (p : Path) (d : Door)
  | teachAbort (p : Path) (d : Door)
  | contourSheetWrite (p : Path) (a : Axis) (w : SheetWrite)
  | stageEntry (p : Path) (d : Door) (entry : Nat)
  | stagedApply (p : Path) (d : Door)
  | stagedDiscard (p : Path) (d : Door)
  -- permits, loops, Mirror
  | pairDiscrepancyLatch (q : Pair)
  | regrantHoldoffExpiry (side : Side)
  | gateComparatorChange (d : Door) (tenthVolts : Nat)
  | loopFaultReset (p : Path) (side : Side)
  | loopOpenCommand (p : Path) (side : Side) (on : Bool)
  | tractionOpenLoopTimeout
  | mirrorTransaction (word : Fin 16) (parity : Bool) (edges : Nat) (startUs : Nat)
  | mirrorSelectDeassert (endUs : Nat)
  | mirrorTransactionTimeout (endUs : Nat)
  -- axes
  | axisTargetWrite (p : Path) (a : Axis) (x : Int)
  | retargetStopComplete (d : Door) (g : Group)
  | liveLimitWrite (p : Path) (a : Axis) (l : LiveLimit) (v : Nat)
  | stallConfirmed (a : Axis)
  | lockZoneStallRelease (a : Axis)
  | axisOvercurrentTrip (a : Axis)
  | axisRetryDue (a : Axis)
  | axisRetryRestore (a : Axis)
  | axisThermalLatch (a : Axis)
  | axisThermalClear (a : Axis)
  | axisEnable (p : Path) (a : Axis)
  | axisDisable (p : Path) (a : Axis)
  | axisDisableForced (p : Path) (a : Axis)
  | axisClearOvercurrent (p : Path) (a : Axis)
  -- obstacles
  | obstacleConfirmed (a : Axis) (src : ObstacleSource)
  | estimateInvalidObstacle (a : Axis)
  | obstacleStopEnd (d : Door) (g : Group)
  | obstacleStopTimeout (d : Door) (g : Group)
  | edgeFaultClear (d : Door) (e : Edge)
  -- supply, Belt, Rest
  | inputLossDeclared
  | powerLossCommit
  | inputReturn (vin : Nat)
  | holdupMeasurement (joules : Nat)
  | motorBusFault (excess : Bool)
  | clearModuleLatches (p : Path)
  | restDelayExpiry
  | restEnterCommand (p : Path)
  | restLeaveCommand (p : Path)
  | restWake
  | restBusReady
  | cellMeasurement (mv : Nat)
  | clearSealLatch (p : Path)
  | operatingTimeSave
  -- channels and banks
  | channelCommandWrite (p : Path) (c : Chan) (v : Nat)
  | channelEnable (p : Path) (c : Chan)
  | channelDisable (p : Path) (c : Chan)
  | channelDisableForced (p : Path) (c : Chan)
  | channelClearOvercurrent (p : Path) (c : Chan)
  | channelOvercurrentTrip (c : Chan)
  | channelShortCircuitTrip (c : Chan)
  | channelThermalLatch (c : Chan) (deltaT junction : Int)
  | channelThermalClear (c : Chan)
  | channelRetryDue (c : Chan)
  | channelRetryRestore (c : Chan)
  | channelLatchOffClear (c : Chan)
  | openLoadDetected (c : Chan)
  | bankSupplyFault (d : Door) (cause : Fin 3)
  | bankSupplyLost (d : Door) (tenthVolts : Nat)
  | bankSupplyReturn (d : Door) (tenthVolts : Nat)
  -- inputs
  | inputFilterChange (item : InputId)
  | receiverFreshnessTimeout (g : RxGroup)
  | inputRangeFault (m : Measured) (c : InputCause)
  | plausibilityFault (d : Door) (c : Check)
  | expectationTimeout (d : Door) (n : Fin 12)
  | inputFaultClear (m : Measured)
  | tiFunctionFaultReset (n : Fin 5)
  | tiFunctionEmergencyReset (n : Fin 5)
  | tiFunctionAutoCloseSuspend (n : Fin 5) (on : Bool)
  | commandSourceTimeout (c : CmdSource)
  | networkPermitTimeout
  -- Seam, Buckle, lanes
  | seamBlockReceived (b : SeamBlock)
  | linkAckReceived (e : LinkEnd) (seqs : List Nat)
  | seamResendTimeout (e : LinkEnd) (seq : Nat)
  | linkRetrain (k : Link) (acked : Nat)
  | commitApply
  | commitAckReceived (a : AckPayload)
  | ackTimeout
  | standbyNoCommitTimeout
  | seamMonitorTimeout
  | fullCopyStart
  | strobeLossRevocation
  | grantFromNoGrant
  | holdWindowExpiry
  | railDisagreement
  | beliefMismatch (l : Lane)
  | handoverCommand (p : Path)
  | switchover
  | holdRelease
  | lockstepMismatch (l : Lane) (unit : Fin 5) (group : Fin 5) (checker : Fin 3)
  | uncorrectableMemoryError (l : Lane)
  | injectionDue (l : Lane) (r : Injection)
  | powerGood (dc : Bool) (vin : Nat) (plug : Fin 64) (selfTestOk : Bool)
  | logicSupplyFail
  | laneStart (l : Lane) (r : StartResult)
  | seamUpTimeout (l : Lane)
  | rateDetectionTimeout (l : Lane)
  | cleanRunElapsed (l : Lane)
  | laneRestart (l : Lane)
  | liningEntry
  | liningRetryStart (p : Path)
  | restartHaltedLane (p : Path) (l : Lane)
  -- recorder
  | nandWrite (l : Lane) (programOk : List Bool)
  | nandEraseComplete (l : Lane) (ok : Bool)
  | chatterWindowEnd (d : Door)
  | cursorPositionWrite (p : Path) (k : Fin 4) (v : Nat)
  | cursorRead (p : Path) (k : Fin 4) (unreadable : List Nat)
  | clearRecords (p : Path)
  | clearRecordsAndLedger (p : Path)
  | clearErase (l : Lane)
  -- CAN ports
  | canFrameReceived (q : Port) (x : CanRx)
  | canCandidateTimeout (q : Port)
  | canErrorPassive (q : Port)
  | canBusOff (q : Port)
  | canBusOffRecovery (q : Port)
  | canQuarantineEnd (q : Port)
  | canSubmit (q : Port) (mailbox : Fin 32) (id : Nat) (tag : Option Nat) (data : Bytes)
  | canTimeTagReached (q : Port) (mailbox : Fin 32)
  | canFrameSent (q : Port) (mailbox : Fin 32)
  | canNoAckAbort (q : Port) (mailbox : Fin 32)
  | canCancel (q : Port) (mailbox : Fin 32) (won acked : Bool)
  | solitaryBeacon (q : Port)
  -- CANopen
  | nmtStartRemoteNode (q : Port) (node : Nat)
  | nmtEnterPreoperational (q : Port) (node : Nat)
  | nmtStopRemoteNode (q : Port) (node : Nat)
  | nmtResetCommunication (q : Port) (node : Nat)
  | nmtResetNode (q : Port) (node : Nat)
  | sdoRequest (q : Port) (server : Fin 2) (r : SdoReq)
  | sdoTransferTimeout (server : Fin 2)
  | rpdoReceived (q : Port) (n : Fin 32) (data : Bytes)
  | rpdoDeadlineExpiry (n : Fin 32)
  | tpdoTransmit (n : Fin 32)
  | syncReceived (q : Port) (counter : Option Nat)
  | syncWindowClose
  | syncProduce
  | timeReceived (q : Port) (utcSeconds : Nat) (ms : Nat)
  | heartbeatProduce
  | heartbeatConsumerTimeout (k : Fin 16)
  | errorHistoryClear (p : Path)
  | lssSwitchStateGlobal (q : Port) (configuration : Bool)
  | lssSwitchStateSelective (q : Port) (vendor product revision serial : Nat)
  | lssConfigureNodeId (q : Port) (id : Nat)
  | lssConfigureBitTiming (q : Port) (table index : Nat)
  | lssActivateBitTiming (q : Port) (delayMs : Nat)
  | lssStoreConfiguration (q : Port)
  | lssInquire (q : Port) (what : Fin 5)
  | lssIdentifyRemoteSlave (q : Port) (vendor product revLow revHigh serLow serHigh : Nat)
  | lssIdentifyNonconfigured (q : Port)
  | lssFastscan (q : Port) (idNumber bitCheck : Nat) (lssSub lssNext : Fin 4)
  | canPortEnable (p : Path) (q : Port)
  | canPortDisable (p : Path) (q : Port)
  | canPortDisableForced (p : Path) (q : Port)
  -- backbone and time
  | backboneLinkLoss (x : Fin 2)
  | dhcpTimeout
  | dhcpLease (ip mask gateway : Nat)
  | arpRequest (service : Bool) (ip : Nat)
  | icmpEcho (service : Bool) (ip : Nat)
  | statusTelegramDue
  | pdPullRequest (comId : Nat)
  | commandTelegram (source seq : Nat) (dataset : Bytes)
  | gatewayRead (p : Path) (tcp : Bool) (index sub : Nat)
  | gatewayWrite (p : Path) (tcp : Bool) (index sub : Nat) (data : Bytes)
  | gatewayRequestTimeout (p : Path)
  | tcpConnectionClose (p : Path)
  | ptpSyncReceived (offsetNs : Int) (delayNs : Nat) (grandmaster : Nat) (utcOffset : Int) (port : PtpPort)
  | sntpPoll
  | sntpReply (utcMs : Nat) (stratum : Nat) (alarm : Bool)
  | syncSourceTimeout
  | ptpReturn
  | wallTimeSet (p : Path)
  -- dictionary
  | dictionaryWrite (p : Path) (index sub : Nat) (data : Bytes)
  | storeAll (p : Path) (signature : Nat)
  | storeCommunication (p : Path) (signature : Nat)
  | storeApplication (p : Path) (signature : Nat)
  | storeComplete (ok : Bool)
  | restoreAll (p : Path) (signature : Nat)
  | restoreCommunication (p : Path) (signature : Nat)
  | restoreApplication (p : Path) (signature : Nat)
  | modeSelectWrite (p : Path) (v : Nat)
  -- Overlay
  | legacyStagedWrite (index sub value : Nat)
  | gRecordRead (p : Path)
  | gRecordClear (p : Path)
  | legacyBusIdleAccept
  -- update, service, authorisation
  | updatePrepare (p : Path)
  | prepareComplete
  | updateChunk (p : Path) (data : Bytes)
  | updateVerify (p : Path)
  | updateLeapfrog (p : Path)
  | leapfrogStepDone (ok : Bool)
  | updateRollback (p : Path)
  | updateAbort (p : Path)
  | serviceWindowUpdate (p : Path)
  | serviceWindowOpen (p : Path)
  | serviceWindowClose (p : Path)
  | serviceWindowExpiry
  | authorisationChallenge (p : Path)
  | authorisationResponse (p : Path) (response : Bytes)
  | authorisationClose (p : Path)
  | challengeExpiry (p : Path)
  | authorisationTimeout (p : Path)
  | authorisationLockoutEnd (p : Path)
  | maintenanceKeyWrite (p : Path) (key : Bytes)
  | doorwayBlockImport (p : Path) (data : Bytes)
  -- events
  | testEvent (p : Path) (n : Nat)
  | restoreReactionDefaults (p : Path)
  | occurrenceHoldExpiry (scope : Fin 13) (n : Fin 64)
  -- rows added to the table last
  | backupDomainSupplyFail
  | enclosureCoverOpened
  | backboneLinkRestored (x : Fin 2)
  | tcpConnectionOpen (p : Path)
  | codingPlugChange (v : Fin 64)
  | openPhaseDetected (a : Axis)
  | chunkReportTimeout
  | openLoadCleared (c : Chan)
  | bankFaultCleared (d : Door)
  | canBusOffEventClear (q : Port)
  | grantRequestWaitExpiry (l : Lane)
  | trainOutputThermalShutdown (n : Fin 4)
  | trainOutputThermalRestart (n : Fin 4)
deriving DecidableEq, Repr

end Sys2Proof
end

