-- ==== Sys2Proof/Config.lean ====
section
/-! DEFINITION. What the manual leaves open and the machine goes on with: constants without a body, so that nothing can
be proved of a particular value. -/

namespace Sys2Proof.Config

/-- The random 8-byte challenge of the n-th authorisation request (R567); log entry 12. -/
opaque challenge : Nat → BitVec 64

/-- The verdict of ECDSA P-256 over a 32-byte digest under Trelong's public key (key ID, digest, signature): the keys
are not in the manual (R560); log entry 13. -/
opaque ecdsaValid : Nat → Bytes → Bytes → Bool

/-- The wall time, µs, the backup domain's clock reads at a start, as a function of the time it was saved at and the
number of power cycles: how long the module was off is not the module's state (R204); log entry 14. -/
opaque rtcMicros : Nat → Nat → Nat

/-- Whether a Seam block first goes out on link 2, by sequence number, with both links up: the manual spreads blocks
over the links without saying how (R314); log entry 15. -/
opaque secondLink : Nat → Bool

/-- The EDS the module stores for the mode in force (0x1021): its text is not in the manual (R513); log entry 16. -/
opaque storedEds : Bool → Bytes

/-- Bus load of a port in a frame, %: the bits of the frames on the bus are not in the module's state (P:15);
log entry 17. -/
opaque busLoad : Nat → Nat → BitVec 7

/-- The number of a mailbox request's attempts delayed beyond one bit time: physical timing (0x2904:03); log entry 17. -/
opaque lateReleases : Nat → BitVec 32

/-- A stroke time of a G-record, ms, where the cycle did not reach both of its phases: the manual names no value (R549);
by G number and offset; log entry 18. -/
opaque legacyStroke : Nat → Nat → BitVec 16

/-- Release jitter of the SYNC with a tag, µs: physical timing (R470, 0x2905:04); log entry 17. -/
opaque syncJitter : Nat → BitVec 16

/-- The phase current reference, mA, that the position loop of a moving axis asks for: by axis, set-point, estimated position
and velocity (R108 order 6); the manual gives the limits of the current, not the law; log entry 139. -/
opaque currentReference : Nat → Int → Int → Int → Nat

/-- The greatest phase current, mA, that a grant of charge credits allows in a stitch (R109); log entry 139. -/
opaque creditCurrent : Nat → Nat

/-- The next state of an axis's current loop: by its state, the reference and the measured amplitude (R103); log entry 139. -/
opaque loopState : Int → Nat → Int → Int

/-- The state of a current loop in tracking whose output equals the duty cycles applied to its half-bridges at a commanded
angle (R306); log entry 139. -/
opaque loopTracking : List Nat → Int → Int

/-- The duty cycle, 0.01 %, of a half-bridge: by its number, the loop's state, the commanded angle and the motor-bus voltage
corrected for (R103); log entry 139. -/
opaque duty : Nat → Int → Int → Nat → Nat

/-- Whether the frame a port has next in arbitration has won it at a moment of the frame clock, µs, by port: the bits on the
bus are not in the module's state (R10, R462); log entry 143. -/
opaque arbitrationWon : Nat → Nat → Bool

/-- The delta digest of the commit of a frame: CRC-32C over delta payloads whose layout the manual does not give (R314, R315,
R321); log entry 142. -/
opaque deltaDigest : Nat → BitVec 32

end Sys2Proof.Config
end

