-- ==== Sys2Proof/Machine/Codes.lean ====
section
/-! DEFINITION. The codes the manual gives the named things of the commands: sides, lanes, ports, paths, groups. -/

namespace Sys2Proof

/-- The movers that follow a generator (R116): leaf 1 and leaf 2, or the step. -/
def Group.movers : Group → List (Fin 3)
  | .leaves => [0, 1]
  | .step => [2]

/-- Source code of a configuration change by its path (R398). -/
def Path.source : Path → Nat
  | .sdo1 => 1
  | .sdo2 => 2
  | .gateway _ => 3
  | .x9 => 4
  | .rpdo _ => 1
  | .trdp => 3

/-- Side number: 1 A, 2 B. -/
def Side.code : Side → Nat
  | .a => 1
  | .b => 2

/-- Lane number: 1 Lane A, 2 Lane B. -/
def Lane.code : Lane → Nat
  | .a => 1
  | .b => 2

/-- The other lane. -/
def Lane.other : Lane → Lane
  | .a => .b
  | .b => .a

/-- CAN port number in events (R584). -/
def Port.code : Port → Nat
  | .x7 => 7
  | .x8 => 8

/-- The port object P (R485). -/
def Port.obj : Port → Nat
  | .x7 => 0x2900
  | .x8 => 0x2901

/-- Path code of R567: 1 SDO server 1, 2 SDO server 2, 3 gateway, 4 service port. -/
def Path.code : Path → Nat
  | .sdo1 => 1
  | .sdo2 => 2
  | .gateway _ => 3
  | .x9 => 4
  | .rpdo _ => 1
  | .trdp => 3

/-- Index of a receiver group: doorways first, then the train inputs. -/
def RxGroup.idx : RxGroup → Fin 13
  | .door d => ⟨d.val, by omega⟩
  | .train => 12

/-- The receiver group of an input. -/
def InputId.group : InputId → Fin 13
  | .di d _ => ⟨d.val, by omega⟩
  | .ti _ => 12

/-- Input number of an edge in source data (R616). -/
def Edge.item : Edge → Nat
  | .ea => 13
  | .eb => 14

/-- Index of a condition in 0x2105:02. -/
def BeltCond.idx : BeltCond → Fin 6
  | .bus1 => 0
  | .sag => 1
  | .bus2 => 2
  | .bus3 => 3
  | .loss => 4
  | .thermal => 5

/-- Block type code (R309). -/
def BlockBody.type : BlockBody → Nat
  | .delta => 1
  | .commit _ => 2
  | .record => 3
  | .image => 4
  | .digest _ _ _ => 5
  | .ack _ => 6
  | .linkAck _ => 7
  | .status _ => 8
  | .test => 9
  | .fault _ => 10
  | .other => 11

end Sys2Proof
end

