-- ==== Sys2Proof/Machine/Bits.lean ====
section
/-! DEFINITION. Plain arithmetic on the numbers the ZD12 handles: fixed-width wrap-around, little-endian bytes,
signed encodings, bit tests, and the sparse register file in its canonical form. -/

namespace Sys2Proof

/-- `wrap n x`: `x` in an unsigned register of `n` bits. -/
def wrap (n x : Nat) : Nat := x % 2 ^ n

/-- Bit `i` of `x`. -/
def bitOf (x i : Nat) : Bool := x / 2 ^ i % 2 == 1

/-- A Bool as a bit. -/
def b2n (b : Bool) : Nat := if b then 1 else 0

/-- `x` with bit `i` set to `b`. -/
def setBit (x i : Nat) (b : Bool) : Nat :=
  x - b2n (bitOf x i) * 2 ^ i + b2n b * 2 ^ i

/-- The bits of a list, first element bit 0. -/
def bitsToNat : List Bool → Nat
  | [] => 0
  | b :: bs => b2n b + 2 * bitsToNat bs

/-- `le k x`: the `k` low bytes of `x`, little-endian. -/
def le : Nat → Nat → Bytes
  | 0, _ => []
  | k + 1, x => x % 256 :: le k (x / 256)

/-- `be k x`: the `k` low bytes of `x`, big-endian. -/
def be (k x : Nat) : Bytes := (le k x).reverse

/-- The number a little-endian byte string spells. -/
def ofLe : Bytes → Nat
  | [] => 0
  | b :: bs => b % 256 + 256 * ofLe bs

/-- `zeros n`: `n` zero bytes. -/
def zeros (n : Nat) : Bytes := List.replicate n 0

/-- `padTo n bs`: `bs` cut or filled with zeros to `n` bytes. -/
def padTo (n : Nat) (bs : Bytes) : Bytes := bs.take n ++ zeros (n - bs.length)

/-- Two's complement of an integer in `n` bits. -/
def encInt (n : Nat) (x : Int) : Nat := (x % (2 ^ n : Int)).toNat

/-- The signed reading of an `n`-bit register. -/
def decInt (n x : Nat) : Int := if x % 2 ^ n < 2 ^ (n - 1) then (x % 2 ^ n : Nat) else (x % 2 ^ n : Nat) - (2 ^ n : Int)

/-- An integer brought into an interval. -/
def clampInt (lo hi x : Int) : Int := if x < lo then lo else if hi < x then hi else x

/-- Absolute value as a natural number. -/
def absN (x : Int) : Nat := x.natAbs

/-- `divUp a b`: `a / b` rounded up; 0 where `b` is 0. -/
def divUp (a b : Nat) : Nat := if b = 0 then 0 else (a + b - 1) / b

/-- One Newton step of the integer square root. -/
def isqrtStep (n x : Nat) : Nat := if x = 0 then 0 else (x + n / x) / 2

/-- Integer square root by Newton's method from above, with the iteration count as fuel. -/
def isqrtLoop (n : Nat) : Nat → Nat → Nat
  | 0, x => x
  | k + 1, x => let y := isqrtStep n x; if y < x then isqrtLoop n k y else x

/-- The largest `r` with `r * r ≤ n`. -/
def isqrt (n : Nat) : Nat := if n = 0 then 0 else isqrtLoop n 200 (2 ^ (Nat.log2 n / 2 + 1))

/-! ## The register file -/

/-- A sparse register file: `(key, value)` pairs with strictly rising keys. A key not listed reads its default. -/
abbrev RegFile := List (Nat × Nat)

/-- The value listed for a key, if any. -/
def RegFile.find? : RegFile → Nat → Option Nat
  | [], _ => none
  | (k, v) :: m, key => if k = key then some v else RegFile.find? m key

/-- The value of a register whose default is `dflt`. -/
def RegFile.get (m : RegFile) (dflt key : Nat) : Nat := (RegFile.find? m key).getD dflt

/-- `ins m key v`: the file with `(key, v)` in its place. -/
def RegFile.ins : RegFile → Nat → Nat → RegFile
  | [], key, v => [(key, v)]
  | (k, w) :: m, key, v =>
    if key < k then (key, v) :: (k, w) :: m
    else if key = k then (key, v) :: m
    else (k, w) :: RegFile.ins m key v

/-- The file without an entry for `key`. -/
def RegFile.del : RegFile → Nat → RegFile
  | [], _ => []
  | (k, w) :: m, key => if k = key then RegFile.del m key else (k, w) :: RegFile.del m key

/-- Write a register: writing the default removes the entry, so that equal files are equal data. -/
def RegFile.put (m : RegFile) (dflt key v : Nat) : RegFile :=
  if v = dflt then RegFile.del m key else RegFile.ins m key v

/-- Keys strictly rising above `lo`, and no entry equal to its default. -/
def RegFile.wfFrom (dflt : Nat → Nat) : Option Nat → RegFile → Bool
  | _, [] => true
  | lo, (k, v) :: m =>
    (match lo with | none => true | some l => decide (l < k)) && decide (v ≠ dflt k) && RegFile.wfFrom dflt (some k) m

/-- The canonical form of a register file. -/
def RegFile.wf (dflt : Nat → Nat) (m : RegFile) : Bool := RegFile.wfFrom dflt none m

end Sys2Proof
end

