-- ==== Sys2Proof/Machine/EventTable.lean ====
section
/-! DEFINITION. The event table of the manual: class, scope, latch rule and default reaction byte of EV00 to EV63 (R578). -/

namespace Sys2Proof.Machine

/-- Event classes, codes 0 to 3 of R394. -/
inductive EvClass | info | warning | fault | safety
deriving DecidableEq, Repr

/-- The scope an event has; `either` is D for some items and M for others (R578). -/
inductive EvScopeKind | module | door | either
deriving DecidableEq, Repr

/-- The latch rules O, C and L of R578. -/
inductive EvLatch | occurrence | condition | latched
deriving DecidableEq, Repr

/-- One row of the table of R578. -/
structure EvRow where
  cls : EvClass
  scope : EvScopeKind
  latch : EvLatch
  byte : Nat
deriving DecidableEq, Repr

/-- The class code of R394. -/
def EvClass.code : EvClass → Nat
  | .info => 0
  | .warning => 1
  | .fault => 2
  | .safety => 3

/-- The table of R578, EV00 first. -/
def evTable : List EvRow :=
  [
   ⟨.warning, .module, .condition, 3⟩, ⟨.fault, .module, .condition, 7⟩, ⟨.fault, .module, .latched, 7⟩, ⟨.warning, .module, .condition, 3⟩,
   ⟨.warning, .module, .condition, 3⟩, ⟨.warning, .module, .condition, 3⟩, ⟨.warning, .module, .occurrence, 3⟩, ⟨.fault, .module, .occurrence, 7⟩,
   ⟨.fault, .module, .condition, 7⟩, ⟨.info, .module, .occurrence, 0⟩, ⟨.warning, .module, .condition, 3⟩, ⟨.warning, .module, .condition, 3⟩,
   ⟨.safety, .module, .latched, 7⟩, ⟨.fault, .module, .occurrence, 7⟩, ⟨.fault, .module, .occurrence, 7⟩, ⟨.fault, .module, .occurrence, 7⟩,
   ⟨.warning, .module, .occurrence, 3⟩, ⟨.fault, .module, .occurrence, 7⟩, ⟨.safety, .module, .latched, 7⟩, ⟨.info, .either, .occurrence, 0⟩,
   ⟨.info, .module, .occurrence, 0⟩, ⟨.warning, .module, .occurrence, 3⟩, ⟨.info, .module, .occurrence, 0⟩, ⟨.warning, .module, .condition, 3⟩,
   ⟨.info, .module, .occurrence, 0⟩, ⟨.info, .module, .occurrence, 0⟩, ⟨.warning, .module, .condition, 3⟩, ⟨.warning, .module, .condition, 3⟩,
   ⟨.warning, .module, .condition, 3⟩, ⟨.warning, .module, .condition, 3⟩, ⟨.warning, .module, .condition, 3⟩, ⟨.warning, .module, .condition, 3⟩,
   ⟨.warning, .module, .condition, 3⟩, ⟨.warning, .module, .condition, 3⟩, ⟨.safety, .module, .condition, 7⟩, ⟨.safety, .module, .condition, 7⟩,
   ⟨.warning, .door, .occurrence, 3⟩, ⟨.safety, .module, .condition, 7⟩, ⟨.safety, .module, .latched, 7⟩, ⟨.warning, .module, .condition, 3⟩,
   ⟨.warning, .door, .occurrence, 3⟩, ⟨.warning, .door, .occurrence, 3⟩, ⟨.warning, .door, .condition, 3⟩, ⟨.fault, .door, .condition, 7⟩,
   ⟨.warning, .door, .occurrence, 3⟩, ⟨.fault, .door, .latched, 7⟩, ⟨.fault, .door, .latched, 7⟩, ⟨.safety, .door, .latched, 7⟩,
   ⟨.warning, .door, .condition, 3⟩, ⟨.info, .either, .occurrence, 1⟩, ⟨.fault, .door, .latched, 7⟩, ⟨.warning, .door, .occurrence, 3⟩,
   ⟨.fault, .door, .condition, 7⟩, ⟨.warning, .door, .condition, 3⟩, ⟨.info, .door, .occurrence, 1⟩, ⟨.warning, .door, .occurrence, 3⟩,
   ⟨.warning, .door, .condition, 3⟩, ⟨.warning, .door, .condition, 3⟩, ⟨.warning, .door, .condition, 3⟩, ⟨.fault, .either, .latched, 7⟩,
   ⟨.fault, .either, .latched, 7⟩, ⟨.info, .door, .condition, 1⟩, ⟨.info, .door, .occurrence, 1⟩, ⟨.warning, .door, .condition, 3⟩
]

/-- The row of EVn. -/
def evRow (n : Nat) : EvRow := evTable.getD n ⟨.info, .module, .occurrence, 0⟩

/-- The safety-class events, which make module healthy false (R578). -/
def isSafetyEvent (n : Nat) : Bool := (evRow n).cls = .safety

/-- The word with a bit for every safety-class event. -/
def safetyWord : Nat := ((List.range 64).filter isSafetyEvent).foldl (fun w n => w + 2 ^ n) 0

/-- An event is latched in a scope: EV59 and EV60 only in scope D (R578). -/
def isLatchedIn (n scope : Nat) : Bool :=
  (evRow n).latch = .latched && !((n == 59 || n == 60) && scope == 0)

/-- An event has no duration: transition 3 (R394, R578). -/
def isOccurrence (n : Nat) : Bool := (evRow n).latch = .occurrence

/-- The latched events of a doorway that a fault reset clears (R581). -/
def doorLatched : List Nat := [45, 46, 47, 50, 59, 60]

/-- The legacy code of an event (R543). -/
def legacyCode (n : Nat) : Option Nat :=
  if n = 40 || n = 41 then some 0xFF10
  else if n = 42 then some 0xFF11
  else if n = 45 then some 0xFF12
  else if n = 46 || n = 47 then some 0xFF13
  else if n = 48 then some 0xFF14
  else if n = 44 || (50 ≤ n && n ≤ 52) then some 0xFF15
  else if 55 ≤ n && n ≤ 57 then some 0xFF16
  else if n = 43 || n = 59 || n = 60 then some 0xFF17
  else if 34 ≤ n && n ≤ 38 then some 0xFF18
  else if n ≤ 4 || n = 58 then some 0xFF19
  else if 27 ≤ n && n ≤ 33 then some 0xFF1A
  else none

/-- The legacy event word of an event word (0x2001:02): bit n where an event of code 0xFF10 + n is set. -/
def legacyEvents (w : Nat) : Nat :=
  bitsToNat ((List.range 11).map (fun c => (List.range 64).any (fun n => legacyCode n == some (0xFF10 + c) && bitOf w n)))

/-- Only the events of R543 count in Overlay mode. -/
def legacyOnly (w : Nat) : Nat := bitsToNat ((List.range 64).map (fun n => bitOf w n && (legacyCode n).isSome))

end Sys2Proof.Machine
end

