-- ==== Sys2Proof/Machine/Objects.lean ====
section
/-! DEFINITION. The object tables of the manual as data: one row per sub-entry, or per run of sub-entries that one
table row lists, with its type, access, default, range and persistence (R58, R100, R144, R183, R211, R242, R274, R302,
R351, R388, R429, R444, R485, R508, R518, R524, R538, R577, R590). -/

namespace Sys2Proof.Machine

/-- The data types of R509. -/
inductive ObjType | bool | i8 | i16 | i32 | u8 | u16 | u32 | u40 | u48 | u64 | str | domain
deriving DecidableEq, Repr

/-- The access codes of R8. -/
inductive Access | ro | wo | rw | rwl | rwa
deriving DecidableEq, Repr

/-- The Persist column (R517). -/
inductive Persist | no | yes | fram
deriving DecidableEq, Repr

/-- One row of an object table: `off` is the offset in the item's block, or the index of a module object; the row
covers sub-indices `lo` to `hi`. `dflt` is the default's register contents (0 where the table says a dash; the
defaults that depend on the item are in `objDefault`). `rng` lists the values a write may carry; empty: any value of
the type. For a DOMAIN, `rng` bounds the length in bytes. -/
structure ObjRow where
  off : Nat
  lo : Nat
  hi : Nat
  ty : ObjType
  acc : Access
  dflt : Nat
  rng : List (Int × Int)
  per : Persist
  map : Bool
deriving DecidableEq, Repr

/-- Width in bits of a register of the type; 0 for strings and domains. -/
def ObjType.bits : ObjType → Nat
  | .bool => 1
  | .i8 | .u8 => 8
  | .i16 | .u16 => 16
  | .i32 | .u32 => 32
  | .u40 => 40
  | .u48 => 48
  | .u64 => 64
  | .str | .domain => 0

/-- Length in bytes of a value of the type by SDO (R509). -/
def ObjType.bytes : ObjType → Nat
  | .bool => 1
  | t => t.bits / 8

/-- A signed type. -/
def ObjType.signed : ObjType → Bool
  | .i8 | .i16 | .i32 => true
  | _ => false

/-- The value a register of the type holds. -/
def ObjType.value (t : ObjType) (raw : Nat) : Int := if t.signed then decInt t.bits raw else (raw : Int)

/-- Doorway blocks, B + offset (R58, R183, R274, R302). -/
def doorRows : List ObjRow :=
  [⟨0x0, 0x1, 0x1, .u8, .rwl, 0, [(0, 0), (1, 1)], .yes, false⟩,
   ⟨0x0, 0x2, 0x2, .u8, .rwl, 2, [(0, 2)], .yes, false⟩,
   ⟨0x0, 0x3, 0x3, .bool, .rwl, 1, [], .yes, false⟩,
   ⟨0x0, 0x4, 0x4, .u8, .rwl, 0, [(0, 0), (1, 1)], .yes, false⟩,
   ⟨0x0, 0x5, 0x5, .i8, .rwl, 1, [(-1, -1), (1, 1)], .yes, false⟩,
   ⟨0x0, 0x6, 0x6, .i8, .rwl, 255, [(-1, -1), (1, 1)], .yes, false⟩,
   ⟨0x1, 0x1, 0x1, .u8, .ro, 0, [], .no, false⟩,
   ⟨0x1, 0x2, 0x2, .u8, .ro, 0, [], .no, false⟩,
   ⟨0x1, 0x3, 0x3, .u16, .ro, 0, [], .no, false⟩,
   ⟨0x1, 0x4, 0x4, .u32, .ro, 0, [], .no, false⟩,
   ⟨0x1, 0x5, 0x5, .u8, .ro, 0, [], .no, false⟩,
   ⟨0x2, 0x1, 0x1, .u8, .rw, 0, [(1, 1), (2, 2), (3, 3), (4, 4)], .no, false⟩,
   ⟨0x2, 0x2, 0x2, .u8, .ro, 0, [], .no, false⟩,
   ⟨0x2, 0x3, 0x3, .u8, .rwl, 7, [(0, 7)], .yes, false⟩,
   ⟨0x2, 0x4, 0x4, .bool, .rwl, 0, [], .yes, false⟩,
   ⟨0x3, 0x1, 0x1, .u16, .rwl, 2800, [(1000, 10000)], .yes, false⟩,
   ⟨0x3, 0x2, 0x2, .u16, .rwl, 3200, [(1000, 10000)], .yes, false⟩,
   ⟨0x3, 0x3, 0x3, .u16, .rwl, 200, [(120, 400)], .yes, false⟩,
   ⟨0x3, 0x4, 0x4, .u16, .rwl, 1000, [(100, 5000)], .yes, false⟩,
   ⟨0x3, 0x5, 0x5, .u16, .rwl, 1500, [(200, 5000)], .yes, false⟩,
   ⟨0x3, 0x6, 0x6, .u16, .rwl, 100, [(0, 1000)], .yes, false⟩,
   ⟨0x3, 0x9, 0x9, .u16, .rwl, 0, [(0, 0), (1, 600)], .yes, false⟩,
   ⟨0x4, 0x1, 0x1, .u8, .rwl, 3, [(1, 10)], .yes, false⟩,
   ⟨0x4, 0x2, 0x2, .u32, .rwl, 0, [(0, 0), (1, 2000000)], .yes, false⟩,
   ⟨0x4, 0x3, 0x3, .u16, .rwl, 1000, [(200, 10000)], .yes, false⟩,
   ⟨0x4, 0x4, 0x4, .u16, .rwl, 2000, [(500, 10000)], .yes, false⟩,
   ⟨0x4, 0x5, 0x5, .u8, .rwl, 3, [(0, 10)], .yes, false⟩,
   ⟨0x4, 0x6, 0x6, .bool, .rwl, 0, [], .yes, false⟩,
   ⟨0x5, 0x1, 0x1, .u8, .rwl, 31, [(0, 31)], .yes, false⟩,
   ⟨0x5, 0x2, 0x2, .u32, .rwl, 0x4E20, [(10000, 40000)], .yes, false⟩,
   ⟨0x5, 0x3, 0x3, .i16, .rwl, 100, [(50, 400)], .yes, false⟩,
   ⟨0x5, 0x4, 0x4, .bool, .rwl, 1, [], .yes, false⟩,
   ⟨0x5, 0x5, 0x5, .i16, .rwl, 50, [(10, 150)], .yes, false⟩,
   ⟨0x5, 0x6, 0x6, .i16, .rwl, 150, [(50, 400)], .yes, false⟩,
   ⟨0x5, 0x7, 0x7, .i32, .rwl, 0x4C4B40, [(1000000, 10000000)], .yes, false⟩,
   ⟨0x5, 0x8, 0x8, .u32, .rwl, 0x2710, [(0, 50000)], .yes, false⟩,
   ⟨0x5, 0x9, 0x9, .i16, .rwl, 10, [(0, 50)], .yes, false⟩,
   ⟨0x5, 0xA, 0xA, .bool, .rwl, 1, [], .yes, false⟩,
   ⟨0x6, 0x1, 0x1, .u8, .rwl, 1, [(0, 0), (1, 1), (2, 2)], .yes, false⟩,
   ⟨0x6, 0x2, 0x2, .u8, .rwl, 50, [(10, 90)], .yes, false⟩,
   ⟨0x6, 0x3, 0x3, .u8, .rwl, 0, [(0, 0), (1, 1)], .yes, false⟩,
   ⟨0x6, 0x4, 0x4, .u16, .rwl, 1000, [(300, 5000)], .yes, false⟩,
   ⟨0x6, 0x5, 0x5, .u16, .rwl, 1000, [(300, 5000)], .yes, false⟩,
   ⟨0x7, 0x1, 0x1, .u16, .rwl, 2000, [(0, 10000)], .yes, false⟩,
   ⟨0x7, 0x2, 0x2, .u16, .rwl, 500, [(2, 10000)], .yes, false⟩,
   ⟨0x7, 0x3, 0x3, .u16, .rwl, 500, [(2, 10000)], .yes, false⟩,
   ⟨0x7, 0x4, 0x4, .u16, .rwl, 250, [(2, 10000)], .yes, false⟩,
   ⟨0x7, 0x5, 0x5, .u16, .rwl, 250, [(2, 10000)], .yes, false⟩,
   ⟨0x7, 0x6, 0x6, .bool, .rwl, 1, [], .yes, false⟩,
   ⟨0x7, 0x7, 0x7, .bool, .rwl, 0, [], .yes, false⟩,
   ⟨0x8, 0x1, 0x10, .u8, .rwl, 0, [(0, 10)], .yes, false⟩,
   ⟨0x9, 0x1, 0x1, .u8, .ro, 0, [], .yes, false⟩,
   ⟨0x9, 0x2, 0xC, .u8, .rwl, 0, [(0, 13)], .yes, false⟩,
   ⟨0x9, 0xD, 0xD, .u16, .rwl, 0, [(0, 4094)], .yes, false⟩,
   ⟨0x9, 0xE, 0x19, .u8, .rwl, 5, [(1, 100)], .yes, false⟩,
   ⟨0x9, 0x1A, 0x1A, .u16, .rwl, 200, [(50, 2000)], .yes, false⟩,
   ⟨0x9, 0x1B, 0x1B, .u16, .rwl, 500, [(100, 5000)], .yes, false⟩,
   ⟨0x9, 0x1C, 0x1C, .u16, .rwl, 500, [(100, 5000)], .yes, false⟩,
   ⟨0x9, 0x1D, 0x1D, .u16, .ro, 0, [], .no, false⟩,
   ⟨0x9, 0x1E, 0x1E, .u16, .ro, 0, [], .no, false⟩,
   ⟨0x9, 0x1F, 0x1F, .u16, .ro, 0, [], .no, false⟩,
   ⟨0x9, 0x20, 0x20, .u8, .ro, 0, [], .no, false⟩,
   ⟨0x9, 0x21, 0x21, .u32, .ro, 0, [], .fram, false⟩,
   ⟨0x9, 0x22, 0x2D, .u16, .ro, 0, [], .no, false⟩,
   ⟨0xA, 0x1, 0x1, .u8, .rwl, 1, [(0, 0), (1, 1), (2, 2), (3, 3), (4, 4)], .yes, false⟩,
   ⟨0xA, 0x2, 0x2, .u8, .rwl, 2, [(0, 4)], .yes, false⟩,
   ⟨0xA, 0x3, 0x3, .u8, .ro, 0, [], .no, false⟩,
   ⟨0xA, 0x4, 0x4, .u8, .ro, 0, [], .no, false⟩,
   ⟨0xA, 0x5, 0x5, .u16, .ro, 0, [], .no, false⟩,
   ⟨0xA, 0x6, 0x6, .u16, .ro, 0, [], .no, false⟩,
   ⟨0xA, 0x7, 0x7, .u16, .rwl, 30, [(5, 600)], .yes, false⟩,
   ⟨0xB, 0x1, 0x1, .u8, .rwl, 1, [(0, 0), (1, 1)], .yes, false⟩,
   ⟨0xB, 0x2, 0x2, .u16, .ro, 0, [], .no, false⟩,
   ⟨0xB, 0x3, 0x3, .u16, .ro, 0, [], .no, false⟩,
   ⟨0xB, 0x4, 0x4, .u32, .ro, 0, [], .fram, false⟩,
   ⟨0xC, 0x1, 0x1, .u8, .rwl, 0, [(0, 0), (1, 1)], .yes, false⟩,
   ⟨0xC, 0x2, 0x2, .u8, .rwl, 3, [(0, 3)], .yes, false⟩,
   ⟨0xC, 0x3, 0x3, .bool, .ro, 0, [], .no, false⟩,
   ⟨0xC, 0x4, 0x4, .u32, .ro, 0, [], .fram, false⟩,
   ⟨0xD, 0x1, 0x1, .bool, .rw, 1, [], .no, true⟩,
   ⟨0xD, 0x2, 0x2, .bool, .rwl, 1, [], .yes, false⟩,
   ⟨0xD, 0x3, 0x3, .bool, .ro, 0, [], .no, false⟩,
   ⟨0xE, 0x1, 0x1, .u48, .ro, 0, [], .fram, false⟩,
   ⟨0xE, 0x2, 0x2, .u48, .ro, 0, [], .fram, false⟩,
   ⟨0xE, 0x3, 0x3, .u48, .ro, 0, [], .fram, false⟩,
   ⟨0xE, 0x4, 0x4, .u8, .ro, 0, [], .no, false⟩,
   ⟨0xE, 0x5, 0x5, .u48, .ro, 0, [], .fram, false⟩,
   ⟨0xE, 0x6, 0x6, .u48, .ro, 0, [], .fram, false⟩,
   ⟨0xE, 0x7, 0x7, .u48, .ro, 0, [], .fram, false⟩,
   ⟨0xE, 0x8, 0x8, .u48, .ro, 0, [], .fram, false⟩,
   ⟨0xE, 0x9, 0x9, .u48, .ro, 0, [], .fram, false⟩,
   ⟨0xF, 0x1, 0x1, .u48, .ro, 0, [], .no, false⟩,
   ⟨0xF, 0x2, 0x2, .u8, .ro, 0, [], .no, false⟩,
   ⟨0xF, 0x3, 0x3, .u32, .ro, 0, [], .no, false⟩,
   ⟨0xF, 0x4, 0x4, .u32, .ro, 0, [], .no, false⟩,
   ⟨0xF, 0x5, 0x5, .i16, .ro, 0, [], .no, false⟩,
   ⟨0xF, 0x6, 0x6, .u48, .ro, 0, [], .no, false⟩,
   ⟨0x10, 0x1, 0x1, .u64, .ro, 0, [], .no, false⟩,
   ⟨0x10, 0x2, 0x2, .u8, .wo, 0, [(1, 1)], .no, false⟩,
   ⟨0x10, 0x3, 0x3, .u8, .ro, 0, [], .no, false⟩,
   ⟨0x11, 0x1, 0x1, .u8, .rw, 0, [(1, 1), (2, 2), (3, 3)], .no, false⟩,
   ⟨0x11, 0x2, 0x2, .u8, .ro, 0, [], .fram, false⟩,
   ⟨0x11, 0x3, 0x3, .u8, .ro, 0, [], .fram, false⟩,
   ⟨0x11, 0x4, 0x4, .bool, .ro, 0, [], .no, false⟩,
   ⟨0x11, 0x5, 0x5, .bool, .ro, 0, [], .no, false⟩,
   ⟨0x12, 0x1, 0x1, .u8, .rwa, 0, [(0, 0), (1, 1)], .no, false⟩,
   ⟨0x12, 0x2, 0x2, .i8, .rw, 0, [(-1, -1), (0, 0), (1, 1)], .no, false⟩,
   ⟨0x12, 0x3, 0x3, .u8, .rw, 3, [(0, 7)], .no, false⟩,
   ⟨0x12, 0x4, 0x4, .u32, .rw, 0xC350, [(10000, 100000)], .no, false⟩,
   ⟨0x12, 0x5, 0x5, .bool, .rw, 0, [], .no, false⟩,
   ⟨0x13, 0x1, 0x1, .bool, .rwl, 1, [], .yes, false⟩,
   ⟨0x13, 0x2, 0x2, .u16, .rwl, 20, [(5, 1000)], .yes, false⟩,
   ⟨0x13, 0x3, 0x3, .u16, .rwl, 600, [(60, 3600)], .yes, false⟩,
   ⟨0x13, 0x4, 0x4, .bool, .ro, 0, [], .no, false⟩,
   ⟨0x13, 0x5, 0x5, .u32, .ro, 0, [], .fram, false⟩,
   ⟨0x14, 0x1, 0x1, .u8, .rwa, 0, [(1, 1), (2, 2)], .no, false⟩,
   ⟨0x14, 0x2, 0x2, .u8, .ro, 0, [], .no, false⟩,
   ⟨0x14, 0x3, 0x3, .u8, .ro, 0, [], .no, false⟩,
   ⟨0x14, 0x4, 0x4, .u8, .ro, 0, [], .fram, false⟩,
   ⟨0x14, 0x5, 0x5, .u8, .ro, 0, [], .no, false⟩,
   ⟨0x15, 0x1, 0x1, .u8, .ro, 0, [], .no, false⟩,
   ⟨0x15, 0x2, 0x2, .u64, .wo, 0, [], .no, false⟩,
   ⟨0x15, 0x3, 0x3, .u8, .rw, 0, [(0, 0), (1, 1)], .no, false⟩,
   ⟨0x15, 0x4, 0x4, .u8, .ro, 0, [], .no, false⟩,
   ⟨0x15, 0x5, 0x5, .u32, .ro, 0, [], .no, false⟩,
   ⟨0x16, 0x1, 0x1, .u32, .ro, 0, [], .no, false⟩,
   ⟨0x16, 0x2, 0x2, .u32, .ro, 0, [], .fram, false⟩,
   ⟨0x16, 0x3, 0x3, .i16, .ro, 0, [], .no, false⟩,
   ⟨0x16, 0x4, 0x4, .i16, .ro, 0, [], .no, false⟩,
   ⟨0x16, 0x5, 0x5, .i16, .ro, 0, [], .no, false⟩,
   ⟨0x16, 0x6, 0x6, .u16, .ro, 0, [], .no, false⟩,
   ⟨0x16, 0x7, 0x7, .u16, .ro, 0, [], .no, false⟩,
   ⟨0x16, 0x8, 0x8, .u8, .ro, 0, [], .no, false⟩,
   ⟨0x16, 0x9, 0xB, .u8, .rwl, 1, [(0, 0), (1, 1), (2, 2)], .yes, false⟩,
   ⟨0x16, 0xC, 0xC, .u8, .rwl, 0, [(0, 1)], .yes, false⟩,
   ⟨0x17, 0x1, 0x1, .u8, .rw, 0, [(0, 0), (1, 8)], .yes, false⟩,
   ⟨0x17, 0x2, 0x2, .u8, .rw, 0, [(0, 0), (1, 8)], .yes, false⟩]

/-- Channel blocks, C + offset (R274). -/
def chanRows : List ObjRow :=
  [⟨0x0, 0x1, 0x1, .u8, .rwl, 0, [(0, 0), (1, 1)], .yes, false⟩,
   ⟨0x0, 0x2, 0x2, .u8, .rwl, 0, [(0, 0), (1, 1)], .yes, false⟩,
   ⟨0x0, 0x3, 0x3, .u8, .rwl, 0, [(0, 2)], .yes, false⟩,
   ⟨0x0, 0x4, 0x4, .u8, .rwl, 30, [(1, 200)], .yes, false⟩,
   ⟨0x0, 0x5, 0x5, .u8, .rwl, 60, [(20, 80)], .yes, false⟩,
   ⟨0x0, 0x6, 0x6, .u16, .rwl, 40, [(0, 0), (10, 1000)], .yes, false⟩,
   ⟨0x0, 0x7, 0x7, .u16, .rwl, 40, [(0, 0), (8, 480)], .yes, false⟩,
   ⟨0x0, 0x8, 0x8, .u16, .rwl, 100, [(20, 5000)], .yes, false⟩,
   ⟨0x0, 0x9, 0x9, .u8, .rwl, 3, [(0, 10)], .yes, false⟩,
   ⟨0x0, 0xA, 0xA, .u16, .rwl, 100, [(20, 1000)], .yes, false⟩,
   ⟨0x0, 0xB, 0xB, .u16, .rwl, 500, [(2, 10000)], .yes, false⟩,
   ⟨0x0, 0xC, 0xC, .u16, .rwl, 500, [(2, 10000)], .yes, false⟩,
   ⟨0x1, 0x1, 0x1, .u8, .rw, 0, [(0, 0), (1, 1), (2, 2)], .no, true⟩,
   ⟨0x1, 0x2, 0x2, .u8, .rw, 0, [(1, 1), (2, 2), (3, 3), (4, 4)], .no, false⟩,
   ⟨0x1, 0x3, 0x3, .u8, .ro, 0, [], .no, false⟩,
   ⟨0x1, 0x4, 0x4, .u8, .ro, 0, [], .no, false⟩,
   ⟨0x1, 0x5, 0x5, .u16, .ro, 0, [], .no, false⟩,
   ⟨0x1, 0x6, 0x6, .bool, .ro, 0, [], .no, false⟩,
   ⟨0x1, 0x7, 0x7, .u8, .ro, 3, [], .no, false⟩,
   ⟨0x2, 0x1, 0x1, .u16, .ro, 0, [], .no, false⟩,
   ⟨0x2, 0x2, 0x2, .i16, .ro, 0, [], .no, false⟩,
   ⟨0x2, 0x3, 0x3, .u16, .ro, 0, [], .no, false⟩,
   ⟨0x2, 0x4, 0x4, .i16, .ro, 0, [], .no, false⟩,
   ⟨0x2, 0x5, 0x5, .i16, .ro, 0, [], .no, false⟩,
   ⟨0x2, 0x6, 0x6, .i16, .ro, 0, [], .no, false⟩,
   ⟨0x3, 0x1, 0x1, .u32, .ro, 0, [], .fram, false⟩,
   ⟨0x3, 0x2, 0x2, .u32, .ro, 0, [], .fram, false⟩,
   ⟨0x3, 0x3, 0x3, .u32, .ro, 0, [], .fram, false⟩,
   ⟨0x3, 0x4, 0x4, .u32, .ro, 0, [], .fram, false⟩,
   ⟨0x3, 0x5, 0x5, .u32, .ro, 0, [], .fram, false⟩,
   ⟨0x3, 0x6, 0x6, .u32, .ro, 0, [], .fram, false⟩,
   ⟨0x3, 0x7, 0x7, .u32, .ro, 0, [], .fram, false⟩,
   ⟨0x3, 0x8, 0x8, .u32, .ro, 0, [], .fram, false⟩,
   ⟨0x3, 0x9, 0x9, .u32, .ro, 0, [], .fram, false⟩]

/-- Axis blocks, A + offset (R144, R183). -/
def axisRows : List ObjRow :=
  [⟨0x0, 0x1, 0x1, .u8, .rwl, 1, [(0, 0), (1, 1), (2, 2)], .yes, false⟩,
   ⟨0x0, 0x2, 0x2, .u16, .rwl, 200, [(48, 400)], .yes, false⟩,
   ⟨0x0, 0x3, 0x3, .u8, .rwl, 4, [(1, 16)], .yes, false⟩,
   ⟨0x0, 0x4, 0x4, .u32, .rwl, 0x9C40, [(1000, 200000)], .yes, false⟩,
   ⟨0x0, 0x5, 0x5, .i8, .rwl, 1, [(-1, -1), (1, 1)], .yes, false⟩,
   ⟨0x0, 0x6, 0x6, .bool, .rwl, 0, [], .yes, false⟩,
   ⟨0x0, 0x7, 0x7, .i16, .rwl, 2500, [(500, 3000)], .yes, false⟩,
   ⟨0x0, 0x8, 0x8, .i16, .rwl, 6000, [(1000, 8000)], .yes, false⟩,
   ⟨0x0, 0x9, 0x9, .u16, .rwl, 2000, [(100, 20000)], .yes, false⟩,
   ⟨0x0, 0xA, 0xA, .u16, .rwl, 8000, [(500, 60000)], .yes, false⟩,
   ⟨0x1, 0x1, 0x1, .i32, .rwl, 0x7A120, [(10000, 1500000)], .yes, false⟩,
   ⟨0x1, 0x2, 0x2, .i32, .rwl, 0x7A120, [(10000, 5000000)], .yes, false⟩,
   ⟨0x1, 0x3, 0x3, .i32, .rwl, 0x7A120, [(10000, 5000000)], .yes, false⟩,
   ⟨0x1, 0x4, 0x4, .i32, .rwl, 0x4C4B40, [(100000, 100000000)], .yes, false⟩,
   ⟨0x1, 0x5, 0x5, .i32, .rwl, 0xC350, [(10000, 100000)], .yes, false⟩,
   ⟨0x1, 0x6, 0x6, .i32, .rwl, 0x61A8, [(0, 200000)], .yes, false⟩,
   ⟨0x1, 0x7, 0x7, .i32, .rwl, 0x2710, [(0, 200000)], .yes, false⟩,
   ⟨0x1, 0x8, 0x8, .i32, .rw, 0, [(0, 0), (10000, 1500000)], .no, true⟩,
   ⟨0x1, 0x9, 0x9, .i32, .rw, 0, [(0, 0), (10000, 5000000)], .no, true⟩,
   ⟨0x1, 0xA, 0xA, .i32, .rw, 0, [(0, 0), (10000, 5000000)], .no, true⟩,
   ⟨0x1, 0xB, 0xB, .i32, .ro, 0, [], .no, false⟩,
   ⟨0x1, 0xC, 0xC, .i32, .ro, 0, [], .no, false⟩,
   ⟨0x1, 0xD, 0xD, .i32, .ro, 0, [], .no, false⟩,
   ⟨0x2, 0x1, 0x1, .u8, .rw, 0, [(1, 1), (2, 2), (3, 3), (4, 4)], .no, false⟩,
   ⟨0x2, 0x2, 0x2, .u8, .ro, 0, [], .no, false⟩,
   ⟨0x2, 0x3, 0x3, .i32, .rw, 0, [], .no, false⟩,
   ⟨0x2, 0x4, 0x4, .i32, .ro, 0, [], .no, false⟩,
   ⟨0x2, 0x5, 0x5, .u32, .ro, 0, [], .no, false⟩,
   ⟨0x2, 0x6, 0x6, .u8, .ro, 0, [], .no, false⟩,
   ⟨0x2, 0x7, 0x7, .u16, .ro, 0, [], .no, false⟩,
   ⟨0x2, 0x8, 0x8, .u8, .ro, 0, [], .no, false⟩,
   ⟨0x3, 0x1, 0x1, .i32, .ro, 0, [], .no, false⟩,
   ⟨0x3, 0x2, 0x2, .i32, .ro, 0, [], .no, false⟩,
   ⟨0x3, 0x3, 0x3, .i32, .ro, 0, [], .no, false⟩,
   ⟨0x3, 0x4, 0x4, .i16, .ro, 0, [], .no, false⟩,
   ⟨0x3, 0x5, 0x5, .u8, .ro, 0, [], .no, false⟩,
   ⟨0x3, 0x6, 0x6, .i32, .ro, 0, [], .no, false⟩,
   ⟨0x3, 0x7, 0x7, .u32, .ro, 0, [], .fram, false⟩,
   ⟨0x3, 0x8, 0x8, .u32, .ro, 0, [], .fram, false⟩,
   ⟨0x3, 0x9, 0x9, .u32, .ro, 0, [], .fram, false⟩,
   ⟨0x3, 0xA, 0xA, .u32, .ro, 0, [], .fram, false⟩,
   ⟨0x3, 0xB, 0xB, .u8, .ro, 0, [], .no, false⟩,
   ⟨0x4, 0x1, 0x1, .u8, .ro, 0, [], .no, false⟩,
   ⟨0x4, 0x2, 0x2, .i16, .ro, 0, [], .no, false⟩,
   ⟨0x4, 0x3, 0x3, .i16, .ro, 0, [], .no, false⟩,
   ⟨0x4, 0x4, 0x4, .i16, .ro, 0, [], .no, false⟩,
   ⟨0x4, 0x5, 0x5, .u16, .rwl, 250, [(10, 5000)], .yes, false⟩,
   ⟨0x4, 0x6, 0x6, .u16, .rwl, 100, [(1, 1000)], .yes, false⟩,
   ⟨0x4, 0x7, 0x7, .i16, .rwl, 300, [(100, 1000)], .yes, false⟩,
   ⟨0x4, 0x8, 0x8, .bool, .ro, 0, [], .no, false⟩,
   ⟨0x4, 0x9, 0x9, .u16, .rwa, 0, [(0, 0), (10, 3000)], .fram, false⟩,
   ⟨0x4, 0xA, 0xA, .u16, .rwa, 0, [(0, 2000)], .fram, false⟩,
   ⟨0x4, 0xB, 0xB, .i16, .ro, 0, [], .no, false⟩,
   ⟨0x4, 0xC, 0xC, .u8, .ro, 0, [], .no, false⟩,
   ⟨0x4, 0xD, 0xD, .u32, .ro, 0, [], .fram, false⟩,
   ⟨0x4, 0xE, 0xE, .u32, .ro, 0, [], .fram, false⟩,
   ⟨0x5, 0x1, 0x1, .u8, .rwl, 1, [(0, 0), (1, 1)], .yes, false⟩,
   ⟨0x5, 0x2, 0x2, .i16, .rwl, 1000, [(0, 3000)], .yes, false⟩,
   ⟨0x5, 0x3, 0x3, .i16, .rwl, 1500, [(0, 3000)], .yes, false⟩,
   ⟨0x5, 0x4, 0x4, .u16, .rwl, 750, [(450, 900)], .yes, false⟩,
   ⟨0x5, 0x5, 0x5, .u16, .rwl, 600, [(200, 900)], .yes, false⟩,
   ⟨0x5, 0x6, 0x6, .u8, .rwl, 3, [(2, 16)], .yes, false⟩,
   ⟨0x5, 0x7, 0x7, .u8, .rwl, 3, [(0, 10)], .yes, false⟩,
   ⟨0x5, 0x8, 0x8, .u16, .rwl, 100, [(20, 1000)], .yes, false⟩,
   ⟨0x5, 0x9, 0x9, .u8, .ro, 3, [], .no, false⟩,
   ⟨0x5, 0xA, 0xA, .i16, .rwl, 1300, [(600, 1800)], .yes, false⟩,
   ⟨0x5, 0xB, 0xB, .u8, .rwl, 20, [(5, 50)], .yes, false⟩,
   ⟨0x5, 0xC, 0xC, .u8, .ro, 0, [], .no, false⟩,
   ⟨0x5, 0xD, 0xD, .u32, .ro, 0, [], .fram, false⟩,
   ⟨0x5, 0xE, 0xE, .i16, .ro, 0, [], .no, false⟩,
   ⟨0x6, 0x1, 0x1, .i32, .rwl, 0xAAE60, [(10000, 2000000)], .yes, false⟩,
   ⟨0x6, 0x2, 0x2, .i32, .rwl, 5000, [(1000, 50000)], .yes, false⟩,
   ⟨0x6, 0x3, 0x3, .i32, .rwl, 5000, [(1000, 50000)], .yes, false⟩,
   ⟨0x6, 0x4, 0x4, .i32, .rwl, 0xFFFFF448, [(-20000, 0)], .yes, false⟩,
   ⟨0x6, 0x5, 0x5, .i32, .rwl, 0xABA18, [], .yes, false⟩,
   ⟨0x6, 0x6, 0x6, .u32, .ro, 0, [], .fram, false⟩,
   ⟨0x6, 0x7, 0x7, .u32, .ro, 0, [], .fram, false⟩,
   ⟨0x7, 0x1, 0x1, .domain, .rwa, 0, [(512, 512)], .fram, false⟩,
   ⟨0x7, 0x2, 0x2, .domain, .rwa, 0, [(512, 512)], .fram, false⟩,
   ⟨0x7, 0x3, 0x3, .u32, .ro, 0, [], .no, false⟩,
   ⟨0x7, 0x4, 0x4, .u8, .ro, 0, [], .no, false⟩,
   ⟨0x7, 0x5, 0x5, .u32, .ro, 0, [], .fram, false⟩,
   ⟨0x7, 0x6, 0x6, .i16, .ro, 0, [], .no, false⟩,
   ⟨0x7, 0x7, 0x7, .u8, .ro, 0, [], .no, false⟩]

/-- Communication objects (R518). -/
def commRows : List ObjRow :=
  [⟨0x1000, 0x0, 0x0, .u32, .ro, 0, [], .no, false⟩,
   ⟨0x1001, 0x0, 0x0, .u8, .ro, 0, [], .no, false⟩,
   ⟨0x1002, 0x0, 0x0, .u32, .ro, 0, [], .no, false⟩,
   ⟨0x1003, 0x0, 0x0, .u8, .rw, 0, [(0, 0)], .no, false⟩,
   ⟨0x1003, 0x1, 0x10, .u32, .ro, 0, [], .no, false⟩,
   ⟨0x1005, 0x0, 0x0, .u32, .rw, 128, [], .yes, false⟩,
   ⟨0x1006, 0x0, 0x0, .u32, .rw, 0, [(0, 0), (1000, 1000000)], .yes, false⟩,
   ⟨0x1007, 0x0, 0x0, .u32, .rw, 0, [(0, 0), (100, 1000000)], .yes, false⟩,
   ⟨0x1008, 0x0, 0x0, .str, .ro, 0, [], .no, false⟩,
   ⟨0x1009, 0x0, 0x0, .str, .ro, 0, [], .no, false⟩,
   ⟨0x100A, 0x0, 0x0, .str, .ro, 0, [], .no, false⟩,
   ⟨0x1010, 0x1, 0x1, .u32, .rwa, 1, [], .no, false⟩,
   ⟨0x1010, 0x2, 0x2, .u32, .rw, 1, [], .no, false⟩,
   ⟨0x1010, 0x3, 0x3, .u32, .rwa, 1, [], .no, false⟩,
   ⟨0x1011, 0x1, 0x3, .u32, .rwa, 1, [], .no, false⟩,
   ⟨0x1012, 0x0, 0x0, .u32, .rw, 0x80000100, [], .yes, false⟩,
   ⟨0x1013, 0x0, 0x0, .u32, .ro, 0, [], .no, false⟩,
   ⟨0x1014, 0x0, 0x0, .u32, .rw, 0, [], .yes, false⟩,
   ⟨0x1015, 0x0, 0x0, .u16, .rw, 0, [], .yes, false⟩,
   ⟨0x1016, 0x1, 0x10, .u32, .rw, 0, [], .yes, false⟩,
   ⟨0x1017, 0x0, 0x0, .u16, .rw, 100, [], .yes, false⟩,
   ⟨0x1018, 0x1, 0x4, .u32, .ro, 0, [], .no, false⟩,
   ⟨0x1019, 0x0, 0x0, .u8, .rw, 0, [(0, 0), (2, 240)], .yes, false⟩,
   ⟨0x1020, 0x1, 0x2, .u32, .rw, 0, [], .yes, false⟩,
   ⟨0x1021, 0x0, 0x0, .domain, .ro, 0, [], .no, false⟩,
   ⟨0x1022, 0x0, 0x0, .u16, .ro, 0, [], .no, false⟩,
   ⟨0x1029, 0x1, 0x1, .u8, .rw, 0, [(0, 0), (1, 1), (2, 2)], .yes, false⟩,
   ⟨0x1200, 0x1, 0x2, .u32, .ro, 0, [], .no, false⟩,
   ⟨0x1201, 0x1, 0x2, .u32, .rw, 0x80000000, [], .yes, false⟩,
   ⟨0x1201, 0x3, 0x3, .u8, .rw, 0, [], .yes, false⟩,
   ⟨0x1400, 0x1, 0x1, .u32, .rw, 0, [], .yes, false⟩,
   ⟨0x1400, 0x2, 0x2, .u8, .rw, 0, [], .yes, false⟩,
   ⟨0x1400, 0x3, 0x3, .u16, .rw, 0, [], .yes, false⟩,
   ⟨0x1400, 0x4, 0x4, .u8, .rw, 0, [], .yes, false⟩,
   ⟨0x1400, 0x5, 0x5, .u16, .rw, 0, [], .yes, false⟩,
   ⟨0x1600, 0x0, 0x0, .u8, .rw, 0, [(0, 64)], .yes, false⟩,
   ⟨0x1600, 0x1, 0x40, .u32, .rw, 0, [], .yes, false⟩,
   ⟨0x1800, 0x1, 0x1, .u32, .rw, 0, [], .yes, false⟩,
   ⟨0x1800, 0x2, 0x2, .u8, .rw, 0, [], .yes, false⟩,
   ⟨0x1800, 0x3, 0x3, .u16, .rw, 0, [], .yes, false⟩,
   ⟨0x1800, 0x4, 0x4, .u8, .rw, 0, [], .yes, false⟩,
   ⟨0x1800, 0x5, 0x5, .u16, .rw, 0, [], .yes, false⟩,
   ⟨0x1800, 0x6, 0x6, .u8, .rw, 0, [], .yes, false⟩,
   ⟨0x1A00, 0x0, 0x0, .u8, .rw, 0, [(0, 64)], .yes, false⟩,
   ⟨0x1A00, 0x1, 0x40, .u32, .rw, 0, [], .yes, false⟩]

/-- Identity and status (R524, R388). -/
def identRows : List ObjRow :=
  [⟨0x2000, 0x1, 0x1, .str, .ro, 0, [], .no, false⟩,
   ⟨0x2000, 0x2, 0x2, .u32, .ro, 0, [], .no, false⟩,
   ⟨0x2000, 0x3, 0x3, .u16, .ro, 0, [], .no, false⟩,
   ⟨0x2000, 0x4, 0x4, .u40, .ro, 0, [], .no, false⟩,
   ⟨0x2001, 0x1, 0x1, .u32, .ro, 0, [], .no, false⟩,
   ⟨0x2001, 0x2, 0x2, .u32, .ro, 0, [], .no, false⟩,
   ⟨0x2001, 0x3, 0x3, .u16, .ro, 0, [], .no, false⟩,
   ⟨0x2001, 0x4, 0x4, .u16, .ro, 256, [], .no, false⟩,
   ⟨0x2002, 0x1, 0x1, .bool, .ro, 0, [], .no, false⟩,
   ⟨0x2002, 0x2, 0x2, .u16, .ro, 0, [], .no, false⟩,
   ⟨0x2002, 0x3, 0x3, .u16, .ro, 0, [], .no, false⟩,
   ⟨0x2002, 0x4, 0x4, .u16, .ro, 0, [], .no, false⟩,
   ⟨0x2002, 0x5, 0x5, .u16, .ro, 0, [], .no, false⟩,
   ⟨0x2003, 0x1, 0x1, .u32, .ro, 0, [], .no, false⟩,
   ⟨0x2003, 0x2, 0x2, .u32, .ro, 0, [], .no, false⟩,
   ⟨0x2003, 0x3, 0x3, .bool, .ro, 0, [], .no, false⟩,
   ⟨0x2003, 0x4, 0x4, .u40, .ro, 0, [], .fram, false⟩,
   ⟨0x2003, 0x5, 0x5, .u32, .ro, 0, [], .fram, false⟩,
   ⟨0x2004, 0x1, 0x1, .u16, .ro, 0, [], .no, false⟩,
   ⟨0x2004, 0x2, 0x2, .u16, .ro, 0, [], .no, false⟩,
   ⟨0x2006, 0x1, 0x1, .u8, .ro, 0, [], .no, false⟩,
   ⟨0x2006, 0x2, 0x2, .u8, .rwa, 0, [(1, 1)], .no, false⟩,
   ⟨0x2006, 0x3, 0x3, .u32, .ro, 0, [], .fram, false⟩,
   ⟨0x2006, 0x4, 0x4, .u32, .ro, 0, [], .no, false⟩]

/-- Timing and Belt (R211, R242). -/
def clockRows : List ObjRow :=
  [⟨0x2100, 0x1, 0x1, .u64, .ro, 0, [], .no, false⟩,
   ⟨0x2100, 0x2, 0x2, .u8, .ro, 0, [], .no, false⟩,
   ⟨0x2100, 0x3, 0x3, .u16, .ro, 0, [], .no, false⟩,
   ⟨0x2100, 0x4, 0x4, .u32, .ro, 0, [], .no, false⟩,
   ⟨0x2100, 0x5, 0x5, .u32, .ro, 0, [], .no, false⟩,
   ⟨0x2100, 0x6, 0x6, .u32, .ro, 0, [], .fram, false⟩,
   ⟨0x2100, 0x7, 0x7, .u32, .ro, 0, [], .fram, false⟩,
   ⟨0x2100, 0x8, 0x8, .u8, .ro, 0, [], .no, false⟩,
   ⟨0x2101, 0x1, 0x1, .u8, .ro, 0, [], .no, false⟩,
   ⟨0x2101, 0x2, 0x2, .u16, .ro, 0, [], .no, false⟩,
   ⟨0x2101, 0x3, 0x3, .u16, .rwa, 1000, [(250, 4000)], .yes, false⟩,
   ⟨0x2101, 0x4, 0x4, .u8, .rwa, 16, [(4, 64)], .yes, false⟩,
   ⟨0x2101, 0x5, 0x5, .u8, .ro, 0, [], .no, false⟩,
   ⟨0x2101, 0x6, 0x6, .bool, .ro, 0, [], .no, false⟩,
   ⟨0x2102, 0x1, 0x1, .u40, .ro, 0, [], .fram, false⟩,
   ⟨0x2102, 0x2, 0x2, .u32, .ro, 0, [], .fram, false⟩,
   ⟨0x2102, 0x3, 0x3, .u40, .ro, 0, [], .no, false⟩,
   ⟨0x2102, 0x4, 0x4, .u16, .ro, 0, [], .no, false⟩,
   ⟨0x2102, 0x5, 0x5, .i16, .ro, 0, [], .fram, false⟩,
   ⟨0x2102, 0x6, 0x6, .u8, .ro, 0, [], .no, false⟩,
   ⟨0x2103, 0x1, 0x1, .u40, .rwa, 0, [], .no, false⟩,
   ⟨0x2103, 0x2, 0x2, .u16, .rwa, 0, [(0, 999)], .no, false⟩,
   ⟨0x2103, 0x3, 0x3, .u8, .rwa, 0, [(1, 1)], .no, false⟩,
   ⟨0x2103, 0x4, 0x4, .u32, .ro, 0, [], .fram, false⟩,
   ⟨0x2103, 0x5, 0x5, .i32, .ro, 0, [], .no, false⟩,
   ⟨0x2104, 0x1, 0x1, .u8, .ro, 0, [], .no, false⟩,
   ⟨0x2104, 0x2, 0x2, .i32, .ro, 0, [], .no, false⟩,
   ⟨0x2104, 0x3, 0x3, .u16, .rw, 128, [(1, 1000)], .yes, false⟩,
   ⟨0x2104, 0x4, 0x4, .u16, .rw, 500, [(100, 1000)], .yes, false⟩,
   ⟨0x2104, 0x5, 0x5, .u16, .rw, 60, [(10, 600)], .yes, false⟩,
   ⟨0x2104, 0x6, 0x6, .bool, .rwa, 0, [], .yes, false⟩,
   ⟨0x2104, 0x7, 0x7, .i16, .rwa, 37, [(0, 100)], .yes, false⟩,
   ⟨0x2105, 0x1, 0x1, .u8, .ro, 0, [], .no, false⟩,
   ⟨0x2105, 0x2, 0x2, .u8, .ro, 0, [], .no, false⟩,
   ⟨0x2105, 0x3, 0x3, .u32, .ro, 0, [], .fram, false⟩,
   ⟨0x2105, 0x4, 0x4, .u32, .ro, 0, [], .fram, false⟩,
   ⟨0x2105, 0x5, 0x5, .u32, .ro, 0, [], .fram, false⟩,
   ⟨0x2105, 0x6, 0x6, .u16, .rwa, 200, [(50, 2000)], .yes, false⟩,
   ⟨0x2105, 0x7, 0x7, .u8, .rwa, 2, [(2, 16)], .yes, false⟩,
   ⟨0x2106, 0x1, 0x1, .u8, .ro, 0, [], .no, false⟩,
   ⟨0x2106, 0x2, 0x2, .u16, .ro, 0, [], .no, false⟩,
   ⟨0x2106, 0x3, 0x3, .u16, .ro, 0, [], .no, false⟩,
   ⟨0x2106, 0x4, 0x4, .u16, .ro, 0, [], .no, false⟩,
   ⟨0x2106, 0x5, 0x5, .u16, .ro, 0, [], .no, false⟩,
   ⟨0x2106, 0x6, 0x6, .u16, .ro, 0, [], .no, false⟩,
   ⟨0x2106, 0x7, 0x7, .u8, .rwa, 20, [(5, 20)], .yes, false⟩,
   ⟨0x2106, 0x8, 0x8, .u32, .ro, 0, [], .fram, false⟩,
   ⟨0x2106, 0x9, 0x9, .u16, .ro, 60, [], .no, false⟩,
   ⟨0x2106, 0xA, 0xA, .u16, .ro, 0, [], .no, false⟩,
   ⟨0x2107, 0x1, 0x1, .u16, .rwa, 1100, [(720, 1200)], .yes, false⟩,
   ⟨0x2107, 0x2, 0x2, .u16, .ro, 0, [], .no, false⟩,
   ⟨0x2107, 0x3, 0x3, .i16, .ro, 0, [], .no, false⟩,
   ⟨0x2107, 0x4, 0x4, .u8, .rwa, 96, [(92, 98)], .yes, false⟩,
   ⟨0x2107, 0x5, 0x5, .u8, .rwa, 90, [(85, 94)], .yes, false⟩,
   ⟨0x2107, 0x6, 0x6, .u8, .rwa, 80, [(70, 88)], .yes, false⟩,
   ⟨0x2107, 0x7, 0x7, .u8, .ro, 100, [], .no, false⟩,
   ⟨0x2107, 0x8, 0x8, .u32, .ro, 0, [], .fram, false⟩,
   ⟨0x2108, 0x1, 0x1, .u16, .ro, 0, [], .no, false⟩,
   ⟨0x2108, 0x2, 0x2, .u48, .ro, 0, [], .fram, false⟩,
   ⟨0x2108, 0x3, 0x3, .u48, .ro, 0, [], .fram, false⟩,
   ⟨0x2108, 0x4, 0x4, .u48, .ro, 0, [], .fram, false⟩,
   ⟨0x2108, 0x5, 0x5, .u8, .rwa, 4, [(1, 16)], .yes, false⟩,
   ⟨0x2108, 0x6, 0x6, .u8, .rwa, 2, [(1, 16)], .yes, false⟩,
   ⟨0x2108, 0x7, 0x7, .u8, .rwa, 1, [(1, 16)], .yes, false⟩,
   ⟨0x2108, 0x8, 0x8, .u8, .rwa, 2, [(1, 8)], .yes, false⟩,
   ⟨0x2108, 0x9, 0x9, .u8, .ro, 0, [], .no, false⟩,
   ⟨0x2108, 0xA, 0xA, .u16, .ro, 0, [], .no, false⟩,
   ⟨0x2108, 0xB, 0xB, .u8, .rwa, 25, [(5, 75)], .yes, false⟩,
   ⟨0x2109, 0x1, 0x1, .u8, .ro, 0, [], .no, false⟩,
   ⟨0x2109, 0x2, 0x2, .u8, .ro, 0, [], .no, false⟩,
   ⟨0x2109, 0x3, 0x3, .u8, .rwa, 16, [(1, 192)], .yes, false⟩,
   ⟨0x210A, 0x1, 0x1, .u16, .ro, 0, [], .no, false⟩,
   ⟨0x210A, 0x2, 0x2, .u16, .ro, 450, [], .no, false⟩,
   ⟨0x210A, 0x3, 0x3, .u16, .rwa, 1500, [(500, 1800)], .yes, false⟩,
   ⟨0x210A, 0x4, 0x4, .u16, .ro, 0, [], .no, false⟩,
   ⟨0x210B, 0x1, 0x1, .i16, .ro, 0, [], .no, false⟩,
   ⟨0x210B, 0x2, 0x2, .u8, .ro, 0, [], .no, false⟩,
   ⟨0x210B, 0x3, 0x3, .i16, .ro, 0, [], .fram, false⟩,
   ⟨0x210C, 0x1, 0x1, .u8, .rw, 0, [(1, 1), (2, 2)], .no, false⟩,
   ⟨0x210C, 0x2, 0x2, .u16, .rw, 300, [(0, 0), (10, 3600)], .yes, false⟩,
   ⟨0x210C, 0x3, 0x3, .bool, .ro, 0, [], .no, false⟩,
   ⟨0x210C, 0x4, 0x4, .u32, .ro, 0, [], .fram, false⟩,
   ⟨0x210D, 0x1, 0x1, .u16, .ro, 0, [], .no, false⟩,
   ⟨0x210D, 0x2, 0x2, .u16, .ro, 2600, [], .no, false⟩,
   ⟨0x210D, 0x3, 0x3, .bool, .ro, 0, [], .no, false⟩,
   ⟨0x210D, 0x4, 0x4, .bool, .ro, 0, [], .no, false⟩,
   ⟨0x210D, 0x5, 0x5, .u8, .rwa, 0, [(1, 1)], .no, false⟩]

/-- Lanes, Seam, Buckle, lockstep (R351, R388). -/
def laneRows : List ObjRow :=
  [⟨0x2200, 0x1, 0x1, .u8, .ro, 0, [], .no, false⟩,
   ⟨0x2200, 0x2, 0x2, .u8, .ro, 0, [], .no, false⟩,
   ⟨0x2200, 0x3, 0x3, .u16, .ro, 0, [], .no, false⟩,
   ⟨0x2200, 0x4, 0x4, .u32, .ro, 0, [], .fram, false⟩,
   ⟨0x2200, 0x5, 0x5, .u8, .ro, 0, [], .no, false⟩,
   ⟨0x2200, 0x6, 0x6, .bool, .ro, 0, [], .no, false⟩,
   ⟨0x2200, 0x7, 0x7, .u32, .ro, 0, [], .fram, false⟩,
   ⟨0x2200, 0x8, 0x8, .u32, .ro, 0, [], .fram, false⟩,
   ⟨0x2201, 0x1, 0x1, .u8, .rwa, 0, [(1, 1)], .no, false⟩,
   ⟨0x2201, 0x2, 0x2, .u16, .ro, 0, [], .no, false⟩,
   ⟨0x2201, 0x3, 0x3, .u8, .ro, 0, [], .no, false⟩,
   ⟨0x2201, 0x4, 0x4, .u32, .ro, 0, [], .fram, false⟩,
   ⟨0x2201, 0x5, 0x5, .u32, .ro, 0, [], .fram, false⟩,
   ⟨0x2201, 0x6, 0x6, .u8, .ro, 50, [], .no, false⟩,
   ⟨0x2201, 0x7, 0x7, .u8, .ro, 0, [], .no, false⟩,
   ⟨0x2202, 0x1, 0x1, .u8, .ro, 0, [], .no, false⟩,
   ⟨0x2202, 0x2, 0x2, .u8, .ro, 0, [], .no, false⟩,
   ⟨0x2202, 0x3, 0x3, .u48, .ro, 0, [], .fram, false⟩,
   ⟨0x2202, 0x4, 0x4, .u48, .ro, 0, [], .fram, false⟩,
   ⟨0x2202, 0x5, 0x5, .u16, .ro, 0, [], .no, false⟩,
   ⟨0x2202, 0x6, 0x6, .u48, .ro, 0, [], .fram, false⟩,
   ⟨0x2202, 0x7, 0x7, .u32, .ro, 0, [], .fram, false⟩,
   ⟨0x2202, 0x8, 0x8, .u32, .ro, 0, [], .fram, false⟩,
   ⟨0x2202, 0x9, 0x9, .u32, .ro, 0, [], .fram, false⟩,
   ⟨0x2203, 0x1, 0x1, .u64, .ro, 0, [], .no, false⟩,
   ⟨0x2203, 0x2, 0x2, .u8, .ro, 0, [], .no, false⟩,
   ⟨0x2203, 0x3, 0x3, .u8, .ro, 0, [], .no, false⟩,
   ⟨0x2203, 0x4, 0x4, .u8, .ro, 0, [], .no, false⟩,
   ⟨0x2203, 0x5, 0x5, .u32, .ro, 0, [], .fram, false⟩,
   ⟨0x2203, 0x6, 0x6, .u8, .ro, 0, [], .no, false⟩,
   ⟨0x2203, 0x7, 0x7, .u32, .ro, 0, [], .fram, false⟩,
   ⟨0x2204, 0x1, 0x1, .u16, .ro, 0, [], .no, false⟩,
   ⟨0x2204, 0x2, 0x2, .u8, .rwa, 32, [(8, 32)], .yes, false⟩,
   ⟨0x2204, 0x3, 0x3, .u32, .ro, 0, [], .fram, false⟩,
   ⟨0x2204, 0x4, 0x4, .u8, .ro, 0, [], .no, false⟩,
   ⟨0x2204, 0x5, 0x5, .u32, .ro, 0, [], .fram, false⟩,
   ⟨0x2204, 0x6, 0x6, .bool, .ro, 0, [], .no, false⟩,
   ⟨0x2205, 0x1, 0x1, .u32, .ro, 0, [], .fram, false⟩,
   ⟨0x2205, 0x2, 0x2, .u16, .ro, 0, [], .no, false⟩,
   ⟨0x2205, 0x3, 0x3, .u8, .ro, 0, [], .no, false⟩,
   ⟨0x2205, 0x4, 0x4, .u32, .ro, 0, [], .fram, false⟩,
   ⟨0x2205, 0x5, 0x5, .u32, .ro, 0, [], .fram, false⟩,
   ⟨0x2206, 0x1, 0x1, .u8, .ro, 0, [], .no, false⟩,
   ⟨0x2206, 0x2, 0x2, .u16, .ro, 0, [], .no, false⟩,
   ⟨0x2206, 0x3, 0x3, .u32, .ro, 0, [], .fram, false⟩,
   ⟨0x2206, 0x4, 0x4, .domain, .ro, 0, [], .no, false⟩,
   ⟨0x2206, 0x5, 0x5, .u16, .ro, 0, [], .no, false⟩,
   ⟨0x2207, 0x1, 0x1, .u32, .ro, 0, [], .fram, false⟩,
   ⟨0x2207, 0x2, 0x2, .u8, .ro, 0, [], .no, false⟩,
   ⟨0x2207, 0x3, 0x3, .u8, .ro, 0, [], .no, false⟩,
   ⟨0x2207, 0x4, 0x4, .u8, .ro, 0, [], .no, false⟩,
   ⟨0x2207, 0x5, 0x5, .u32, .ro, 0, [], .fram, false⟩,
   ⟨0x2207, 0x6, 0x6, .u32, .ro, 0, [], .fram, false⟩,
   ⟨0x2207, 0x7, 0x7, .u16, .ro, 0, [], .no, false⟩,
   ⟨0x2207, 0x8, 0x8, .u32, .ro, 0, [], .fram, false⟩,
   ⟨0x2207, 0x9, 0x9, .u32, .ro, 0, [], .fram, false⟩,
   ⟨0x2208, 0x1, 0x1, .u32, .ro, 0, [], .fram, false⟩,
   ⟨0x2208, 0x2, 0x2, .u8, .ro, 0, [], .no, false⟩,
   ⟨0x2208, 0x3, 0x3, .u8, .ro, 0, [], .no, false⟩,
   ⟨0x2208, 0x4, 0x4, .u8, .ro, 0, [], .no, false⟩,
   ⟨0x2208, 0x5, 0x5, .u32, .ro, 0, [], .fram, false⟩,
   ⟨0x2208, 0x6, 0x6, .u32, .ro, 0, [], .fram, false⟩,
   ⟨0x2208, 0x7, 0x7, .u16, .ro, 0, [], .no, false⟩,
   ⟨0x2208, 0x8, 0x8, .u32, .ro, 0, [], .fram, false⟩,
   ⟨0x2208, 0x9, 0x9, .u32, .ro, 0, [], .fram, false⟩,
   ⟨0x2209, 0x1, 0x1, .u8, .ro, 0, [], .fram, false⟩,
   ⟨0x2209, 0x2, 0x2, .u8, .ro, 0, [], .no, false⟩,
   ⟨0x2209, 0x3, 0x3, .u8, .ro, 0, [], .no, false⟩,
   ⟨0x2209, 0x4, 0x4, .u8, .ro, 0, [], .no, false⟩,
   ⟨0x2209, 0x5, 0x5, .u8, .ro, 0, [], .fram, false⟩,
   ⟨0x2209, 0x6, 0x6, .u8, .ro, 0, [], .no, false⟩,
   ⟨0x2209, 0x7, 0x7, .u16, .ro, 0, [], .no, false⟩,
   ⟨0x2209, 0x8, 0x8, .domain, .ro, 0, [], .no, false⟩,
   ⟨0x2209, 0x9, 0x9, .u32, .ro, 0, [], .fram, false⟩,
   ⟨0x2209, 0xA, 0xA, .u32, .ro, 0, [], .fram, false⟩,
   ⟨0x2209, 0xB, 0xB, .u8, .ro, 0, [], .no, false⟩,
   ⟨0x2209, 0xC, 0xC, .u8, .ro, 0, [], .no, false⟩,
   ⟨0x2209, 0xD, 0xD, .u8, .ro, 0, [], .no, false⟩,
   ⟨0x220A, 0x1, 0x1, .u8, .ro, 0, [], .fram, false⟩,
   ⟨0x220A, 0x2, 0x2, .u8, .ro, 0, [], .no, false⟩,
   ⟨0x220A, 0x3, 0x3, .u8, .ro, 0, [], .no, false⟩,
   ⟨0x220A, 0x4, 0x4, .u8, .ro, 0, [], .no, false⟩,
   ⟨0x220A, 0x5, 0x5, .u8, .ro, 0, [], .fram, false⟩,
   ⟨0x220A, 0x6, 0x6, .u8, .ro, 0, [], .no, false⟩,
   ⟨0x220A, 0x7, 0x7, .u16, .ro, 0, [], .no, false⟩,
   ⟨0x220A, 0x8, 0x8, .domain, .ro, 0, [], .no, false⟩,
   ⟨0x220A, 0x9, 0x9, .u32, .ro, 0, [], .fram, false⟩,
   ⟨0x220A, 0xA, 0xA, .u32, .ro, 0, [], .fram, false⟩,
   ⟨0x220A, 0xB, 0xB, .u8, .ro, 0, [], .no, false⟩,
   ⟨0x220A, 0xC, 0xC, .u8, .ro, 0, [], .no, false⟩,
   ⟨0x220A, 0xD, 0xD, .u8, .ro, 0, [], .no, false⟩,
   ⟨0x220B, 0x1, 0x1, .u8, .rwa, 3, [(2, 7)], .yes, false⟩,
   ⟨0x220B, 0x2, 0x2, .u8, .ro, 10, [], .no, false⟩,
   ⟨0x220B, 0x3, 0x3, .u8, .rwa, 4, [(2, 10)], .yes, false⟩,
   ⟨0x220B, 0x4, 0x4, .u8, .rwa, 0, [(1, 1), (2, 2)], .no, false⟩,
   ⟨0x220B, 0x5, 0x5, .u16, .ro, 0, [], .no, false⟩]

/-- Permits, loops, Mirror (R100). -/
def trainRows : List ObjRow :=
  [⟨0x2300, 0x1, 0x1, .u16, .rwa, 50, [(20, 200)], .yes, false⟩,
   ⟨0x2300, 0x2, 0x2, .u16, .rwa, 50, [(20, 200)], .yes, false⟩,
   ⟨0x2300, 0x3, 0x3, .u16, .rwa, 100, [(0, 2000)], .yes, false⟩,
   ⟨0x2300, 0x4, 0x4, .u16, .rwa, 200, [(50, 2000)], .yes, false⟩,
   ⟨0x2301, 0x1, 0x1, .bool, .ro, 0, [], .no, false⟩,
   ⟨0x2301, 0x2, 0x2, .u8, .ro, 0, [], .no, false⟩,
   ⟨0x2301, 0x3, 0x3, .bool, .ro, 0, [], .no, false⟩,
   ⟨0x2301, 0x4, 0x4, .u32, .ro, 0, [], .fram, false⟩,
   ⟨0x2302, 0x1, 0x1, .bool, .ro, 0, [], .no, false⟩,
   ⟨0x2302, 0x2, 0x2, .u8, .ro, 0, [], .no, false⟩,
   ⟨0x2302, 0x3, 0x3, .bool, .ro, 0, [], .no, false⟩,
   ⟨0x2302, 0x4, 0x4, .u32, .ro, 0, [], .fram, false⟩,
   ⟨0x2303, 0x1, 0x1, .bool, .ro, 0, [], .no, false⟩,
   ⟨0x2303, 0x2, 0x2, .u8, .ro, 0, [], .no, false⟩,
   ⟨0x2303, 0x3, 0x3, .bool, .ro, 0, [], .no, false⟩,
   ⟨0x2303, 0x4, 0x4, .u32, .ro, 0, [], .fram, false⟩,
   ⟨0x2304, 0x1, 0x1, .bool, .ro, 0, [], .no, false⟩,
   ⟨0x2304, 0x2, 0x2, .bool, .ro, 0, [], .no, false⟩,
   ⟨0x2305, 0x1, 0x1, .bool, .rw, 0, [], .no, true⟩,
   ⟨0x2305, 0x2, 0x2, .bool, .rw, 0, [], .no, true⟩,
   ⟨0x2305, 0x3, 0x3, .u8, .rwa, 0, [(0, 0), (1, 1), (2, 2)], .yes, false⟩,
   ⟨0x2305, 0x4, 0x4, .u16, .rwa, 300, [(50, 5000)], .yes, false⟩,
   ⟨0x2305, 0x5, 0x5, .bool, .ro, 0, [], .no, false⟩,
   ⟨0x2306, 0x1, 0x1, .bool, .ro, 0, [], .fram, false⟩,
   ⟨0x2306, 0x2, 0x2, .u8, .ro, 0, [], .no, false⟩,
   ⟨0x2306, 0x3, 0x3, .bool, .rwa, 0, [], .yes, false⟩,
   ⟨0x2306, 0x4, 0x4, .u48, .ro, 0, [], .fram, false⟩,
   ⟨0x2306, 0x5, 0x5, .u48, .ro, 0, [], .fram, false⟩,
   ⟨0x2306, 0x6, 0x6, .u8, .ro, 0, [], .no, false⟩,
   ⟨0x2307, 0x1, 0x1, .bool, .ro, 0, [], .fram, false⟩,
   ⟨0x2307, 0x2, 0x2, .u8, .ro, 0, [], .no, false⟩,
   ⟨0x2307, 0x3, 0x3, .bool, .rwa, 0, [], .yes, false⟩,
   ⟨0x2307, 0x4, 0x4, .u48, .ro, 0, [], .fram, false⟩,
   ⟨0x2307, 0x5, 0x5, .u48, .ro, 0, [], .fram, false⟩,
   ⟨0x2307, 0x6, 0x6, .u8, .ro, 0, [], .no, false⟩,
   ⟨0x2308, 0x1, 0x1, .u32, .ro, 0, [], .fram, false⟩,
   ⟨0x2308, 0x2, 0x2, .u32, .ro, 0, [], .fram, false⟩,
   ⟨0x2309, 0x1, 0x1, .u8, .ro, 0, [], .no, false⟩,
   ⟨0x2309, 0x2, 0x2, .bool, .rw, 0, [], .no, false⟩,
   ⟨0x2309, 0x3, 0x3, .u16, .ro, 0, [], .no, false⟩,
   ⟨0x2309, 0x4, 0x4, .u16, .ro, 0, [], .no, false⟩,
   ⟨0x2309, 0x5, 0x5, .u32, .ro, 0, [], .fram, false⟩,
   ⟨0x230A, 0x1, 0x1, .u8, .ro, 0, [], .no, false⟩,
   ⟨0x230A, 0x2, 0x2, .bool, .rw, 0, [], .no, false⟩,
   ⟨0x230A, 0x3, 0x3, .u16, .ro, 0, [], .no, false⟩,
   ⟨0x230A, 0x4, 0x4, .u16, .ro, 0, [], .no, false⟩,
   ⟨0x230A, 0x5, 0x5, .u32, .ro, 0, [], .fram, false⟩,
   ⟨0x230B, 0x1, 0x1, .u32, .ro, 0, [], .no, false⟩,
   ⟨0x230B, 0x2, 0x2, .u32, .ro, 0, [], .no, false⟩,
   ⟨0x230C, 0x1, 0x1, .u8, .ro, 0, [], .no, false⟩,
   ⟨0x230C, 0x2, 0x2, .u8, .ro, 0, [], .no, false⟩,
   ⟨0x230C, 0x3, 0x3, .u8, .wo, 0, [(1, 1), (2, 2)], .no, false⟩,
   ⟨0x230D, 0x1, 0x1, .u8, .rw, 5, [(0, 7)], .yes, false⟩,
   ⟨0x230D, 0x2, 0x2, .u8, .rw, 1, [(0, 7)], .yes, false⟩,
   ⟨0x230D, 0x3, 0x3, .u8, .rw, 2, [(0, 7)], .yes, false⟩,
   ⟨0x230D, 0x4, 0x4, .u8, .rw, 6, [(0, 7)], .yes, false⟩,
   ⟨0x230E, 0x1, 0x1, .u8, .ro, 0, [], .no, false⟩,
   ⟨0x230E, 0x2, 0x2, .u8, .rw, 0, [(0, 15)], .no, true⟩,
   ⟨0x230F, 0x1, 0x1, .bool, .rwa, 1, [], .yes, false⟩,
   ⟨0x230F, 0x2, 0x2, .u16, .rw, 10, [(1, 1000)], .yes, false⟩,
   ⟨0x230F, 0x3, 0x3, .u16, .rw, 20, [(5, 1000)], .yes, false⟩,
   ⟨0x2310, 0x1, 0x1, .u32, .ro, 0, [], .no, false⟩,
   ⟨0x2310, 0x2, 0x2, .u32, .ro, 0, [], .no, false⟩,
   ⟨0x2310, 0x3, 0x3, .u32, .ro, 0, [], .no, false⟩,
   ⟨0x2310, 0x4, 0x4, .u32, .ro, 0, [], .no, false⟩,
   ⟨0x2311, 0x1, 0x10, .u32, .ro, 0, [], .no, false⟩,
   ⟨0x2312, 0x1, 0x1, .bool, .ro, 0, [], .no, false⟩,
   ⟨0x2312, 0x2, 0x2, .u32, .ro, 0, [], .fram, false⟩,
   ⟨0x2313, 0x1, 0x1, .u32, .ro, 0, [], .no, false⟩,
   ⟨0x2313, 0x2, 0x2, .u32, .ro, 0, [], .fram, false⟩]

/-- Train inputs (R302). -/
def inputRows : List ObjRow :=
  [⟨0x2400, 0x1, 0x1, .u16, .ro, 0, [], .no, false⟩,
   ⟨0x2400, 0x2, 0x2, .u16, .ro, 0, [], .no, false⟩,
   ⟨0x2400, 0x3, 0x3, .u16, .ro, 0, [], .no, false⟩,
   ⟨0x2400, 0x4, 0x4, .u16, .ro, 0, [], .no, false⟩,
   ⟨0x2400, 0x5, 0x5, .u8, .ro, 0, [], .no, false⟩,
   ⟨0x2401, 0x1, 0x10, .u8, .rwa, 5, [(1, 100)], .yes, false⟩,
   ⟨0x2402, 0x1, 0x1, .u8, .rwa, 0, [(0, 31)], .yes, false⟩,
   ⟨0x2403, 0x1, 0x5, .u8, .rwa, 0, [(0, 5)], .yes, false⟩,
   ⟨0x2404, 0x1, 0x10, .u16, .ro, 0, [], .no, false⟩,
   ⟨0x2405, 0x1, 0x1, .u16, .rwa, 300, [(50, 5000)], .yes, false⟩,
   ⟨0x2405, 0x2, 0x2, .u16, .rwa, 300, [(50, 5000)], .yes, false⟩,
   ⟨0x2405, 0x3, 0x3, .u32, .ro, 0, [], .no, false⟩,
   ⟨0x2405, 0x4, 0x4, .bool, .ro, 0, [], .no, false⟩,
   ⟨0x2405, 0x5, 0x5, .u32, .ro, 0, [], .fram, false⟩,
   ⟨0x2405, 0x6, 0x6, .u32, .ro, 0, [], .fram, false⟩,
   ⟨0x2406, 0x1, 0x1, .u32, .ro, 0, [], .fram, false⟩,
   ⟨0x2406, 0x2, 0x2, .u32, .ro, 0, [], .fram, false⟩,
   ⟨0x2406, 0x3, 0x3, .u32, .ro, 0, [], .fram, false⟩,
   ⟨0x2406, 0x4, 0x4, .u32, .ro, 0, [], .fram, false⟩,
   ⟨0x2406, 0x5, 0x5, .u32, .ro, 0, [], .fram, false⟩]

/-- Events and reactions (R590). -/
def eventRows : List ObjRow :=
  [⟨0x2500, 0x1, 0x1, .u64, .ro, 0, [], .no, false⟩,
   ⟨0x2500, 0x2, 0x2, .u64, .ro, 0, [], .no, false⟩,
   ⟨0x2500, 0x3, 0x3, .u64, .ro, 0, [], .no, false⟩,
   ⟨0x2500, 0x4, 0x4, .u64, .ro, 0, [], .fram, false⟩,
   ⟨0x2501, 0x1, 0x1, .u64, .rwa, 0, [], .yes, false⟩,
   ⟨0x2502, 0x1, 0x40, .u8, .rwa, 0, [], .yes, false⟩,
   ⟨0x2503, 0x1, 0x1, .u8, .wo, 0, [(1, 1)], .no, false⟩,
   ⟨0x2504, 0x1, 0x40, .u8, .rw, 0, [(0, 0), (1, 8)], .yes, false⟩,
   ⟨0x2505, 0x1, 0x40, .u8, .ro, 0, [], .no, false⟩,
   ⟨0x2506, 0x1, 0x40, .u32, .ro, 0, [], .fram, false⟩,
   ⟨0x2507, 0x1, 0x40, .u40, .ro, 0, [], .no, false⟩,
   ⟨0x2508, 0x1, 0x40, .u64, .ro, 0, [], .no, false⟩,
   ⟨0x2509, 0x1, 0xC, .u64, .ro, 0, [], .no, false⟩,
   ⟨0x250A, 0x1, 0x1, .u16, .rw, 1000, [(100, 10000)], .yes, false⟩,
   ⟨0x250B, 0x1, 0x40, .u48, .ro, 0, [], .no, false⟩,
   ⟨0x250C, 0x1, 0x1, .u32, .ro, 0, [], .no, false⟩,
   ⟨0x250C, 0x2, 0x2, .u32, .ro, 0, [], .no, false⟩,
   ⟨0x250D, 0x1, 0x1, .u8, .rwa, 0, [(0, 63)], .no, false⟩,
   ⟨0x250D, 0x2, 0x2, .u32, .ro, 0, [], .fram, false⟩,
   ⟨0x250E, 0x1, 0x1, .u32, .ro, 0, [], .no, false⟩,
   ⟨0x250F, 0x1, 0x1, .u8, .rwa, 0, [(1, 1)], .no, false⟩]

/-- The ledger (R444). -/
def ledgerRows : List ObjRow :=
  [⟨0x2600, 0x1, 0x1, .u64, .ro, 0, [], .no, false⟩,
   ⟨0x2600, 0x2, 0x2, .u32, .ro, 0, [], .fram, false⟩,
   ⟨0x2600, 0x3, 0x3, .u8, .ro, 0, [], .no, false⟩,
   ⟨0x2600, 0x4, 0x4, .u32, .ro, 0, [], .fram, false⟩,
   ⟨0x2600, 0x5, 0x5, .u8, .ro, 0, [], .fram, false⟩,
   ⟨0x2600, 0x6, 0x6, .bool, .ro, 0, [], .fram, false⟩,
   ⟨0x2601, 0x1, 0x1, .u8, .ro, 2, [], .no, false⟩,
   ⟨0x2601, 0x2, 0x2, .u16, .ro, 0, [], .no, false⟩,
   ⟨0x2601, 0x3, 0x3, .u48, .ro, 0, [], .no, false⟩,
   ⟨0x2601, 0x4, 0x4, .u48, .ro, 0, [], .no, false⟩,
   ⟨0x2601, 0x5, 0x5, .u32, .ro, 0, [], .fram, false⟩,
   ⟨0x2602, 0x1, 0x1, .u8, .ro, 12, [], .no, false⟩,
   ⟨0x2602, 0x2, 0x2, .u16, .ro, 0, [], .no, false⟩,
   ⟨0x2602, 0x3, 0x3, .u48, .ro, 0, [], .no, false⟩,
   ⟨0x2602, 0x4, 0x4, .u48, .ro, 0, [], .no, false⟩,
   ⟨0x2602, 0x5, 0x5, .u32, .ro, 0, [], .fram, false⟩,
   ⟨0x2603, 0x1, 0x1, .u8, .ro, 12, [], .no, false⟩,
   ⟨0x2603, 0x2, 0x2, .u16, .ro, 0, [], .no, false⟩,
   ⟨0x2603, 0x3, 0x3, .u48, .ro, 0, [], .no, false⟩,
   ⟨0x2603, 0x4, 0x4, .u48, .ro, 0, [], .no, false⟩,
   ⟨0x2603, 0x5, 0x5, .u32, .ro, 0, [], .fram, false⟩,
   ⟨0x2604, 0x1, 0x1, .u8, .ro, 1, [], .no, false⟩,
   ⟨0x2604, 0x2, 0x2, .u16, .ro, 0, [], .no, false⟩,
   ⟨0x2604, 0x3, 0x3, .u48, .ro, 0, [], .no, false⟩,
   ⟨0x2604, 0x4, 0x4, .u48, .ro, 0, [], .no, false⟩,
   ⟨0x2604, 0x5, 0x5, .u32, .ro, 0, [], .fram, false⟩,
   ⟨0x2605, 0x1, 0x1, .u8, .ro, 1, [], .no, false⟩,
   ⟨0x2605, 0x2, 0x2, .u16, .ro, 0, [], .no, false⟩,
   ⟨0x2605, 0x3, 0x3, .u48, .ro, 0, [], .no, false⟩,
   ⟨0x2605, 0x4, 0x4, .u48, .ro, 0, [], .no, false⟩,
   ⟨0x2605, 0x5, 0x5, .u32, .ro, 0, [], .fram, false⟩,
   ⟨0x2606, 0x1, 0x1, .u8, .ro, 2, [], .no, false⟩,
   ⟨0x2606, 0x2, 0x2, .u16, .ro, 0, [], .no, false⟩,
   ⟨0x2606, 0x3, 0x3, .u48, .ro, 0, [], .no, false⟩,
   ⟨0x2606, 0x4, 0x4, .u48, .ro, 0, [], .no, false⟩,
   ⟨0x2606, 0x5, 0x5, .u32, .ro, 0, [], .fram, false⟩,
   ⟨0x2607, 0x1, 0x1, .u8, .ro, 1, [], .no, false⟩,
   ⟨0x2607, 0x2, 0x2, .u16, .ro, 0, [], .no, false⟩,
   ⟨0x2607, 0x3, 0x3, .u48, .ro, 0, [], .no, false⟩,
   ⟨0x2607, 0x4, 0x4, .u48, .ro, 0, [], .no, false⟩,
   ⟨0x2607, 0x5, 0x5, .u32, .ro, 0, [], .fram, false⟩,
   ⟨0x2608, 0x1, 0x1, .bool, .ro, 0, [], .fram, false⟩,
   ⟨0x2608, 0x2, 0x2, .u64, .ro, 0, [], .fram, false⟩,
   ⟨0x2608, 0x3, 0x3, .u8, .ro, 0, [], .no, false⟩,
   ⟨0x2608, 0x4, 0x4, .u8, .ro, 0, [], .no, false⟩,
   ⟨0x2608, 0x5, 0x5, .u48, .ro, 0, [], .no, false⟩,
   ⟨0x2609, 0x1, 0x1, .u16, .ro, 0, [], .fram, false⟩,
   ⟨0x260A, 0x1, 0x1, .u48, .ro, 0, [], .fram, false⟩,
   ⟨0x260A, 0x2, 0x2, .u48, .ro, 0, [], .fram, false⟩,
   ⟨0x260A, 0x3, 0x3, .u48, .ro, 0, [], .fram, false⟩,
   ⟨0x260A, 0x4, 0x4, .u48, .ro, 0, [], .fram, false⟩,
   ⟨0x260A, 0x5, 0x5, .u8, .ro, 0, [], .no, false⟩,
   ⟨0x260B, 0x1, 0x1, .u48, .ro, 0, [], .fram, false⟩,
   ⟨0x260B, 0x2, 0x2, .u48, .ro, 0, [], .fram, false⟩,
   ⟨0x260B, 0x3, 0x3, .u48, .ro, 0, [], .fram, false⟩,
   ⟨0x260B, 0x4, 0x4, .u48, .ro, 0, [], .fram, false⟩,
   ⟨0x260B, 0x5, 0x5, .u8, .ro, 0, [], .no, false⟩,
   ⟨0x260C, 0x1, 0x1, .u48, .ro, 0, [], .fram, false⟩,
   ⟨0x260D, 0x1, 0x1, .u8, .ro, 1, [], .no, false⟩,
   ⟨0x260D, 0x2, 0x2, .u48, .ro, 0, [], .no, false⟩,
   ⟨0x260D, 0x3, 0x3, .u40, .ro, 0, [], .fram, false⟩,
   ⟨0x260E, 0x1, 0x1, .u64, .ro, 0, [], .no, false⟩,
   ⟨0x260E, 0x2, 0x2, .u8, .ro, 0, [], .no, false⟩,
   ⟨0x260E, 0x3, 0x3, .bool, .ro, 0, [], .no, false⟩,
   ⟨0x260F, 0x0, 0x0, .domain, .ro, 0, [], .no, false⟩]

/-- The recorder (R429). -/
def recorderRows : List ObjRow :=
  [⟨0x2700, 0x1, 0x1, .u8, .ro, 0, [], .no, false⟩,
   ⟨0x2700, 0x2, 0x2, .u48, .ro, 0, [], .fram, false⟩,
   ⟨0x2700, 0x3, 0x3, .u48, .ro, 0, [], .no, false⟩,
   ⟨0x2700, 0x4, 0x4, .u48, .ro, 0, [], .no, false⟩,
   ⟨0x2700, 0x5, 0x5, .u32, .ro, 0, [], .no, false⟩,
   ⟨0x2700, 0x6, 0x6, .u16, .ro, 0, [], .no, false⟩,
   ⟨0x2700, 0x7, 0x7, .u16, .ro, 0, [], .no, false⟩,
   ⟨0x2700, 0x8, 0x8, .u16, .ro, 256, [], .no, false⟩,
   ⟨0x2701, 0x1, 0x1, .u16, .ro, 1920, [], .no, false⟩,
   ⟨0x2701, 0x2, 0x2, .u8, .ro, 128, [], .no, false⟩,
   ⟨0x2701, 0x3, 0x3, .u32, .ro, 0, [], .no, false⟩,
   ⟨0x2701, 0x4, 0x4, .u16, .ro, 0, [], .no, false⟩,
   ⟨0x2701, 0x5, 0x5, .u32, .ro, 0, [], .no, false⟩,
   ⟨0x2701, 0x6, 0x6, .u32, .ro, 0, [], .no, false⟩,
   ⟨0x2701, 0x7, 0x7, .u32, .ro, 0, [], .no, false⟩,
   ⟨0x2701, 0x8, 0x8, .u32, .ro, 0, [], .no, false⟩,
   ⟨0x2701, 0x9, 0x9, .u32, .ro, 0, [], .no, false⟩,
   ⟨0x2701, 0xA, 0xA, .u8, .ro, 0, [], .no, false⟩,
   ⟨0x2702, 0x1, 0x1, .u16, .ro, 0, [], .no, false⟩,
   ⟨0x2702, 0x2, 0x2, .u16, .ro, 0, [], .no, false⟩,
   ⟨0x2702, 0x3, 0x3, .u32, .ro, 0, [], .fram, false⟩,
   ⟨0x2702, 0x4, 0x4, .u32, .ro, 0, [], .fram, false⟩,
   ⟨0x2702, 0x5, 0x5, .u48, .ro, 0, [], .fram, false⟩,
   ⟨0x2702, 0x6, 0x6, .u48, .ro, 0, [], .fram, false⟩,
   ⟨0x2702, 0x7, 0x7, .u48, .ro, 0, [], .fram, false⟩,
   ⟨0x2703, 0x1, 0x40, .u32, .ro, 0, [], .no, false⟩,
   ⟨0x2704, 0x1, 0xD, .u32, .ro, 0, [], .fram, false⟩,
   ⟨0x2705, 0x1, 0x1, .u48, .rw, 0, [], .no, false⟩,
   ⟨0x2705, 0x2, 0x2, .u16, .rw, 0x3FFE, [], .no, false⟩,
   ⟨0x2705, 0x3, 0x3, .u8, .rw, 255, [(0, 12), (255, 255)], .no, false⟩,
   ⟨0x2705, 0x4, 0x4, .u8, .rw, 8, [(1, 16)], .no, false⟩,
   ⟨0x2705, 0x5, 0x5, .domain, .ro, 0, [], .no, false⟩,
   ⟨0x2705, 0x6, 0x6, .u8, .ro, 0, [], .no, false⟩,
   ⟨0x2706, 0x1, 0x1, .u48, .rw, 0, [], .no, false⟩,
   ⟨0x2706, 0x2, 0x2, .u16, .rw, 0x3FFE, [], .no, false⟩,
   ⟨0x2706, 0x3, 0x3, .u8, .rw, 255, [(0, 12), (255, 255)], .no, false⟩,
   ⟨0x2706, 0x4, 0x4, .u8, .rw, 8, [(1, 16)], .no, false⟩,
   ⟨0x2706, 0x5, 0x5, .domain, .ro, 0, [], .no, false⟩,
   ⟨0x2706, 0x6, 0x6, .u8, .ro, 0, [], .no, false⟩,
   ⟨0x2707, 0x1, 0x1, .u48, .rw, 0, [], .no, false⟩,
   ⟨0x2707, 0x2, 0x2, .u16, .rw, 0x3FFE, [], .no, false⟩,
   ⟨0x2707, 0x3, 0x3, .u8, .rw, 255, [(0, 12), (255, 255)], .no, false⟩,
   ⟨0x2707, 0x4, 0x4, .u8, .rw, 8, [(1, 16)], .no, false⟩,
   ⟨0x2707, 0x5, 0x5, .domain, .ro, 0, [], .no, false⟩,
   ⟨0x2707, 0x6, 0x6, .u8, .ro, 0, [], .no, false⟩,
   ⟨0x2708, 0x1, 0x1, .u48, .rw, 0, [], .no, false⟩,
   ⟨0x2708, 0x2, 0x2, .u16, .rw, 0x3FFE, [], .no, false⟩,
   ⟨0x2708, 0x3, 0x3, .u8, .rw, 255, [(0, 12), (255, 255)], .no, false⟩,
   ⟨0x2708, 0x4, 0x4, .u8, .rw, 8, [(1, 16)], .no, false⟩,
   ⟨0x2708, 0x5, 0x5, .domain, .ro, 0, [], .no, false⟩,
   ⟨0x2708, 0x6, 0x6, .u8, .ro, 0, [], .no, false⟩,
   ⟨0x2709, 0x1, 0x1, .u16, .ro, 0, [], .no, false⟩,
   ⟨0x2709, 0x2, 0x2, .u32, .ro, 0, [], .fram, false⟩,
   ⟨0x2709, 0x3, 0x3, .u48, .ro, 0, [], .fram, false⟩,
   ⟨0x2709, 0x4, 0x4, .u8, .rwa, 4, [(0, 16)], .yes, false⟩,
   ⟨0x270A, 0x1, 0x40, .u32, .rw, 0, [], .yes, false⟩,
   ⟨0x270A, 0x41, 0x41, .u8, .rw, 0, [(0, 64)], .yes, false⟩,
   ⟨0x270A, 0x42, 0x42, .u16, .ro, 0, [], .no, false⟩,
   ⟨0x270B, 0x1, 0x40, .u32, .rw, 0, [], .yes, false⟩,
   ⟨0x270B, 0x41, 0x41, .u8, .rw, 0, [(0, 64)], .yes, false⟩,
   ⟨0x270B, 0x42, 0x42, .u16, .ro, 0, [], .no, false⟩,
   ⟨0x270C, 0x1, 0x40, .u32, .rw, 0, [], .yes, false⟩,
   ⟨0x270C, 0x41, 0x41, .u8, .rw, 0, [(0, 64)], .yes, false⟩,
   ⟨0x270C, 0x42, 0x42, .u16, .ro, 0, [], .no, false⟩,
   ⟨0x270D, 0x1, 0x40, .u32, .rw, 0, [], .yes, false⟩,
   ⟨0x270D, 0x41, 0x41, .u8, .rw, 0, [(0, 64)], .yes, false⟩,
   ⟨0x270D, 0x42, 0x42, .u16, .ro, 0, [], .no, false⟩,
   ⟨0x270E, 0x1, 0x40, .u32, .rw, 0, [], .yes, false⟩,
   ⟨0x270E, 0x41, 0x41, .u8, .rw, 0, [(0, 64)], .yes, false⟩,
   ⟨0x270E, 0x42, 0x42, .u16, .ro, 0, [], .no, false⟩,
   ⟨0x270F, 0x1, 0x40, .u32, .rw, 0, [], .yes, false⟩,
   ⟨0x270F, 0x41, 0x41, .u8, .rw, 0, [(0, 64)], .yes, false⟩,
   ⟨0x270F, 0x42, 0x42, .u16, .ro, 0, [], .no, false⟩,
   ⟨0x2710, 0x1, 0x40, .u32, .rw, 0, [], .yes, false⟩,
   ⟨0x2710, 0x41, 0x41, .u8, .rw, 0, [(0, 64)], .yes, false⟩,
   ⟨0x2710, 0x42, 0x42, .u16, .ro, 0, [], .no, false⟩,
   ⟨0x2711, 0x1, 0x40, .u32, .rw, 0, [], .yes, false⟩,
   ⟨0x2711, 0x41, 0x41, .u8, .rw, 0, [(0, 64)], .yes, false⟩,
   ⟨0x2711, 0x42, 0x42, .u16, .ro, 0, [], .no, false⟩,
   ⟨0x2712, 0x1, 0x1, .u8, .rwa, 0, [(1, 1), (2, 2)], .no, false⟩,
   ⟨0x2712, 0x2, 0x2, .u8, .ro, 0, [], .no, false⟩,
   ⟨0x2712, 0x3, 0x3, .u32, .ro, 0, [], .fram, false⟩,
   ⟨0x2712, 0x4, 0x4, .u48, .ro, 0, [], .fram, false⟩,
   ⟨0x2712, 0x5, 0x5, .u16, .ro, 0, [], .no, false⟩,
   ⟨0x2713, 0x1, 0x1, .u48, .ro, 0, [], .no, false⟩,
   ⟨0x2713, 0x2, 0x2, .u48, .ro, 0, [], .no, false⟩,
   ⟨0x2713, 0x3, 0x3, .u32, .ro, 0, [], .no, false⟩,
   ⟨0x2713, 0x4, 0x4, .u32, .ro, 0, [], .no, false⟩,
   ⟨0x2714, 0x1, 0x1, .u8, .rw, 16, [(1, 64)], .yes, false⟩,
   ⟨0x2714, 0x2, 0x2, .u16, .rw, 10, [(1, 1000)], .yes, false⟩,
   ⟨0x2714, 0x3, 0x3, .u8, .ro, 0, [], .no, false⟩,
   ⟨0x2715, 0x1, 0x1, .u8, .ro, 8, [], .no, false⟩,
   ⟨0x2715, 0x2, 0x2, .u8, .ro, 4, [], .no, false⟩,
   ⟨0x2716, 0x1, 0x1, .u32, .ro, 0, [], .no, false⟩,
   ⟨0x2716, 0x2, 0x2, .u32, .ro, 0, [], .no, false⟩,
   ⟨0x2716, 0x3, 0x3, .u48, .ro, 0, [], .no, false⟩,
   ⟨0x2717, 0x1, 0xD, .u48, .ro, 0, [], .no, false⟩]

/-- Update and authorisation (R577). -/
def updateRows : List ObjRow :=
  [⟨0x2800, 0x1, 0x1, .u8, .rwa, 0, [(1, 1), (2, 2), (3, 3), (4, 4), (5, 5), (6, 6)], .no, false⟩,
   ⟨0x2800, 0x2, 0x2, .u8, .ro, 0, [], .fram, false⟩,
   ⟨0x2800, 0x3, 0x3, .u8, .ro, 0, [], .fram, false⟩,
   ⟨0x2800, 0x4, 0x4, .u8, .ro, 0, [], .fram, false⟩,
   ⟨0x2801, 0x1, 0x1, .u32, .rwa, 0, [(0, 12582911)], .no, false⟩,
   ⟨0x2801, 0x2, 0x2, .domain, .wo, 0, [(1, 8192)], .no, false⟩,
   ⟨0x2801, 0x3, 0x3, .u32, .ro, 0, [], .no, false⟩,
   ⟨0x2801, 0x4, 0x4, .u32, .ro, 0, [], .no, false⟩,
   ⟨0x2802, 0x1, 0x1, .u32, .ro, 0, [], .fram, false⟩,
   ⟨0x2802, 0x2, 0x2, .u64, .ro, 0, [], .fram, false⟩,
   ⟨0x2802, 0x3, 0x3, .u8, .ro, 0, [], .fram, false⟩,
   ⟨0x2803, 0x1, 0x1, .bool, .ro, 0, [], .no, false⟩,
   ⟨0x2803, 0x2, 0x2, .bool, .ro, 0, [], .no, false⟩,
   ⟨0x2804, 0x1, 0x1, .u8, .rw, 0, [(1, 1), (2, 2)], .no, false⟩,
   ⟨0x2804, 0x2, 0x2, .u64, .ro, 0, [], .no, false⟩,
   ⟨0x2804, 0x3, 0x3, .domain, .wo, 0, [(16, 16)], .no, false⟩,
   ⟨0x2804, 0x4, 0x4, .u8, .ro, 0, [], .no, false⟩,
   ⟨0x2804, 0x5, 0x5, .u16, .ro, 0, [], .no, false⟩,
   ⟨0x2805, 0x1, 0x1, .u16, .rwa, 300, [(60, 3600)], .yes, false⟩,
   ⟨0x2805, 0x2, 0x2, .u16, .rwa, 3600, [(300, 28800)], .yes, false⟩,
   ⟨0x2805, 0x3, 0x3, .u8, .rwa, 3, [(1, 10)], .yes, false⟩,
   ⟨0x2805, 0x4, 0x4, .u16, .rwa, 60, [(10, 3600)], .yes, false⟩,
   ⟨0x2806, 0x1, 0x1, .u8, .ro, 3, [], .no, false⟩,
   ⟨0x2806, 0x2, 0x2, .u8, .ro, 0, [], .no, false⟩,
   ⟨0x2806, 0x3, 0x3, .u8, .ro, 0, [], .no, false⟩,
   ⟨0x2807, 0x1, 0x1, .domain, .wo, 0, [(32, 32)], .fram, false⟩,
   ⟨0x2807, 0x2, 0x2, .bool, .ro, 0, [], .fram, false⟩,
   ⟨0x2807, 0x3, 0x3, .u32, .ro, 0, [], .fram, false⟩,
   ⟨0x2807, 0x4, 0x4, .u32, .ro, 0, [], .fram, false⟩,
   ⟨0x2808, 0x1, 0x1, .u32, .ro, 0, [], .fram, false⟩,
   ⟨0x2808, 0x2, 0x2, .u32, .ro, 0, [], .fram, false⟩,
   ⟨0x2808, 0x3, 0x3, .u32, .ro, 0, [], .fram, false⟩,
   ⟨0x2808, 0x4, 0x4, .u40, .ro, 0, [], .fram, false⟩,
   ⟨0x2809, 0x1, 0x1, .u8, .rwa, 0, [(1, 1), (2, 2)], .no, false⟩,
   ⟨0x2809, 0x2, 0x2, .bool, .ro, 0, [], .no, false⟩,
   ⟨0x2809, 0x3, 0x3, .u16, .rwa, 1800, [(60, 14400)], .yes, false⟩,
   ⟨0x2809, 0x4, 0x4, .u16, .ro, 0, [], .no, false⟩,
   ⟨0x280A, 0x1, 0x1, .u8, .rw, 1, [(1, 12)], .no, false⟩,
   ⟨0x280A, 0x2, 0x2, .domain, .ro, 0, [], .no, false⟩,
   ⟨0x280A, 0x3, 0x3, .domain, .rwa, 0, [(0, 8192)], .no, false⟩,
   ⟨0x280A, 0x4, 0x4, .u16, .ro, 0, [], .no, false⟩,
   ⟨0x280B, 0x1, 0x1, .u32, .ro, 0, [], .fram, false⟩,
   ⟨0x280B, 0x2, 0x2, .u32, .ro, 0, [], .fram, false⟩,
   ⟨0x280B, 0x3, 0x3, .u8, .ro, 0, [], .fram, false⟩]

/-- Networks (R485, R508). -/
def networkRows : List ObjRow :=
  [⟨0x2900, 0x1, 0x1, .u8, .rwa, 1, [(0, 0), (1, 1), (2, 2)], .yes, false⟩,
   ⟨0x2900, 0x2, 0x2, .u8, .rwa, 0, [(0, 0), (1, 1)], .yes, false⟩,
   ⟨0x2900, 0x3, 0x3, .u8, .rwa, 2, [(0, 0), (1, 1), (2, 2), (3, 3)], .yes, false⟩,
   ⟨0x2900, 0x4, 0x4, .u8, .rwa, 1, [(0, 0), (1, 1), (2, 2), (3, 3)], .yes, false⟩,
   ⟨0x2900, 0x5, 0x5, .u16, .ro, 0, [], .no, false⟩,
   ⟨0x2900, 0x6, 0x6, .u16, .ro, 0, [], .no, false⟩,
   ⟨0x2900, 0x7, 0x7, .u8, .ro, 0, [], .no, false⟩,
   ⟨0x2900, 0x8, 0x8, .u8, .rw, 0, [(1, 1), (2, 2), (3, 3)], .no, false⟩,
   ⟨0x2900, 0x9, 0x9, .u8, .ro, 0, [], .no, false⟩,
   ⟨0x2900, 0xA, 0xA, .u8, .ro, 0, [], .no, false⟩,
   ⟨0x2900, 0xB, 0xB, .u8, .ro, 0, [], .no, false⟩,
   ⟨0x2900, 0xC, 0xC, .u32, .ro, 0, [], .fram, false⟩,
   ⟨0x2900, 0xD, 0xD, .u32, .ro, 0, [], .fram, false⟩,
   ⟨0x2900, 0xE, 0xE, .u32, .ro, 0, [], .fram, false⟩,
   ⟨0x2900, 0xF, 0xF, .u32, .ro, 0, [], .no, false⟩,
   ⟨0x2900, 0x10, 0x10, .u32, .ro, 0, [], .no, false⟩,
   ⟨0x2900, 0x11, 0x11, .u16, .ro, 500, [], .fram, false⟩,
   ⟨0x2900, 0x12, 0x12, .u16, .ro, 4000, [], .fram, false⟩,
   ⟨0x2900, 0x13, 0x13, .u32, .ro, 0, [], .fram, false⟩,
   ⟨0x2900, 0x14, 0x14, .u32, .ro, 0, [], .no, false⟩,
   ⟨0x2900, 0x15, 0x15, .u8, .ro, 0, [], .no, false⟩,
   ⟨0x2901, 0x1, 0x1, .u8, .rwa, 1, [(0, 0), (1, 1), (2, 2)], .yes, false⟩,
   ⟨0x2901, 0x2, 0x2, .u8, .rwa, 0, [(0, 0), (1, 1)], .yes, false⟩,
   ⟨0x2901, 0x3, 0x3, .u8, .rwa, 2, [(0, 0), (1, 1), (2, 2), (3, 3)], .yes, false⟩,
   ⟨0x2901, 0x4, 0x4, .u8, .rwa, 1, [(0, 0), (1, 1), (2, 2), (3, 3)], .yes, false⟩,
   ⟨0x2901, 0x5, 0x5, .u16, .ro, 0, [], .no, false⟩,
   ⟨0x2901, 0x6, 0x6, .u16, .ro, 0, [], .no, false⟩,
   ⟨0x2901, 0x7, 0x7, .u8, .ro, 0, [], .no, false⟩,
   ⟨0x2901, 0x8, 0x8, .u8, .rw, 0, [(1, 1), (2, 2), (3, 3)], .no, false⟩,
   ⟨0x2901, 0x9, 0x9, .u8, .ro, 0, [], .no, false⟩,
   ⟨0x2901, 0xA, 0xA, .u8, .ro, 0, [], .no, false⟩,
   ⟨0x2901, 0xB, 0xB, .u8, .ro, 0, [], .no, false⟩,
   ⟨0x2901, 0xC, 0xC, .u32, .ro, 0, [], .fram, false⟩,
   ⟨0x2901, 0xD, 0xD, .u32, .ro, 0, [], .fram, false⟩,
   ⟨0x2901, 0xE, 0xE, .u32, .ro, 0, [], .fram, false⟩,
   ⟨0x2901, 0xF, 0xF, .u32, .ro, 0, [], .no, false⟩,
   ⟨0x2901, 0x10, 0x10, .u32, .ro, 0, [], .no, false⟩,
   ⟨0x2901, 0x11, 0x11, .u16, .ro, 500, [], .fram, false⟩,
   ⟨0x2901, 0x12, 0x12, .u16, .ro, 4000, [], .fram, false⟩,
   ⟨0x2901, 0x13, 0x13, .u32, .ro, 0, [], .fram, false⟩,
   ⟨0x2901, 0x14, 0x14, .u32, .ro, 0, [], .no, false⟩,
   ⟨0x2901, 0x15, 0x15, .u8, .ro, 0, [], .no, false⟩,
   ⟨0x2902, 0x1, 0x1, .u64, .rw, 0x5555555555555555, [], .yes, false⟩,
   ⟨0x2902, 0x2, 0x2, .u64, .rw, 0x5555555555555555, [], .yes, false⟩,
   ⟨0x2903, 0x1, 0x1, .u8, .ro, 0, [], .no, false⟩,
   ⟨0x2903, 0x2, 0x2, .u8, .ro, 0, [], .no, false⟩,
   ⟨0x2903, 0x3, 0x3, .u8, .ro, 255, [], .fram, false⟩,
   ⟨0x2903, 0x4, 0x4, .u8, .ro, 0, [], .no, false⟩,
   ⟨0x2903, 0x5, 0x5, .u8, .ro, 0, [], .no, false⟩,
   ⟨0x2903, 0x6, 0x6, .u32, .ro, 0, [], .fram, false⟩,
   ⟨0x2904, 0x1, 0x1, .u16, .ro, 0, [], .no, false⟩,
   ⟨0x2904, 0x2, 0x2, .u32, .ro, 0, [], .no, false⟩,
   ⟨0x2904, 0x3, 0x3, .u32, .ro, 0, [], .no, false⟩,
   ⟨0x2904, 0x4, 0x4, .u32, .ro, 0, [], .no, false⟩,
   ⟨0x2904, 0x5, 0x5, .u32, .ro, 0, [], .no, false⟩,
   ⟨0x2904, 0x6, 0x6, .u32, .ro, 0, [], .no, false⟩,
   ⟨0x2905, 0x1, 0x1, .u64, .ro, 0, [], .no, false⟩,
   ⟨0x2905, 0x2, 0x2, .i32, .ro, 0, [], .no, false⟩,
   ⟨0x2905, 0x3, 0x3, .u8, .ro, 0, [], .no, false⟩,
   ⟨0x2905, 0x4, 0x4, .u16, .ro, 0, [], .no, false⟩,
   ⟨0x2906, 0x1, 0x1, .u8, .ro, 0, [], .no, false⟩,
   ⟨0x2906, 0x2, 0x2, .u8, .ro, 0, [], .no, false⟩,
   ⟨0x2906, 0x3, 0x3, .bool, .ro, 0, [], .no, false⟩,
   ⟨0x2906, 0x4, 0x4, .u8, .rwa, 3, [(0, 3)], .yes, false⟩,
   ⟨0x2906, 0x5, 0x5, .u32, .ro, 0, [], .fram, false⟩,
   ⟨0x2906, 0x6, 0x6, .u16, .rwa, 0, [(0, 0), (1, 4094)], .yes, false⟩,
   ⟨0x2906, 0x7, 0x7, .u8, .rwa, 5, [(0, 7)], .yes, false⟩,
   ⟨0x2906, 0x8, 0x8, .u8, .rwa, 3, [(0, 7)], .yes, false⟩,
   ⟨0x2906, 0x9, 0x9, .u8, .rwa, 7, [(0, 7)], .yes, false⟩,
   ⟨0x2907, 0x1, 0x1, .u8, .rwa, 0, [(0, 0), (1, 1)], .yes, false⟩,
   ⟨0x2907, 0x2, 0x2, .u32, .rwa, 0xA00000A, [], .yes, false⟩,
   ⟨0x2907, 0x3, 0x3, .u32, .rwa, 0xFFFFFF00, [], .yes, false⟩,
   ⟨0x2907, 0x4, 0x4, .u32, .rwa, 0, [], .yes, false⟩,
   ⟨0x2907, 0x5, 0x5, .u32, .ro, 0, [], .no, false⟩,
   ⟨0x2907, 0x6, 0x6, .u48, .ro, 0, [], .no, false⟩,
   ⟨0x2908, 0x1, 0x1, .u32, .rwa, 0xA0F0, [(1, 4294967295)], .yes, false⟩,
   ⟨0x2908, 0x2, 0x2, .u16, .rwa, 32, [(8, 1000)], .yes, false⟩,
   ⟨0x2908, 0x3, 0x3, .u32, .rwa, 0xEFC00001, [], .yes, false⟩,
   ⟨0x2908, 0x4, 0x4, .u32, .rwa, 0xA0F1, [(0, 0), (1, 4294967295)], .yes, false⟩,
   ⟨0x2908, 0x5, 0x5, .u32, .rwa, 0, [], .yes, false⟩,
   ⟨0x2908, 0x6, 0x6, .u32, .ro, 0, [], .no, false⟩,
   ⟨0x2908, 0x7, 0x7, .u32, .ro, 0, [], .no, false⟩,
   ⟨0x2908, 0x8, 0x8, .u32, .ro, 0, [], .no, false⟩,
   ⟨0x2909, 0x1, 0x1, .bool, .rwa, 1, [], .yes, false⟩,
   ⟨0x2909, 0x2, 0x2, .u32, .rwa, 0xA0FA, [(1, 4294967295)], .yes, false⟩,
   ⟨0x2909, 0x3, 0x3, .u32, .rwa, 0xA0FB, [(1, 4294967295)], .yes, false⟩,
   ⟨0x2909, 0x4, 0x4, .u8, .ro, 0, [], .no, false⟩,
   ⟨0x2909, 0x5, 0x5, .u32, .ro, 0, [], .no, false⟩,
   ⟨0x2909, 0x6, 0x6, .u32, .ro, 0, [], .no, false⟩,
   ⟨0x290A, 0x1, 0x1, .bool, .rwa, 1, [], .yes, false⟩,
   ⟨0x290A, 0x2, 0x2, .u8, .rwa, 0, [(0, 127)], .yes, false⟩,
   ⟨0x290A, 0x3, 0x3, .u8, .ro, 0, [], .no, false⟩,
   ⟨0x290A, 0x4, 0x4, .i32, .ro, 0, [], .no, false⟩,
   ⟨0x290A, 0x5, 0x5, .u32, .ro, 0, [], .no, false⟩,
   ⟨0x290A, 0x6, 0x6, .u64, .ro, 0, [], .no, false⟩,
   ⟨0x290A, 0x7, 0x7, .bool, .ro, 0, [], .no, false⟩,
   ⟨0x290A, 0x8, 0x8, .u32, .ro, 0, [], .no, false⟩,
   ⟨0x290B, 0x1, 0x1, .u32, .rwa, 0, [], .yes, false⟩,
   ⟨0x290B, 0x2, 0x2, .u32, .rwa, 0, [], .yes, false⟩,
   ⟨0x290B, 0x3, 0x3, .u16, .rwa, 16, [(16, 1024)], .yes, false⟩,
   ⟨0x290B, 0x4, 0x4, .u8, .ro, 0, [], .no, false⟩,
   ⟨0x290B, 0x5, 0x5, .bool, .rwa, 1, [], .yes, false⟩,
   ⟨0x290B, 0x6, 0x6, .u32, .rwa, 0xC0A8FE01, [], .yes, false⟩,
   ⟨0x290B, 0x7, 0x7, .u8, .ro, 0, [], .no, false⟩]

/-- The mode selector (R524). -/
def modeRows : List ObjRow :=
  [⟨0x2FF0, 0x1, 0x1, .u8, .ro, 0, [], .no, false⟩,
   ⟨0x2FF0, 0x2, 0x2, .u8, .rwa, 0, [(0, 0), (1, 1)], .fram, false⟩,
   ⟨0x2FF0, 0x3, 0x3, .u32, .ro, 0, [], .fram, false⟩]

/-- Overlay: module objects of the legacy dictionary (R538). -/
def legacyRows : List ObjRow :=
  [⟨0x2000, 0x1, 0x1, .u32, .ro, 0x470008, [], .no, false⟩,
   ⟨0x2000, 0x2, 0x2, .u32, .ro, 0, [], .no, false⟩,
   ⟨0x2000, 0x3, 0x3, .u16, .ro, 773, [], .no, false⟩,
   ⟨0x2001, 0x1, 0x1, .u16, .ro, 0, [], .no, false⟩,
   ⟨0x2001, 0x2, 0x2, .u32, .ro, 0, [], .no, false⟩,
   ⟨0x2002, 0x1, 0x1, .u16, .ro, 0, [], .no, false⟩,
   ⟨0x2003, 0x1, 0x1, .u8, .ro, 0, [], .no, false⟩,
   ⟨0x2004, 0x1, 0x1, .u32, .rw, 0, [], .no, false⟩,
   ⟨0x2004, 0x2, 0x2, .u8, .rw, 1, [(1, 8)], .no, false⟩,
   ⟨0x2005, 0x1, 0x1, .domain, .ro, 0, [], .no, false⟩,
   ⟨0x2006, 0x1, 0x1, .u32, .ro, 0, [], .no, false⟩,
   ⟨0x2006, 0x2, 0x2, .u32, .ro, 0, [], .no, false⟩,
   ⟨0x2007, 0x1, 0x1, .u8, .wo, 0, [(1, 1)], .no, false⟩,
   ⟨0x2007, 0x2, 0x2, .u32, .ro, 0, [], .fram, false⟩]

/-- Overlay: doorway blocks, L + offset (R538). -/
def legacyDoorRows : List ObjRow :=
  [⟨0x0, 0x1, 0x1, .u8, .rwl, 0, [(0, 1)], .yes, false⟩,
   ⟨0x0, 0x2, 0x2, .u8, .rwl, 2, [(0, 2)], .yes, false⟩,
   ⟨0x0, 0x3, 0x3, .u8, .rwl, 1, [(0, 1)], .yes, false⟩,
   ⟨0x0, 0x4, 0x4, .u8, .rwl, 0, [(0, 1)], .yes, false⟩,
   ⟨0x1, 0x1, 0x1, .u8, .ro, 0, [], .no, false⟩,
   ⟨0x1, 0x2, 0x2, .u16, .ro, 0, [], .no, false⟩,
   ⟨0x1, 0x3, 0x3, .u8, .ro, 0, [], .no, false⟩,
   ⟨0x2, 0x1, 0x1, .u8, .rw, 0, [(1, 4)], .no, true⟩,
   ⟨0x2, 0x2, 0x2, .u8, .ro, 0, [], .no, false⟩,
   ⟨0x2, 0x3, 0x3, .u8, .rw, 0, [(1, 2)], .no, false⟩,
   ⟨0x3, 0x1, 0x1, .u16, .rwl, 2800, [(1000, 10000)], .yes, false⟩,
   ⟨0x3, 0x2, 0x2, .u16, .rwl, 3200, [(1000, 10000)], .yes, false⟩,
   ⟨0x3, 0x3, 0x3, .u16, .rwl, 2000, [(0, 10000)], .yes, false⟩,
   ⟨0x3, 0x4, 0x4, .u16, .rwl, 1500, [(200, 5000)], .yes, false⟩,
   ⟨0x3, 0x5, 0x5, .u16, .rwl, 0, [(0, 600)], .yes, false⟩,
   ⟨0x4, 0x1, 0x1, .u8, .rwl, 3, [(1, 10)], .yes, false⟩,
   ⟨0x4, 0x2, 0x2, .u16, .rwl, 0, [(0, 0), (1, 20000)], .yes, false⟩,
   ⟨0x4, 0x3, 0x3, .i16, .rwl, 50, [(10, 150)], .yes, false⟩,
   ⟨0x4, 0x4, 0x4, .i16, .rwl, 150, [(50, 400)], .yes, false⟩,
   ⟨0x4, 0x5, 0x5, .i16, .rwl, 100, [(50, 400)], .yes, false⟩,
   ⟨0x5, 0x1, 0x1, .u32, .ro, 0, [], .no, false⟩,
   ⟨0x5, 0x2, 0x2, .u32, .ro, 0, [], .no, false⟩,
   ⟨0x5, 0x3, 0x3, .u16, .ro, 0, [], .no, false⟩,
   ⟨0x5, 0x4, 0x4, .u16, .ro, 0, [], .no, false⟩,
   ⟨0x5, 0x5, 0x5, .i16, .ro, 0, [], .no, false⟩]

/-- Overlay: axis blocks, X + offset (R538). -/
def legacyAxisRows : List ObjRow :=
  [⟨0x0, 0x1, 0x1, .u16, .rwl, 200, [], .yes, false⟩,
   ⟨0x0, 0x2, 0x2, .u16, .rwl, 400, [(10, 2000)], .yes, false⟩,
   ⟨0x0, 0x3, 0x3, .i16, .rwl, 2500, [(500, 3000)], .yes, false⟩,
   ⟨0x0, 0x4, 0x4, .i16, .rwl, 1000, [(0, 3000)], .yes, false⟩,
   ⟨0x1, 0x1, 0x1, .u16, .rwl, 500, [(10, 1500)], .yes, false⟩,
   ⟨0x1, 0x2, 0x2, .u16, .rwl, 500, [(10, 5000)], .yes, false⟩,
   ⟨0x1, 0x3, 0x3, .u16, .rwl, 500, [(10, 5000)], .yes, false⟩,
   ⟨0x1, 0x4, 0x4, .u16, .rwl, 50, [(10, 100)], .yes, false⟩,
   ⟨0x1, 0x5, 0x5, .u16, .rwl, 7000, [(100, 20000)], .yes, false⟩,
   ⟨0x2, 0x1, 0x1, .i32, .ro, 0, [], .no, false⟩,
   ⟨0x2, 0x2, 0x2, .i16, .ro, 0, [], .no, false⟩,
   ⟨0x2, 0x3, 0x3, .i16, .ro, 0, [], .no, false⟩,
   ⟨0x2, 0x4, 0x4, .i16, .ro, 0, [], .no, false⟩,
   ⟨0x2, 0x5, 0x5, .i16, .ro, 0, [], .no, false⟩,
   ⟨0x2, 0x6, 0x6, .u16, .ro, 0, [], .no, false⟩]

/-- Overlay: channel banks, 0x2100 + (d-1) (R538). -/
def legacyBankRows : List ObjRow :=
  [⟨0x0, 0x1, 0xC, .u8, .rw, 0, [(0, 2)], .no, true⟩,
   ⟨0x0, 0xD, 0xD, .u16, .ro, 0, [], .no, false⟩,
   ⟨0x0, 0xE, 0xE, .u16, .ro, 0, [], .no, false⟩,
   ⟨0x0, 0xF, 0xF, .u8, .ro, 0, [], .no, false⟩]

end Sys2Proof.Machine
end

