-- ==== Sys2Proof/Machine/Dictionary.lean ====
section
/-! DEFINITION. The shape of the object dictionary (R509, R513 to R518, R535 to R538): which object an index names,
which sub-indices it has, and what each register's default is. -/

namespace Sys2Proof.Machine

/-- The key of a sub-entry in the register file. -/
def key (idx sub : Nat) : Nat := idx * 256 + sub

/-- B of doorway d, C of channel c, A of axis a (R515); items numbered from 0. -/
def bBase (d : Nat) : Nat := 0x3000 + 0x20 * d
def cBase (c : Nat) : Nat := 0x4000 + 4 * c
def aBase (a : Nat) : Nat := 0x5000 + 8 * a
/-- L and X of the legacy dictionary (R536). -/
def lBase (d : Nat) : Nat := 0x2010 + 8 * d
def xBase (a : Nat) : Nat := 0x2080 + 4 * a

/-- What an index names (R515, R536). -/
inductive Place
  | door (d off : Nat)
  | chan (c off : Nat)
  | axis (a off : Nat)
  | pdo (base n : Nat)
  | module (idx : Nat)
  | reserved
  | legacyDoor (d off : Nat)
  | legacyAxis (a off : Nat)
  | legacyBank (d : Nat)
  | absent
deriving DecidableEq, Repr

/-- The reserved indices of R513. -/
def isReserved (i : Nat) : Bool :=
  (0x1202 ≤ i && i ≤ 0x120F) || i == 0x2005 || (0x2007 ≤ i && i ≤ 0x200F) || (0x210E ≤ i && i ≤ 0x2113) ||
  (0x220C ≤ i && i ≤ 0x2217) || (0x2407 ≤ i && i ≤ 0x240F)

/-- A PDO object's area and number from 0, for `n` PDOs per direction. -/
def pdoPlace (n i : Nat) : Option Place :=
  if 0x1400 ≤ i && i < 0x1400 + n then some (.pdo 0x1400 (i - 0x1400))
  else if 0x1600 ≤ i && i < 0x1600 + n then some (.pdo 0x1600 (i - 0x1600))
  else if 0x1800 ≤ i && i < 0x1800 + n then some (.pdo 0x1800 (i - 0x1800))
  else if 0x1A00 ≤ i && i < 0x1A00 + n then some (.pdo 0x1A00 (i - 0x1A00))
  else none

/-- The rows of a module object's area. -/
def moduleRows (i : Nat) : List ObjRow :=
  if i < 0x2000 then commRows
  else if i < 0x2100 then identRows
  else if i < 0x2200 then clockRows
  else if i < 0x2300 then laneRows
  else if i < 0x2400 then trainRows
  else if i < 0x2500 then inputRows
  else if i < 0x2600 then eventRows
  else if i < 0x2700 then ledgerRows
  else if i < 0x2800 then recorderRows
  else if i < 0x2900 then updateRows
  else if i < 0x2A00 then networkRows
  else modeRows

/-- The place of an index in the native dictionary (R513 to R515). -/
def nativePlace (i : Nat) : Place :=
  if isReserved i then .reserved
  else match pdoPlace 32 i with
  | some p => p
  | none =>
    if 0x3000 ≤ i && i < 0x3180 then
      (if (i - 0x3000) % 32 < 0x18 then .door ((i - 0x3000) / 32) ((i - 0x3000) % 32) else .absent)
    else if 0x4000 ≤ i && i < 0x4300 then .chan ((i - 0x4000) / 4) ((i - 0x4000) % 4)
    else if 0x5000 ≤ i && i < 0x5120 then .axis ((i - 0x5000) / 8) ((i - 0x5000) % 8)
    else if (moduleRows i).any (fun r => r.off == i) then .module i
    else .absent

/-- The communication objects the legacy dictionary keeps (R536). -/
def legacyComm : List Nat :=
  [0x1000, 0x1001, 0x1003, 0x1005, 0x1008, 0x1009, 0x100A, 0x1010, 0x1011, 0x1014, 0x1016, 0x1017, 0x1018, 0x1200]

/-- The place of an index in the legacy dictionary (R536). -/
def legacyPlace (i : Nat) : Place :=
  if legacyComm.contains i then .module i
  else match pdoPlace 16 i with
  | some p => p
  | none =>
    if 0x2000 ≤ i && i ≤ 0x2007 then .module i
    else if 0x2010 ≤ i && i < 0x2050 then
      (if (i - 0x2010) % 8 ≤ 5 then .legacyDoor ((i - 0x2010) / 8) ((i - 0x2010) % 8) else .absent)
    else if 0x2080 ≤ i && i < 0x20E0 then
      (if (i - 0x2080) % 4 ≤ 2 then .legacyAxis ((i - 0x2080) / 4) ((i - 0x2080) % 4) else .absent)
    else if 0x2100 ≤ i && i < 0x2108 then .legacyBank (i - 0x2100)
    else .absent

/-- The rows that describe the subs of a place, by the offset they carry. -/
def placeRows (legacy : Bool) : Place → List ObjRow
  | .door _ off => doorRows.filter (fun r => r.off == off)
  | .chan _ off => chanRows.filter (fun r => r.off == off)
  | .axis _ off => axisRows.filter (fun r => r.off == off)
  | .pdo b _ => commRows.filter (fun r => r.off == b)
  | .module i =>
    if legacy && 0x2000 ≤ i then legacyRows.filter (fun r => r.off == i)
    else (moduleRows i).filter (fun r => r.off == i)
  | .legacyDoor _ off => legacyDoorRows.filter (fun r => r.off == off)
  | .legacyAxis _ off => legacyAxisRows.filter (fun r => r.off == off)
  | .legacyBank _ => legacyBankRows
  | .reserved => []
  | .absent => []

/-- Sub 0x00 of an object that does not list it: its highest sub-index, UNSIGNED8 and RO (R514, R524). -/
def topSubRow (rows : List ObjRow) : ObjRow :=
  ⟨0, 0, 0, .u8, .ro, rows.foldl (fun m r => max m r.hi) 0, [], .no, false⟩

/-- The row of a sub-index among the rows of its object. -/
def subRow (rows : List ObjRow) (sub : Nat) : Option ObjRow :=
  match rows.find? (fun r => decide (r.lo ≤ sub) && decide (sub ≤ r.hi)) with
  | some r => some r
  | none => if sub = 0 then some (topSubRow rows) else none

/-- The row of a native sub-entry, if it is present. B+0x03:07 and :08 are reserved: they read 0 (R58). -/
def nativeRow (idx sub : Nat) : Option ObjRow :=
  match nativePlace idx with
  | .absent => none
  | .door _ 3 => if sub = 7 || sub = 8 then some ⟨3, sub, sub, .u16, .ro, 0, [], .no, false⟩ else subRow (placeRows false (.door 0 3)) sub
  | p => subRow (placeRows false p) sub

/-- A default that is computed from the node-ID in force (R521, R523); no register of the dictionary is this wide. -/
def nodeDefault : Nat := 2 ^ 72

/-- Default roles of the channels of a bank (R60) and of the inputs of a doorway (R61); local number from 1. -/
def defaultChanRole (n : Nat) : Nat := if n ≤ 10 then n else 0
def defaultInputRole (n : Nat) : Nat := if n ≤ 11 then n else 0

/-- A PDO mapping entry (R518). -/
def mapEntry (idx sub bits : Nat) : Nat := idx * 0x10000 + sub * 0x100 + bits

/-- The delivered mappings of RPDO1 to RPDO4 (R523). -/
def rpdoDefaultMap : Nat → List Nat
  | 0 => (List.range 8).map (fun d => mapEntry (bBase d + 0x02) 1 8)
  | 1 => ((List.range 4).map (fun d => mapEntry (bBase (d + 8) + 0x02) 1 8)) ++
      [mapEntry 0x2305 1 1, mapEntry 0x2305 2 1, mapEntry 0x230E 2 8]
  | 2 => (List.range 8).map (fun d => mapEntry (bBase d + 0x0D) 1 1)
  | 3 => (List.range 4).map (fun d => mapEntry (bBase (d + 8) + 0x0D) 1 1)
  | _ => []

/-- The delivered mappings of TPDO1 to TPDO4 (R523). -/
def tpdoDefaultMap : Nat → List Nat
  | 0 => (List.range 8).map (fun d => mapEntry (bBase d + 0x01) 1 8)
  | 1 => ((List.range 4).map (fun d => mapEntry (bBase (d + 8) + 0x01) 1 8)) ++
      [mapEntry 0x2309 1 8, mapEntry 0x230A 1 8, mapEntry 0x2105 1 8, mapEntry 0x2200 1 8]
  | 2 => [mapEntry 0x2311 6 32, mapEntry 0x2311 7 32]
  | 3 => [mapEntry 0x2311 1 32, mapEntry 0x2311 2 32]
  | _ => []

/-- The delivered contents of a PDO object (R523); `n` is the PDO number from 0. PDOs 5 to 32 are invalid, and their
COB-ID bits below bit 31 are 0. -/
def pdoDefault (base n sub : Nat) : Nat :=
  if base = 0x1400 then
    (if sub = 1 then (if n < 4 then nodeDefault else 0x80000000) else if sub = 2 then 255 else 0)
  else if base = 0x1600 then
    (if sub = 0 then (rpdoDefaultMap n).length else (rpdoDefaultMap n).getD (sub - 1) 0)
  else if base = 0x1800 then
    (if sub = 1 then (if n < 4 then nodeDefault else 0x80000000) else if sub = 2 then 255
     else if sub = 3 then (if n < 4 then 100 else 0) else if sub = 5 then (if n < 4 then 100 else 0) else 0)
  else
    (if sub = 0 then (tpdoDefaultMap n).length else (tpdoDefaultMap n).getD (sub - 1) 0)

/-- The value a node-ID-dependent default takes (R467, R518, R523). -/
def nodeDefaultValue (node idx sub : Nat) : Nat :=
  if idx = 0x1014 then 0x80 + node
  else if idx = 0x1200 then (if sub = 1 then 0x600 + node else 0x580 + node)
  else if idx < 0x1500 then 0x200 + 0x100 * (idx - 0x1400) + node
  else 0x180 + 0x100 * (idx - 0x1800) + node

/-- The default of every register of the native dictionary: the table's Default column and, where that names a rule,
the rule's value. A register whose default the table gives as a dash resets to 0, but for 0x2906:03: with no logic supply
the bypass relays are closed (R487). -/
def regDefault (idx sub : Nat) : Nat :=
  match nativePlace idx with
  | .pdo b n => pdoDefault b n sub
  | .door _ off =>
    if off = 0x08 && 1 ≤ sub then defaultChanRole sub
    else if off = 0x09 && 1 ≤ sub && sub ≤ 12 then defaultInputRole sub
    else ((nativeRow idx sub).map (·.dflt)).getD 0
  | .chan c off =>
    if off = 0 && sub = 1 then (if 5 ≤ c % 16 && c % 16 ≤ 9 then 1 else 0)
    else if off = 0 && sub = 3 then (if c % 16 ≤ 2 then 0 else if c % 16 ≤ 9 then 1 else 2)
    else ((nativeRow idx sub).map (·.dflt)).getD 0
  | .axis a off =>
    if off = 6 && sub = 1 && a % 3 = 2 then 250000
    else if off = 6 && sub = 5 && a % 3 = 2 then 253000
    else ((nativeRow idx sub).map (·.dflt)).getD 0
  | .module i =>
    if i = 0x2502 && 1 ≤ sub then (evRow (sub - 1)).byte
    else if i = 0x2505 && 1 ≤ sub then (evRow (sub - 1)).cls.code
    else if i = 0x1014 || (i = 0x1200 && 1 ≤ sub) then nodeDefault
    else if i = 0x2906 && sub = 3 then 1
    else ((nativeRow idx sub).map (·.dflt)).getD 0
  | _ => 0

/-- The default of a register by its key. -/
def keyDefault (k : Nat) : Nat := regDefault (k / 256) (k % 256)

/-- Width in bits of a register, by its row; 0 where it is absent. -/
def regBits (idx sub : Nat) : Nat := ((nativeRow idx sub).map (·.ty.bits)).getD 0

/-- The persistence of a register (R517). -/
def regPersist (idx sub : Nat) : Persist := ((nativeRow idx sub).map (·.per)).getD .no

/-- The doorway (from 0) whose state governs an RWL write: the doorway itself, the owner of an axis, the doorway of a
bank's channel (R8). -/
def ownerDoor (idx : Nat) : Option Nat :=
  match nativePlace idx with
  | .door d _ => some d
  | .chan c _ => some (c / 16)
  | .axis a _ => some (a / 3)
  | _ => none

/-- The scope of a configuration change (R393): the doorway concerned, or 0. -/
def changeScope (idx : Nat) : Nat := match ownerDoor idx with | some d => d + 1 | none => 0

/-- The value a write carries satisfies the Range/Unit column. -/
def inRange (r : ObjRow) (raw : Nat) : Bool :=
  r.rng.isEmpty || r.rng.any (fun p => decide (p.1 ≤ r.ty.value raw) && decide (r.ty.value raw ≤ p.2))

/-- The length of a write matches the type (R510 check 5); the lengths of DOMAINs are ranges (R510 check 6). -/
def lengthOk (r : ObjRow) (n : Nat) : Bool := r.ty = .domain || r.ty = .str || r.ty.bytes = n

/-! ## Overlay mode (R530) -/

/-- The roles of DI1 to DI12 in Overlay mode. -/
def overlayRoles : List Nat := [1, 2, 3, 10, 5, 6, 7, 8, 0, 0, 0, 0]

/-- The native settings that Overlay mode forces, whatever is stored (R530). -/
def overlayForced (idx sub : Nat) : Option Nat :=
  match nativePlace idx with
  | .door d off =>
    if off = 0 && sub = 2 then (if 8 ≤ d then some 0 else none)
    else if off = 0x09 && 1 ≤ sub && sub ≤ 12 then overlayRoles[sub - 1]?
    else if off = 0x0A && (sub = 1 || sub = 2) then some 0
    else if off = 0x0B && sub = 1 then some 0
    else if off = 0x05 && sub = 1 then some 0x11
    else if off = 0x16 && 9 ≤ sub && sub ≤ 0x0C then some 0
    else none
  | .axis _ off => if off = 0 && sub = 6 then some 0 else none
  | .module 0x2900 => if sub = 1 then some 1 else if sub = 2 then some 1 else if sub = 3 then some 2 else none
  | .module 0x2901 => if sub = 1 then some 0 else none
  | _ => none

end Sys2Proof.Machine
end

