-- ==== Sys2Proof/Machine/Types.lean ====
section
/-! DEFINITION. The plain data of the doorways and axes, of events, records, ledger actions and commits: what State
holds beside the register file. -/

namespace Sys2Proof.Machine

/-! ## Doorways -/

/-- The fifteen doorway states (R14). -/
inductive DState
  | isolated | locked | released | stepExtending | opening | opened | warning | closing | reversing
  | closedUnlocked | locking | stepRetracting | emergency | faultHeld | manual
deriving DecidableEq, Repr

/-- The state code reported in B+0x01:01 (R14). -/
def DState.code : DState → Nat
  | .isolated => 0
  | .locked => 1
  | .released => 2
  | .stepExtending => 3
  | .opening => 4
  | .opened => 5
  | .warning => 6
  | .closing => 7
  | .reversing => 8
  | .closedUnlocked => 9
  | .locking => 10
  | .stepRetracting => 11
  | .emergency => 12
  | .faultHeld => 13
  | .manual => 14

/-- The states in which the lock channels are on after an unlock (R14). -/
def DState.lockOn : DState → Bool
  | .opening | .opened | .warning | .closing | .reversing | .closedUnlocked | .manual => true
  | _ => false

/-- The moving states (R17). -/
def DState.moving : DState → Bool
  | .stepExtending | .opening | .closing | .reversing | .closedUnlocked | .locking | .stepRetracting => true
  | _ => false

/-- Open request sources, codes 1 to 4 (R21, R57). -/
inductive OpenSource | inside | outside | network | autoOpen
deriving DecidableEq, Repr

def OpenSource.code : OpenSource → Nat
  | .inside => 1
  | .outside => 2
  | .network => 3
  | .autoOpen => 4

/-- Close request sources, codes 1 to 5 (R57). -/
inductive CloseSource | crew | network | autoClose | tokenWithdrawn | key
deriving DecidableEq, Repr

def CloseSource.code : CloseSource → Nat
  | .crew => 1
  | .network => 2
  | .autoClose => 3
  | .tokenWithdrawn => 4
  | .key => 5

/-- One obstacle entry of the door-cycle record (R57, R171). -/
structure ObstacleEntry where
  phase : Nat
  source : Nat
  axis : Nat
  position : Int
  force : Int
  threshold : Int
  time : Nat
deriving DecidableEq, Repr

/-- The door-cycle record in the making (R57): frames of its phases, `none` where not reached. -/
structure Cycle where
  number : Nat
  accepted : Nat
  openSrc : Nat
  closeSrc : Nat
  stepExtended : Option Nat
  unlockCommitted : Option Nat
  unlockProven : Option Nat
  openEnd : Option Nat
  closeRequest : Option Nat
  closingStart : Option Nat
  closedProven : Option Nat
  lockedProven : Option Nat
  stepRetracted : Option Nat
  switchover : Bool
  homing : Bool
  autoClosed : Bool
  noStep : Bool
  selective : Bool
  peakOpen1 : Int
  peakOpen2 : Int
  peakClose1 : Int
  peakClose2 : Int
  peakCurrent : Int
  energy : Nat
  lowestG : Nat
  highestBelt : Nat
  obstacles : List ObstacleEntry
  /-- something in this cycle bars it from the teach (R153) -/
  spoiled : Bool
  /-- the leaves have been started (R25: with the unlock and the step both proven) -/
  started : Bool
  /-- an assigned edge has been faulty in this cycle (R165) -/
  edgeFault : Bool
deriving DecidableEq, Repr

/-- A cycle that has just been requested. -/
def Cycle.start (frame : Nat) (src : Nat) : Cycle :=
  ⟨0, frame, src, 0, none, none, none, none, none, none, none, none, none, false, false, false, false, false,
   0, 0, 0, 0, 0, 0, 64, 0, [], false, false, false⟩

/-- A staged entry (R46), decoded. -/
structure StagedEntry where
  idx : Nat
  sub : Nat
  value : Nat
deriving DecidableEq, Repr

/-- How an isolation was asked for (B+0x11:03). -/
inductive IsoSource | network | switch
deriving DecidableEq, Repr

def IsoSource.code : IsoSource → Nat
  | .network => 1
  | .switch => 2

/-- A command whose transition waits for the next frame, one having been taken in this (R16, R18). -/
inductive Wish
  | forced (src : IsoSource)
  | emergencyReset
  | faultReset
  | close (src : CloseSource)
  | serve
  | enterManual
  | leaveManual
deriving DecidableEq, Repr

/-- A drain of a doorway (R9 to R12, R617): when its request was committed, and the profile time used since. -/
structure DoorDrain where
  frame : Nat
  ticks : Nat
  /-- the profile part of the bound has been used up at this frame; the lock timeout follows (R10) -/
  profileDone : Option Nat
  source : IsoSource
deriving DecidableEq, Repr

/-- The collapse window of a doorway (R413 to R415). -/
structure Chatter where
  active : Bool
  start : Nat
  cycles : Nat
  otherFull : Nat
  first : Nat
  last : Nat
  reopens : Nat
  obstClose : Nat
  obstOpen : Nat
  openMin : Nat
  openMax : Nat
  closeMin : Nat
  closeMax : Nat
  peaks : List Int
  peakCurrent : Int
  energy : Nat
  lowestG : Nat
  highestBelt : Nat
  outcomes : List Nat
  openSrc : List Nat
  closeSrc : List Nat
  latched : Nat
  lastObst : Option ObstacleEntry
  /-- operating times, 10 ms, of the last cycles that reached outcome 1, newest first (R413) -/
  recent : List Nat
deriving DecidableEq, Repr

/-- A window with nothing folded. -/
def Chatter.empty : Chatter :=
  ⟨false, 0, 0, 0, 0, 0, 0, 0, 0, 0xFFFFFFFF, 0, 0xFFFFFFFF, 0, [0, 0, 0, 0], 0, 0, 64, 0,
   [0, 0, 0, 0, 0, 0], [0, 0, 0, 0], [0, 0, 0, 0, 0], 0, none, []⟩

/-- One sensitive edge (R162). -/
structure EdgeState where
  reading : Nat
  lastBand : Nat
  ohms : Nat
  /-- EV43 is set by this edge -/
  fault : Bool
  /-- frame since which the reading has been normal -/
  normalSince : Nat
  /-- P4's condition has held since this frame (R285) -/
  pressedSince : Option Nat
  /-- forced to fault by P4 until the edge leaves the pressed band -/
  forced : Bool
deriving DecidableEq, Repr

def EdgeState.reset : EdgeState := ⟨0, 0, 8200, false, 0, none, false⟩

/-- A digital input (R276 to R280). -/
structure DIn where
  /-- terminal voltage of the last sample, 0.1 V -/
  volts : Int
  /-- raw state of the last sample -/
  raw : Bool
  /-- consecutive samples whose state differs from the filtered state -/
  run : Nat
  /-- filtered state -/
  filt : Bool
  /-- the state in the input image -/
  img : Bool
  /-- cause of the input fault in force; 0 none -/
  fault : Nat
  /-- frame since which the fault's condition has been absent -/
  absentSince : Option Nat
  /-- consecutive comparisons in which the lanes' filtered states differ (R288) -/
  differ : Nat
  /-- consecutive samples in the indeterminate band (R278) -/
  indet : Nat
  /-- frame since which the expectation of this input has been running (R286) -/
  expect : Option Nat
  /-- what it must read -/
  want : Bool
  /-- consecutive samples in the over-range and in the reverse band (R278) -/
  excess : Nat
  rev : Nat
  /-- the filtered state of the input image, without fault values: what the lanes compare (R288) -/
  latched : Bool
deriving DecidableEq, Repr

def DIn.reset : DIn := ⟨0, false, 0, false, false, 0, none, 0, 0, none, false, 0, 0, false⟩

/-! ## Motion -/

/-- A segment of a planned path: `ticks` of 1/4096 stitch of its clock, with constant jerk. Position in 1/256 µm,
velocity in µm/s, acceleration in µm/s², jerk in µm/s³, all signed toward the open end. -/
structure Seg where
  ticks : Nat
  p0 : Int
  v0 : Int
  a0 : Int
  j : Int
deriving DecidableEq, Repr

/-- Why a generator moves. -/
inductive MoveKind
  | stroke | homing | reversal | relief | resume | jog | retargetStop | holdStop | obstacleStop | approach | drainStop
deriving DecidableEq, Repr

/-- The stops: they belong to the move they interrupt (R20). -/
def MoveKind.isStop : MoveKind → Bool
  | .retargetStop | .holdStop | .obstacleStop | .drainStop => true
  | _ => false

/-- A move in progress. `wall`: its clock is wall time (R118, R169), not the profile clock. -/
structure Move where
  kind : MoveKind
  start : Int
  target : Int
  segs : List Seg
  tick : Nat
  total : Nat
  wall : Bool
  durMs : Nat
  vc : Int
  /-- the duration was not met: time-optimal (status bit 3) -/
  short : Bool
  /-- ticks in a stitch of a move in wall time: a retarget stop that level 3 meets keeps its velocity (R138) -/
  rate : Nat
  /-- duration used before the last replan, ms (R122) -/
  past : Nat
deriving DecidableEq, Repr

/-- The limits a group of movers is planned with (R115, R116). -/
structure Limits where
  vmax : Nat
  acc : Nat
  dec : Nat
  jerk : Nat
  creep : Nat
  zoneClosed : Nat
  zoneOpen : Nat
  openEnd : Nat
deriving DecidableEq, Repr

/-- Where a mover is to go: the kind of its move, the target in µm, the duration in ms of profile time (0: time-optimal) and
the bound of its stroke timeout in ticks (0: none). -/
structure Aim where
  kind : MoveKind
  target : Int
  durMs : Nat
  bound : Nat
deriving DecidableEq, Repr

/-- What the frame work, or the slice itself, orders of a generator (R110, R122, R131, R169): a target; a stop, after which
the interrupted move is to go on where `keep`; a change of the limits from `old`; the obstacle stop against a motion
toward open or toward closed. -/
inductive Order
  | target (t : Aim)
  | stop (kind : MoveKind) (keep : Bool)
  | limits (old : Limits)
  | obstacle (dec : Nat) (toOpen : Bool)
deriving DecidableEq, Repr

/-- Why a move is held: the Belt's level 3 (R118), a stall in the lock zone (R126), an over-current trip (R132). -/
inductive HeldCause | belt | stall | trip
deriving DecidableEq, Repr

/-- A move that was interrupted and is to go on. -/
structure Held where
  aim : Aim
  cause : HeldCause
deriving DecidableEq, Repr

/-- A profile generator (R116): the leaves of a doorway share one, its step has its own. -/
structure Gen where
  /-- set-point, 1/256 µm -/
  pos : Int
  /-- profile velocity and acceleration -/
  vel : Int
  acc : Int
  move : Option Move
  /-- orders not yet obeyed: due at the next stitch, or at stitch 0 after the frame named (R110) -/
  orders : List (Option Nat × Order)
  /-- where to go when a stop completes (R121) -/
  pending : Option Aim
  /-- the interrupted move that is to go on -/
  held : Option Held
  /-- stroke timeout: profile ticks counted and bound; 0 bound: none (R20) -/
  strokeUsed : Nat
  strokeLimit : Nat
  /-- a_dec latched until standstill (R123) -/
  decLatched : Option Int
  /-- the move last planned runs, or ran, toward open (R146) -/
  toward : Bool
  /-- the interrupted move's direction limit is in force (R169): toward open -/
  dirLimit : Option Bool
  /-- an obstacle has been confirmed: source, frame and stitch of the confirmation -/
  obstacle : Option (Nat × Nat × Nat)
  /-- slow stitches counted toward the end of the obstacle stop (R169) -/
  slow : Nat
  /-- the reaction of R170 has not begun -/
  reactionDue : Bool
  /-- the obstacle stop is over; its reaction waits for the doorway's transition -/
  stopEnded : Bool
deriving DecidableEq, Repr

def Gen.reset : Gen := ⟨0, 0, 0, none, [], none, none, 0, 0, none, false, none, none, 0, false, false⟩

/-- An obstacle has been confirmed in a frame since `f`. -/
def Gen.obstacleSince (g : Gen) (f : Nat) : Bool := match g.obstacle with | some (_, k, _) => decide (f ≤ k) | none => false

/-- At rest, with no move ordered. -/
def Gen.atRest (g : Gen) : Bool := g.move.isNone && g.orders.isEmpty

/-- One contributing stitch of a teach cycle (R154). -/
structure TeachSample where
  cycle : Nat
  opening : Bool
  bin : Nat
  force : Int
  vel : Int
  acc : Int
deriving DecidableEq, Repr

/-- A drain outcome in the making for an axis (R135). -/
structure AxisDrain where
  frame : Nat
  ticks : Nat
deriving DecidableEq, Repr

/-- What a slice last measured and estimated for an axis (R108 orders 1, 2). -/
structure AxisPlant where
  current : Int
  torqueCurrent : Int
  pos : Int
  vel : Int
  acc : Int
  angle : Int
  inRange : Bool
  hall : Nat
  /-- the energy forecast published in the last stitch, and the one of this stitch (R225) -/
  demand : Nat
  forecast : Nat
  bridgeTemp : Int
deriving DecidableEq, Repr

def AxisPlant.reset : AxisPlant := ⟨0, 0, 0, 0, 0, 0, true, 1, 0, 0, 250⟩

/-- The protection of an axis (R131 to R134). -/
structure AxisGuard where
  /-- over-current latched, coils off -/
  latched : Bool
  /-- tripped, waiting for its retry: the frame it is due -/
  retryDue : Option Nat
  /-- retry made, waiting for the estimate: the frame it was made -/
  reacquire : Option Nat
  /-- frames of enabled operation since the last trip (R132) -/
  clean : Nat
  thermal : Bool
  /-- frame since which both temperatures have been below their clearing limits -/
  coolSince : Option Nat
  /-- i²t integrator, mA² · stitches -/
  i2t : Nat
  /-- the retry was pushed behind the thermal latch (R134) -/
  retryBehind : Bool
  /-- the retry has succeeded: the group's interrupted move waits to be resumed (R132) -/
  rejoin : Bool
deriving DecidableEq, Repr

def AxisGuard.reset : AxisGuard := ⟨false, none, none, 0, false, none, 0, false, false⟩

/-- The comparison state of an axis (R146 to R160). -/
structure AxisForce where
  mode : Nat
  modeStitches : Nat
  valid : Bool
  invalidRun : Nat
  fc : Int
  shown : Int
  thr : Int
  cmp : Nat
  exceed : Nat
  stall : Nat
  /-- values at the first exceeding stitch: position, force, threshold (R171) -/
  firstPos : Int
  firstForce : Int
  firstThr : Int
  /-- the same at the first stitch whose load angle exceeds the stall limit -/
  stallPos : Int
  stallForce : Int
  stallThr : Int
  /-- position and force in the stitch before -/
  prevPos : Int
  prevForce : Int
  hallRun : Nat
deriving DecidableEq, Repr

def AxisForce.reset : AxisForce := ⟨0, 0, false, 0, 0, 0, 0, 0, 0, 0, 0, 0, 0, 0, 0, 0, 0, 0, 0⟩

/-- A half-bridge: both switches open, the low-side switch on, or driven with a duty cycle in 0.01 % (R101, R103, R130). -/
inductive Half
  | off
  | low
  | driven (duty : Nat)
deriving DecidableEq, Repr

/-- The power stage of an axis and its current loop (R101 to R103, R106, R109, R130). -/
structure PowerStage where
  /-- commanded electrical angle, 1/1024 of an electrical turn: a microstep of a stepper -/
  angle : Int
  /-- phase current reference, mA -/
  reference : Nat
  /-- state of the current loop -/
  loop : Int
  /-- half-bridges HB1 to HB4 as they are driven in this stitch, and as loaded for the next (R103) -/
  applied : Vector Half 4
  loaded : Vector Half 4
  /-- charge credits granted for the stitch (R109) -/
  grant : Nat
  /-- phase current limit in force for a force toward open, toward closed, mA (R102, R160, R165, R169) -/
  limitOpen : Nat
  limitClosed : Nat
  /-- rotor sector taken from the Hall lines at enable: their code (R104) -/
  sector : Option Nat
deriving DecidableEq, Repr

/-- Every half-bridge off. -/
def bridgesOpen : Vector Half 4 := Vector.replicate 4 .off

def PowerStage.reset : PowerStage := ⟨0, 0, 0, bridgesOpen, bridgesOpen, 0, 0, 0, none⟩

/-- A taught or untaught Contour sheet (R150, R156): 256 bins in N and their 1/64 N fractions. -/
structure Sheet where
  taught : Bool
  bins : List Int
  fracs : List Nat
deriving DecidableEq, Repr

def Sheet.untaught : Sheet := ⟨false, [], []⟩

/-- An axis (R101 to R145). -/
structure AxisState where
  referenced : Bool
  slip : Bool
  hallFallback : Bool
  disabled : Bool
  drain : Option AxisDrain
  /-- set-point of this mover, 1/256 µm; follows its generator unless it has left it -/
  sp : Int
  /-- the generator of a jog, and of the way back to the shared set-point (R41, R132) -/
  solo : Gen
  /-- the estimator's reading at position 0; none until the first sample after a start (R114, R128) -/
  origin : Option Int
  /-- left the shared generator: held at its end value (R128) -/
  detached : Bool
  /-- the move has ended at an end stop: closed end or open end (R128) -/
  atEnd : Option Bool
  /-- held in the lock zone after a stall (R126) -/
  zoneHold : Bool
  creditCapped : Bool
  travelUm : Nat
  plant : AxisPlant
  guard : AxisGuard
  force : AxisForce
  opening : Sheet
  closing : Sheet
  /-- largest F_c per bin visited in the cycle, opening then closing (R156) -/
  seenOpen : List (Nat × Int)
  seenClose : List (Nat × Int)
  teach : List TeachSample
  /-- thermistor, 0.1 °C, the state of its low-pass in 0.1 °C / 1000, and its input fault -/
  therm : Int
  thermFine : Int
  thermFault : Nat
  thermAbsent : Option Nat
  /-- frames the thermistor has read outside its range -/
  thermOut : Nat
  hallFault : Bool
  hallAbsent : Option Nat
  drive : PowerStage
  /-- a pole slip waits for standstill to resynchronise the set-point (R127) -/
  resync : Bool
  /-- put into coils shorted at the end of an obstacle stop, until the next move (R169) -/
  shorted : Bool
  /-- an open phase found while isolated, still to be reported (R44) -/
  openPhase : Bool
  /-- a homing stall waits for the closed-end input: the frame it was confirmed (R114) -/
  homeStall : Option Nat
deriving DecidableEq, Repr

def AxisState.reset : AxisState :=
  ⟨false, false, false, false, none, 0, Gen.reset, none, false, none, false, false, 0, AxisPlant.reset, AxisGuard.reset,
   AxisForce.reset, Sheet.untaught, Sheet.untaught, [], [], [], 250, 250000, 0, none, 0, false, none,
   PowerStage.reset, false, false, false, none⟩

/-- Timers of a doorway: the frame each was started, `none` while it is stopped (R17, R19, R20). -/
structure DoorTimers where
  lockProving : Option Nat
  lock : Option Nat
  settle : Option Nat
  warning : Option Nat
  dwell : Option Nat
  pause : Option Nat
  retry : Option Nat
  homing : Option Nat
  p1 : Option Nat
  p2 : Option Nat
  p3 : Option Nat
deriving DecidableEq, Repr

def DoorTimers.reset : DoorTimers := ⟨none, none, none, none, none, none, none, none, none, none, none⟩

/-- A teach in progress (R152 to R154). -/
structure Teach where
  running : Bool
  /-- frame of its start: the cycles of open requests accepted since then are its next complete cycles (R152) -/
  since : Nat
  done : Nat
  rejected : Nat
deriving DecidableEq, Repr

/-- A doorway. -/
structure Doorway where
  st : DState
  /-- the state and the one before it as they are published in B+0x01:01, :02 and on the Mirror (R56) -/
  shown : DState
  shownPrev : DState
  prev : DState
  /-- frame of entry into the state -/
  since : Nat
  /-- a transition has been taken in this frame (R16) -/
  moved : Bool
  homing : Bool
  partialOpen : Bool
  noStep : Bool
  /-- the close under way was started only by auto-close (T13) -/
  autoOnly : Bool
  dwellSuspended : Bool
  /-- reversal under way goes to full open -/
  reverseFull : Bool
  /-- Open at the reopen limit after its token was withdrawn: only a close request closes it (R31) -/
  keptOpen : Bool
  retries : Nat
  stepRetries : Nat
  reverseRetries : Nat
  /-- the group whose motion goes on after the opening retry delay (R170), or gives up after its relief move -/
  again : Option Group
  giveUp : Bool
  /-- a close request that the light curtain holds back (T11) -/
  closeHeld : Option CloseSource
  /-- commands whose transition waits for the next frame (R16) -/
  wishes : List Wish
  /-- open buttons that have become active in the image, to be judged in this frame (R21) -/
  pressed : List OpenSource
  /-- the open requests of inputs and of auto-open, newest first, with the frames that evaluated them: a new active
  evaluates anew what its committed image has not seen (R50) -/
  asked : List (Nat × OpenSource)
  /-- the first frame after a switchover: a cycle that it opens carries the switchover flag (R50) -/
  takenOver : Bool
  timers : DoorTimers
  drain : Option DoorDrain
  /-- an abandonment that waits for the doorway's pending action (R316): its outcome -/
  abandonDue : Option Nat
  cycle : Option Cycle
  teach : Teach
  manualFromIsolated : Bool
  jogFrame : Nat
  /-- an obstacle stopped the jog; a zero is needed first (R170) -/
  jogBlocked : Bool
  staged : List StagedEntry
  /-- the apply command of R48 is due -/
  applyDue : Bool
  chatter : Chatter
  ea : EdgeState
  eb : EdgeState
  dis : Vector DIn 12
  leaves : Gen
  step : Gen
  /-- the lock channels are commanded on, that is unlocked (R14) -/
  lockOn : Bool
  bankPresent : Bool
  bankVolts : Nat
  bankFault : Nat
  bankAbsent : Option Nat
  /-- the lanes' readings of the bank supply differ (R290) -/
  bankDiffers : Bool
  /-- frames in a row with the bank supply low, high, overloaded (R244) -/
  bankLow : Nat
  bankHigh : Nat
  bankOver : Nat
  /-- last unlock and lock channel switch, frames -/
  lockChange : Nat
  /-- the handle has been seen operated on an Isolated or Manual doorway (R36) -/
  handleSeen : Bool
deriving DecidableEq, Repr

def Doorway.reset : Doorway :=
  ⟨.faultHeld, .faultHeld, .faultHeld, .faultHeld, 0, false, false, false, false, false, false, false, false, 0, 0, 0, none, false, none, [], [], [], false, DoorTimers.reset,
   none, none, none, ⟨false, 0, 0, 0⟩, false, 0, false, [], false, Chatter.empty, EdgeState.reset, EdgeState.reset,
   Vector.replicate 12 DIn.reset, Gen.reset, Gen.reset, false, false, 0, 0, none, false, 0, 0, 0, 0,
   false⟩

/-- The doorway's state is published (R56). -/
def Doorway.publish (w : Doorway) : Doorway :=
  { w with shown := w.st, shownPrev := if w.shown = w.st then w.shownPrev else w.prev }

/-! ## Permits and loops -/

/-- A two-channel pair (R62 to R65). -/
structure PairState where
  reading : Bool
  differ : Nat
  latched : Bool
deriving DecidableEq, Repr

/-- A side: its token, its loop (R66 to R79). -/
structure SideState where
  /-- the token is held in the committed state -/
  held : Bool
  /-- a withdrawal took effect at this stitch, 16 × frame + stitch -/
  lastWithdrawal : Option Nat
  gate : Bool
  command : Bool
  laneClosed : Bool
  /-- loop fault cause in force; 0 none -/
  fault : Nat
  causeAbsent : Nat
  /-- frames in a row with the gate readback closed against an open AND of DI1, and open against a closed one -/
  gateClosedRun : Nat
  gateOpenRun : Nat
  laneDiffer : Nat
  overCurrent : Nat
  current : Nat
  voltage : Nat
  provenOpen : Bool
deriving DecidableEq, Repr

def PairState.reset : PairState := ⟨false, 0, false⟩
def SideState.reset : SideState := ⟨false, none, false, false, false, 0, 0, 0, 0, 0, 0, 0, 0, false⟩

/-- Permits, loops and the gate mask. -/
structure Permits where
  relA : PairState
  relB : PairState
  zero : PairState
  traction : Bool
  tractionSince : Option Nat
  ev37 : Bool
  sideA : SideState
  sideB : SideState
  mask : Nat
  maskRead : Nat
  maskDiffer : Nat
  /-- gate comparators of DI1, doorway 1 first -/
  comparators : Vector Bool 12
deriving DecidableEq, Repr

def Permits.reset : Permits :=
  ⟨PairState.reset, PairState.reset, PairState.reset, true, none, false, SideState.reset, SideState.reset, 0, 0, 0,
   Vector.replicate 12 false⟩

/-! ## Events and records -/

/-- Source data of an occurrence (R584). -/
structure Source where
  item : Nat
  cause : Nat
  value : Int
deriving DecidableEq, Repr

def Source.zero : Source := ⟨0, 0, 0⟩

/-- Transitions of an event (R394). -/
inductive Transition | raised | cleared | occurrence
deriving DecidableEq, Repr

def Transition.code : Transition → Nat
  | .raised => 1
  | .cleared => 2
  | .occurrence => 3

/-- A FIFO entry (R410), with what its record states of the moment of the occurrence (R394). -/
structure FifoEntry where
  ev : Nat
  tr : Transition
  scope : Nat
  frame : Nat
  stitch : Nat
  src : Source
  byte : Nat
  /-- class the record shows (R394; R42 for an isolated doorway's inputs) -/
  cls : Nat
  word : Nat
  latched : Nat
  /-- a test occurrence, outside LG4 (R589) -/
  test : Bool
deriving DecidableEq, Repr

/-- What a scope shows outside (R582, R583): its events active, latched or held; those active; those latched. -/
structure EvWord where
  word : Nat
  active : Nat
  latched : Nat
deriving DecidableEq, Repr

/-- The events of one scope (R578, R582). -/
structure EvState where
  active : Nat
  latched : Nat
  /-- occurrences shown until a frame -/
  holds : List (Nat × Nat)
  /-- condition events raised in this frame (R586) -/
  fresh : Nat
  /-- occurrences since the last section D: the present one decides them (R583) -/
  news : List Nat
  /-- what the last section D leaves to be shown from the next boundary on, and what is shown (R583) -/
  next : EvWord
  shown : EvWord
deriving DecidableEq, Repr

/-- A scope at a start, with the latches it keeps. -/
def EvState.start (latched : Nat) : EvState := ⟨0, latched, [], 0, [], ⟨latched, 0, latched⟩, ⟨latched, 0, latched⟩⟩

def EvState.reset : EvState := EvState.start 0

/-- An EMCY waiting to be submitted (R472, R583). -/
structure Emcy where
  code : Nat
  /-- event number, 0xFF for the codes of CiA 301 -/
  ev : Nat
  tr : Nat
  scope : Nat
  src : Source
deriving DecidableEq, Repr

/-- A record before its sequence is assigned (R402): `prio` 1 to 3 is its place in the order. -/
structure Draft where
  prio : Nat
  type : Nat
  scope : Nat
  trigger : Nat
  list : Nat
  payload : Bytes
deriving DecidableEq, Repr

/-- A record (R389, R390). -/
structure Record where
  type : Nat
  flags : Nat
  seq : Nat
  op : Nat
  cycles : Nat
  tai : Nat
  ms : Nat
  scope : Nat
  trigger : Nat
  list : Nat
  lane : Nat
  epoch : Nat
  quality : Nat
  payload : Bytes
  /-- the legacy event word at the record (R549); it stands in no byte of the native record -/
  legacy : Nat
deriving DecidableEq, Repr

/-- The recorder's part of the state image (R410 to R421). -/
structure Recorder where
  fifo : List FifoEntry
  drafts : List Draft
  /-- every record assigned, newest first -/
  log : List Record
  /-- the oldest-held floor of the last clear -/
  floor : Nat
  ovFirst : Nat
  ovLast : Nat
  ovPeak : Nat
  /-- a clear's value whose record is still a draft -/
  clearing : Nat
  /-- configuration changes of this frame not yet in a draft: source, authorised, index, sub, old, new -/
  changes : List (Nat × Bool × Nat × Nat × Nat × Nat)
  /-- G-record position, records per read, and floor (R538, R550, R551) -/
  gPos : Nat
  gRead : Nat
  gFloor : Nat
deriving DecidableEq, Repr

def Recorder.reset : Recorder := ⟨[], [], [], 1, 0, 0, 0, 0, [], 0, 1, 0⟩

/-! ## Ledger actions and commits -/

/-- Ledger actions, kinds 1 to 5 of the commit block (R315). -/
inductive LedgerAction
  | unlock (d : Door)
  | relock (d : Door)
  | abandon (d : Door) (outcome : Nat)
  | grant (s : Side)
  | withdraw (s : Side) (cause : Nat)
deriving DecidableEq, Repr

/-- Place in the order of R316. -/
def LedgerAction.rank : LedgerAction → Nat
  | .withdraw .a _ => 0
  | .withdraw .b _ => 1
  | .abandon d _ => 2 + d.val
  | .relock d => 14 + d.val
  | .grant .a => 26
  | .grant .b => 27
  | .unlock d => 28 + d.val

/-- The answer to a write, sent when its commit has taken effect (R512). -/
structure Answer where
  path : Path
  idx : Nat
  sub : Nat
  /-- it goes over a TCP connection (R505) -/
  tcp : Bool := false
deriving DecidableEq, Repr

/-- A commit released and not yet acknowledged (R315, R319). -/
structure CommitRec where
  frame : Nat
  actions : List LedgerAction
  answers : List Answer
  records : List Nat
  handover : Bool
deriving DecidableEq, Repr

/-- The commit state of the active lane. -/
structure Commit where
  /-- actions decided and not yet in a commit -/
  decided : List LedgerAction
  /-- how many of them, at the head, an earlier commit left (R316) -/
  left : Nat
  answers : List Answer
  out : List CommitRec
  singleLane : Bool
  survey : Bool
  handover : Bool
  /-- blocks of type 0x01 to 0x05 in flight when the image was sealed (LG7) -/
  flying : Nat
  /-- delta blocks of entries carried to the next frame (R314) -/
  carried : Nat
deriving DecidableEq, Repr

def Commit.reset : Commit := ⟨[], 0, [], [], true, false, false, 0, 0⟩

end Sys2Proof.Machine
end

