-- ==== Sys2Proof/Machine/TypesPower.lean ====
section
/-! DEFINITION. The plain data of the clocks, the supply and the Belt, the channels and the train inputs. -/

namespace Sys2Proof.Machine

/-- The four times and the profile clock (R184 to R211). -/
structure Clock where
  /-- frame counter, 64 bits (R6) -/
  frame : Nat
  stitch : Nat
  /-- FRAME_WORK has begun a frame whose stitch 0 has not run yet -/
  boundary : Bool
  /-- core clock in force, MHz (R188, R220) -/
  core : Nat
  /-- commanded g, 1/64 -/
  gc : Nat
  /-- applied g and its rate, in units of 1/(4096 · 16000²) and 1/(4096 · 16000) per second (R192) -/
  gFine : Nat
  gRate : Int
  stopped : Bool
  /-- operating time, ms since the first power-up (R198) -/
  opMs : Nat
  /-- operating time of the last save -/
  opSaved : Nat
  /-- wall time of the last power-loss commit, µs (R201) -/
  wallSaved : Nat
  /-- wall time, TAI, µs -/
  wallUs : Nat
  /-- slew still to be applied, µs (R203) -/
  slewUs : Int
  /-- part of a µs of slew already earned, in ppm · ms -/
  slewFrac : Nat
  invalid : Bool
  slewing : Bool
  /-- source in use: 0 none, 1 PTP, 2 SNTP, 3 set by write -/
  source : Nat
  lastPtp : Option Nat
  lastSntp : Option Nat
  /-- first valid PTP Sync of the present run, frame (R202) -/
  ptpRunSince : Option Nat
  /-- the master's announced sync interval, ms (R501) -/
  ptpInterval : Nat
  /-- the frame the drift bound runs from (R205) -/
  boundFrom : Nat
  lastCycles : Nat
  effectStitch : Nat
  backup : Bool
  /-- a source has delivered a UTC offset (R201) -/
  utcSynced : Bool
deriving DecidableEq, Repr

/-- Full g, 1.0. -/
def gUnit : Nat := 16000 * 16000

/-- Applied g in 1/4096 (0x2101:02). -/
def Clock.g (c : Clock) : Nat := c.gFine / gUnit

def Clock.reset : Clock :=
  ⟨0, 0, false, 600, 64, 4096 * gUnit, 0, false, 0, 0, 0, 0, 0, 0, true, false, 0, none, none, none, 0, 0, 0, 0, false, false⟩

/-- One Belt entry condition (R219): consecutive stitches it has held, and whether it is confirmed. -/
structure BeltCondState where
  run : Nat
  confirmed : Bool
deriving DecidableEq, Repr

/-- The supply and the Belt (R212 to R242). -/
structure Belt where
  level : Nat
  next : Nat
  conds : Vector BeltCondState 6
  /-- level since, frames (exit hysteresis, R223): frame since which no condition of the level has held -/
  clearSince : Option Nat
  /-- 0 none, 1 AC, 2 DC -/
  input : Nat
  vin : Nat
  link : Nat
  bus : Nat
  ambient : Int
  absentSince : Option Nat
  /-- input loss declared at this frame -/
  lostAt : Option Nat
  commitDone : Bool
  converter : Bool
  busFault : Nat
  holdup : Nat
  pool : Nat
  /-- fraction of a credit carried, 1/256 -/
  fraction : Nat
  ring : Nat
  deficits : Vector Int 36
  /-- stitches of credit pressure in a row; a lowering rule of R224 has held in this frame -/
  pressure : Nat
  lowerDue : Bool
  calm : Nat
  unmet : Nat
  eligible : Nat
  rate : Nat
  issued : Nat
  granted : Nat
  unclaimed : Nat
  /-- the totals that the last frames have added to 0x2108:02 to :04, newest first, by their frames (R227) -/
  totals : List (Nat × Nat × Nat × Nat)
  rest : Bool
  restWaking : Option Nat
  restSince : Option Nat
  thermalHold : Bool
  cellMv : Nat
  sealLatch : Bool
  lossVin : Nat
  lossLevel : Nat
  lossMoving : Nat
  pIn : Nat
  /-- derating factor of the frame, percent · 1000 (R229); motion budget and peak rate, mW, held below 40 V (R213) -/
  kT : Nat
  pm : Nat
  pk : Nat
  pMotor : Int
  /-- mean input voltage over the last 10 s (R221), the values of its frames, newest first, and their sum -/
  vinMean : Nat
  vinLog : List Nat
  vinSum : Nat
  /-- stitches in a row with the bus above 120 % of its set voltage (R217) -/
  busHigh : Nat
  /-- frame since which the bus has been below 80 % with the input present (R217) -/
  busLowSince : Option Nat
  /-- the link is being recharged after a ride-through (R216) -/
  recharge : Bool
  /-- some demand was left unmet in a stitch of this frame -/
  unmetSeen : Bool
deriving DecidableEq, Repr

def Belt.reset : Belt :=
  ⟨0, 0, Vector.replicate 6 ⟨0, false⟩, none, 0, 0, 0, 0, 250, none, none, false, false, 0, 0, 3200000, 0, 0,
   Vector.replicate 36 0, 0, false, 0, 0, 0, 0, 0, 0, 0, [], false, none, none, false, 3000, false,
   0, 0, 0, 0, 100000, 0, 0, 0, 0, [], 0, 0, none, false, false⟩

/-- A load channel (R243 to R275). -/
structure Channel where
  /-- the switch is driven on -/
  out : Bool
  /-- commanded state, before shedding and protection (C+1:06) -/
  cmd : Bool
  /-- flash phase: on, and the frame it began (R261) -/
  phaseOn : Bool
  phaseSince : Nat
  inrushEnd : Nat
  limiting : Bool
  /-- over-current latch of the hardware -/
  oc : Bool
  ocLatched : Bool
  retryDue : Option Nat
  retryBehind : Bool
  lastTrip : Nat
  thDT : Bool
  thTJ : Bool
  coolSince : Option Nat
  latchTimes : List Nat
  /-- frames in a row above, and below, the stuck-on limit (R254) -/
  stuckRun : Nat
  stuckClear : Nat
  stuck : Bool
  forbRun : Nat
  senseFault : Bool
  openLoad : Bool
  /-- on-frames in a row below the open-load threshold, and above it (R258) -/
  openRun : Nat
  openClear : Nat
  code : Nat
  /-- sum and number of the current samples of this frame, mA -/
  sum : Int
  samples : Nat
  mean : Int
  fine : Nat
  deltaT : Int
  junction : Int
  peak : Int
  disabled : Bool
  drain : Option Nat
  shed : Bool
  onMs : Nat
  held : Bool
  /-- a flash pattern drives it (R261) -/
  flashing : Bool
  /-- frame since which the commanded state has been off -/
  cmdOffSince : Nat
  /-- frame of the last switch-on -/
  onSince : Nat
  /-- the last trip was a short circuit -/
  short : Bool
  /-- frames in a row without a forbidden code -/
  cleanCodes : Nat
  /-- tripped or latched while no lane was running: not yet counted (R249, R268) -/
  unseen : Bool
deriving DecidableEq, Repr

def Channel.reset : Channel :=
  ⟨false, false, false, 0, 0, false, false, false, none, false, 0, false, false, none, [], 0, 0, false, 0, false,
   false, 0, 0, 0, 0, 0, 0, 0, 0, 250, 0, false, none, false, 0, false, false, 0, 0, false, 0, false⟩

/-- A train output (R100, R606). -/
structure TrainOut where
  on : Bool
  hot : Bool
deriving DecidableEq, Repr

/-- Command sources and their supervision (R294 to R296). -/
structure Supervision where
  /-- frame of the last valid reception of each RPDO; `none`: not supervised -/
  rpdo : Vector (Option Nat) 32
  rpdoOut : Nat
  trdp : Option Nat
  trdpOut : Bool
  permit : Option Nat
  permitOut : Bool
  /-- frame in which a side first required the network permit (R294) -/
  permitReq : Option Nat
  /-- start of operation -/
  since : Nat
  /-- command bytes last received: RPDO (doorways 1 to 12), telegram -/
  rpdoCmd : Vector Nat 12
  trdpCmd : Vector Nat 12
deriving DecidableEq, Repr

def Supervision.reset : Supervision :=
  ⟨Vector.replicate 32 none, 0, none, false, none, false, none, 0, Vector.replicate 12 0,
   Vector.replicate 12 0⟩

/-- The train inputs and receiver groups (R276 to R293). -/
structure Inputs where
  tis : Vector DIn 16
  /-- consecutive stitches without a fresh sample, groups of doorways 1 to 12 then the train group (R277) -/
  stale : Vector Nat 13
  /-- faults of the measured module quantities: input, link, bus voltage, ambient -/
  meas : Vector Nat 4
  sup : Supervision
  /-- the auto-close suspension input functions that are on (R293) -/
  suspend : Bool
  /-- the standby's filtered image of the last acknowledged frame: doorways 1 to 12, then TI (R288) -/
  other : Option (List Nat × Nat)
  /-- the functions of TI12 to TI16 in force since the last frame boundary (R293) -/
  functions : Vector Nat 5
deriving DecidableEq, Repr

def Inputs.reset : Inputs :=
  ⟨Vector.replicate 16 DIn.reset, Vector.replicate 13 0, Vector.replicate 4 0, Supervision.reset, false, none, Vector.replicate 5 0⟩

end Sys2Proof.Machine
end

