-- ==== Sys2Proof/Machine/TypesNet.lean ====
section
/-! DEFINITION. The plain data of the CAN ports and CANopen services, of the backbone, and of update, service and
authorisation. -/

namespace Sys2Proof.Machine

/-! ## CAN ports -/

/-- What places a request in a mailbox (R458). -/
inductive Producer
  | bootup | heartbeat | beacon | emcy | sdo1 | sdo2 | lss | sync
  | tpdo (n : Fin 32)
  | other
deriving DecidableEq, Repr

/-- A transmit request in a mailbox (R458 to R461). -/
structure Request where
  id : Nat
  data : Bytes
  /-- time tag on the frame clock, µs; `none`: untagged -/
  tag : Option Nat
  by_ : Producer
deriving DecidableEq, Repr

/-- States of a port (P:07, R485). -/
inductive PortState
  | detecting | active | passive | busOff | quarantine | solitary | draining | off | disabled
deriving DecidableEq, Repr

def PortState.code : PortState → Nat
  | .detecting => 0
  | .active => 1
  | .passive => 2
  | .busOff => 3
  | .quarantine => 4
  | .solitary => 5
  | .draining => 6
  | .off => 7
  | .disabled => 8

/-- A CAN port (R446 to R464). -/
structure CanPort where
  /-- the port's condition apart from solitude and draining, which lie over it -/
  st : PortState
  boxes : Vector (Option Request) 32
  /-- received frames and their receive times, oldest first (R463) -/
  rx : List (CanFrame × Nat)
  overflowing : Bool
  /-- place in the order of candidates, and consecutive good frames, for the two rates (R452, R453) -/
  nomTry : Nat
  nomRun : Nat
  dataTry : Nat
  dataRun : Nat
  solitary : Bool
  lastBeacon : Nat
  busOffs : List Nat
  quarantined : Nat
  /-- frame since which the port has been error-active -/
  activeSince : Option Nat
  /-- drain in progress: its frame (R10, R477) -/
  drain : Option Nat
  /-- the boot-up has not been submitted yet on this port -/
  bootDue : Bool
  /-- frame of the last EMCY submission (R472) -/
  lastEmcy : Option Nat
  /-- messages that wait for mailbox 1 (R458) -/
  emcyQueue : List Bytes
  /-- time tag of the last heartbeat submitted (R474) -/
  hbTag : Option Nat
  /-- requests that a quarantine has aborted, with their mailboxes: their producers submit them again after it (R457) -/
  owed : List (Fin 32 × Request)
deriving DecidableEq, Repr

def CanPort.reset : CanPort :=
  ⟨.off, Vector.replicate 32 none, [], false, 0, 0, 0, 0, false, 0, [], 0, none, none, false, none, [], none, []⟩

/-- What an SDO server is doing (R467): a download in parts with the size announced and the data so far; an upload with
the data left; a block upload with all its data, the bytes sent, the size of a sub-block and the segments sent of the
present one; a response owed when its commit has taken effect. -/
inductive SdoTransfer
  | idle
  | download (idx sub size : Nat) (data : Bytes) (toggle : Bool) (block : Bool)
  | upload (idx sub : Nat) (data : Bytes) (toggle : Bool)
  | blockUpload (idx sub : Nat) (data : Bytes) (sent size seq : Nat) (ended : Bool)
  | owed (idx sub : Nat)
deriving DecidableEq, Repr

/-- An SDO server: the transfer, the port its client is on while a response is owed, the frame of the transfer's last
frame, and the command specifier of the response that ends it. -/
structure SdoServer where
  job : SdoTransfer
  port : Option Port
  last : Nat
  spec : Nat
deriving DecidableEq, Repr

/-- A TPDO's run-time state (R468, R469). -/
structure TpdoState where
  /-- frame of the last submission, and what it carried -/
  lastSent : Option Nat
  data : Bytes
  /-- a transmission waits in its producer for a free mailbox -/
  waiting : Bool
  /-- SYNCs counted, and whether the count has begun (start value of sub 06) -/
  syncs : Nat
  started : Bool
deriving DecidableEq, Repr

def TpdoState.reset : TpdoState := ⟨none, [], false, 0, false⟩

/-- The LSS slave (R475). -/
structure Lss where
  configuring : Bool
  /-- identity words matched so far by fastscan -/
  scan : Nat
  nodeId : Option Nat
  timing : Option (Port × Nat)
deriving DecidableEq, Repr

/-- The CANopen node (R465 to R476). -/
structure Canopen where
  servers : Vector SdoServer 2
  /-- RPDO frame of the last reception, for deadline monitoring (R468), and what was received this frame -/
  rpdoSeen : Vector (Option Nat) 32
  /-- synchronous RPDOs waiting for the next SYNC (R469) -/
  rpdoSync : List (Nat × Bytes)
  tpdos : Vector TpdoState 32
  syncTag : Option Nat
  syncCount : Nat
  /-- frame of the last SYNC, while its window is open (R469) -/
  syncAt : Option Nat
  /-- monitored nodes: last heartbeat; `none` until the first -/
  hbSeen : Vector (Option Nat) 16
  hbLost : Nat
  /-- SDO responses and TPDOs a new active has seen on the bus, not to be sent twice, each with the last frame that heeds
  it (R545) -/
  echo : List (Nat × Port × Nat × Bytes)
  lss : Lss
deriving DecidableEq, Repr

def Canopen.reset : Canopen :=
  ⟨Vector.replicate 2 ⟨.idle, none, 0, 0⟩, Vector.replicate 32 none, [],
   Vector.replicate 32 TpdoState.reset, none, 0, none, Vector.replicate 16 none, 0, [],
   ⟨false, 0, none, none⟩⟩

/-! ## Backbone -/

/-- A gateway request waiting for section N (R499). -/
structure GwRequest where
  path : Path
  tcp : Bool
  write : Bool
  idx : Nat
  sub : Nat
  data : Bytes
  arrived : Nat
deriving DecidableEq, Repr

/-- The backbone (R486 to R503). -/
structure Backbone where
  /-- ports in use without link: EV32 is held by them -/
  lost : Vector Bool 2
  /-- a DHCP lease is in force -/
  lease : Bool
  mask : Nat
  gateway : Nat
  /-- TRDP sequence counters: status telegrams, pulled replies, last accepted command -/
  statusSeq : Nat
  pullSeq : Nat
  statusDue : Nat
  commandSeq : Option Nat
  tcp : List Path
  /-- requests that wait for a later section N, and those served in this frame (R499) -/
  gw : List GwRequest
  gwServed : Nat
  /-- SNTP query outstanding: server 1 or 2 and frame -/
  sntp : Option (Nat × Nat)
  sntpDue : Nat
deriving DecidableEq, Repr

def Backbone.reset : Backbone :=
  ⟨Vector.replicate 2 false, false, 0, 0, 0, 0, 0, none, [], [], 0, none, 0⟩

/-! ## Update and authorisation -/

/-- What a firmware slot holds (R372, R561): a header written to it, or none, and its body. -/
structure Slot where
  header : Option Bytes
  body : Bytes
deriving DecidableEq, Repr

/-- A leapfrog or rollback in progress (R563, R565). -/
inductive Leap
  | none
  /-- the step of R399 under way, the lane that restarts first, and whether command 5 stops it at the next boundary -/
  | running (rollback : Bool) (step : Nat) (first : Lane) (stop : Bool)
deriving DecidableEq, Repr

/-- An authorisation path's state (R567). -/
structure AuthPath where
  path : Path
  /-- challenge issued: bytes and frame -/
  challenge : Option (Bytes × Nat)
  openedAt : Option Nat
  lastRwa : Nat
  misses : List Nat
  lockedAt : Option Nat
  /-- its response came over a TCP connection (R498) -/
  tcp : Bool
deriving DecidableEq, Repr

def AuthPath.closed (p : Path) : AuthPath := ⟨p, .none, .none, 0, [], .none, false⟩

/-- Update, service window, authorisation, import (R559 to R571). -/
structure Update where
  /-- image bytes received so far, header first; both lanes write them from their own reception -/
  load : Bytes
  /-- the load has gone on in the granted lane alone: the other lane does not hold the image (R561) -/
  lone : Bool
  /-- bytes the standby has reported, and the frame since which a chunk waits for its report -/
  chunkSince : Option Nat
  chunkPath : Option Path
  leap : Leap
  windowAt : Option Nat
  windowUpdate : Bool
  auth : List AuthPath
  /-- challenges issued; the number picks the random challenge -/
  issued : Nat
  key : Option Bytes
  imports : Option (Nat × List StagedEntry)
  /-- a store in progress: its set, its path, and, from section D of the next frame, the stored set it will leave (R520) -/
  store : Option (Nat × Path × Option RegFile)
deriving DecidableEq, Repr

def Update.reset : Update := ⟨[], false, none, none, .none, none, false, [], 0, none, none, none⟩

/-- The network part of the image. -/
structure Net where
  /-- the values of 0x2900:01, 0x2901:01, 0x2906 and 0x2907 that the last restart has put in force (R485, R508) -/
  boot : RegFile
  x7 : CanPort
  x8 : CanPort
  co : Canopen
  bb : Backbone
  upd : Update
deriving DecidableEq, Repr

def Net.reset : Net := ⟨[], CanPort.reset, CanPort.reset, Canopen.reset, Backbone.reset, Update.reset⟩

/-- What the block has sent in the last command: the model's own record of its answers. -/
inductive Out
  /-- the answer to a dictionary access: 0, or the abort code, and the data read -/
  | answer (p : Path) (idx sub code : Nat) (data : Bytes)
  /-- a request placed in a mailbox -/
  | request (q : Port) (box : Nat) (r : Request)
  | mirror (word : Nat) (data crc : Nat)
  /-- the leading bits of a word and its code, `n` of them, where the clock stops within it -/
  | mirrorPart (word n bits : Nat)
  /-- a process-data telegram: its destination, `none` for a reply of type Pp to the address that asked (R493), ComId, sequence
  counter, VLAN ID and priority of its tag (R489), dataset -/
  | telegram (dest : Option Nat) (comId seq : Nat) (tag : Option (Nat × Nat)) (data : Bytes)
  /-- a message-data reply of the gateway (R497): ComId, tag, its bytes -/
  | message (p : Path) (comId : Nat) (tag : Option (Nat × Nat)) (data : Bytes)
  /-- answers and queries beside TRDP, with the VLAN ID of their tag; no rule gives their priority -/
  | arp (ip mac : Nat) (vlan : Option Nat)
  | echo (ip : Nat) (vlan : Option Nat)
  | tcpReset (p : Path)
  | tcpRefused
  | sntpQuery (server : Nat) (vlan : Option Nat)
  /-- a Seam block: all its 512 bytes where the spec lays out its payload, else its header -/
  | seam (from_ : Lane) (link : Link) (kind seq : Nat) (resend : Bool) (block : Bytes)
deriving DecidableEq, Repr

end Sys2Proof.Machine
end

