-- ==== Sys2Proof/Machine/Image.lean ====
section
/-! DEFINITION. The state image (R321): everything the active lane holds and the standby copies, and its plain reads
and updates. -/

namespace Sys2Proof.Machine

/-- The event part of the image (R578 to R589): scope 0 is the module, scope d doorway d. -/
structure Events where
  scopes : Vector EvState 13
  emcy : List Emcy
deriving DecidableEq, Repr

def Events.reset : Events := ⟨Vector.replicate 13 EvState.reset, []⟩

/-- A write accepted at reception and due in the next section D (R511). -/
structure DueWrite where
  path : Path
  idx : Nat
  sub : Nat
  data : Bytes
  /-- received over a TCP connection (R505) -/
  tcp : Bool := false
deriving DecidableEq, Repr

/-- The state image. -/
structure Image where
  /-- the registers of the object dictionary; a register not listed holds its default -/
  od : RegFile
  /-- the stored set of the parameter area, as the image copies it (R522) -/
  stored : RegFile
  /-- sets marked for default by 0x1011: communication, application (R521) -/
  restoreComm : Bool
  restoreApp : Bool
  /-- the communication set is marked by sub 01 alone: a Reset Communication leaves the mark (R521) -/
  commWaits : Bool
  due : List DueWrite
  clk : Clock
  belt : Belt
  doors : Vector Doorway 12
  axes : Vector AxisState 36
  chans : Vector Channel 192
  tos : Vector TrainOut 4
  inp : Inputs
  permits : Permits
  ev : Events
  rcd : Recorder
  commit : Commit
  net : Net
  /-- the frozen breach snapshot of 0x260F; empty: none (R435, R445) -/
  breach : Bytes
  /-- what the module has sent in the last command: the model's own record, cleared by the next command -/
  outs : List Out
deriving DecidableEq, Repr

/-! ## Registers -/

/-- Overlay mode is in force (0x2FF0:01, R525). -/
def Image.overlay (im : Image) : Bool := RegFile.get im.od 0 (key 0x2FF0 1) == 1

/-- The register of a sub-entry as it is held; a default that depends on the node-ID is computed from the one in
force. -/
def Image.held (im : Image) (idx sub : Nat) : Nat :=
  let v := RegFile.get im.od (regDefault idx sub) (key idx sub)
  if v = nodeDefault then
    nodeDefaultValue (RegFile.get im.od (regDefault 0x2903 2) (key 0x2903 2)) idx sub
  else v

/-- The value of a register in force: what Overlay mode forces, else what is held (R530). -/
def Image.reg (im : Image) (idx sub : Nat) : Nat :=
  if im.overlay then (overlayForced idx sub).getD (im.held idx sub) else im.held idx sub

/-- Registers whose change takes effect at a restart (R485, R508). -/
def bootKey (k : Nat) : Bool := k == key 0x2900 1 || k == key 0x2901 1 || k / 256 == 0x2906 || k / 256 == 0x2907

/-- The value of such a register that the last restart has put in force, or that Overlay mode forces (R530). -/
def Image.bootReg (im : Image) (idx sub : Nat) : Nat :=
  let v := RegFile.get im.net.boot (regDefault idx sub) (key idx sub)
  if im.overlay then (overlayForced idx sub).getD v else v

/-- Write a register, at the width of its type. -/
def Image.setReg (im : Image) (idx sub v : Nat) : Image :=
  { im with od := RegFile.put im.od (regDefault idx sub) (key idx sub) (wrap (regBits idx sub) v) }

/-- Count one, modulo the counter's width. -/
def Image.bump (im : Image) (idx sub : Nat) : Image := im.setReg idx sub (im.reg idx sub + 1)

/-- Count `n`. -/
def Image.bumpBy (im : Image) (idx sub n : Nat) : Image := im.setReg idx sub (im.reg idx sub + n)

/-- A signed register. -/
def Image.sreg (im : Image) (idx sub : Nat) : Int := decInt (regBits idx sub) (im.reg idx sub)

def Image.setSreg (im : Image) (idx sub : Nat) (v : Int) : Image :=
  im.setReg idx sub (encInt (regBits idx sub) v)

/-- A BOOLEAN register. -/
def Image.flag (im : Image) (idx sub : Nat) : Bool := im.reg idx sub == 1

/-! Registers of a doorway, an axis, a channel. -/

def Image.dreg (im : Image) (d : Door) (off sub : Nat) : Nat := im.reg (bBase d.val + off) sub
def Image.setDreg (im : Image) (d : Door) (off sub v : Nat) : Image := im.setReg (bBase d.val + off) sub v
def Image.bumpD (im : Image) (d : Door) (off sub : Nat) : Image := im.bump (bBase d.val + off) sub
def Image.dsreg (im : Image) (d : Door) (off sub : Nat) : Int := im.sreg (bBase d.val + off) sub
def Image.areg (im : Image) (a : Axis) (off sub : Nat) : Nat := im.reg (aBase a.val + off) sub
def Image.setAreg (im : Image) (a : Axis) (off sub v : Nat) : Image := im.setReg (aBase a.val + off) sub v
def Image.bumpA (im : Image) (a : Axis) (off sub : Nat) : Image := im.bump (aBase a.val + off) sub
def Image.asreg (im : Image) (a : Axis) (off sub : Nat) : Int := im.sreg (aBase a.val + off) sub
def Image.setAsreg (im : Image) (a : Axis) (off sub : Nat) (v : Int) : Image := im.setSreg (aBase a.val + off) sub v
def Image.creg (im : Image) (c : Chan) (off sub : Nat) : Nat := im.reg (cBase c.val + off) sub
def Image.setCreg (im : Image) (c : Chan) (off sub v : Nat) : Image := im.setReg (cBase c.val + off) sub v
def Image.bumpC (im : Image) (c : Chan) (off sub : Nat) : Image := im.bump (cBase c.val + off) sub

/-- Send. -/
def Image.send (im : Image) (o : Out) : Image := { im with outs := im.outs ++ [o] }

/-! ## Items -/

/-- Update one element of a bank of items. -/
def upd {α : Type} {n : Nat} (v : Vector α n) (i : Fin n) (f : α → α) : Vector α n := v.set i (f (v.get i))

def Image.door (im : Image) (d : Door) : Doorway := im.doors.get d
def Image.onDoor (im : Image) (d : Door) (f : Doorway → Doorway) : Image := { im with doors := upd im.doors d f }
def Image.axis (im : Image) (a : Axis) : AxisState := im.axes.get a
def Image.onAxis (im : Image) (a : Axis) (f : AxisState → AxisState) : Image := { im with axes := upd im.axes a f }
def Image.chan (im : Image) (c : Chan) : Channel := im.chans.get c
def Image.onChan (im : Image) (c : Chan) (f : Channel → Channel) : Image := { im with chans := upd im.chans c f }

/-- Every index of a bank, in ascending order. -/
def allFin (n : Nat) : List (Fin n) := List.finRange n

/-- Fold an update over every doorway, axis, channel, in ascending order. -/
def Image.eachDoor (im : Image) (f : Image → Door → Image) : Image := (allFin 12).foldl f im
def Image.eachAxis (im : Image) (f : Image → Axis → Image) : Image := (allFin 36).foldl f im
def Image.eachChan (im : Image) (f : Image → Chan → Image) : Image := (allFin 192).foldl f im

/-- Axis a = 3(d-1)+k of doorway d (R4); `k` from 0: leaf 1, leaf 2, step. -/
def axisOf (d : Door) (k : Fin 3) : Axis := ⟨3 * d.val + k.val, by omega⟩
/-- The doorway of an axis, and which mover it is. -/
def axisDoor (a : Axis) : Door := ⟨a.val / 3, by omega⟩
def axisK (a : Axis) : Fin 3 := ⟨a.val % 3, Nat.mod_lt _ (by decide)⟩
/-- Channel c = 16(d-1)+n (R4); `n` from 0. -/
def chanOf (d : Door) (n : Fin 16) : Chan := ⟨16 * d.val + n.val, by omega⟩
def chanDoor (c : Chan) : Door := ⟨c.val / 16, by omega⟩
def chanN (c : Chan) : Nat := c.val % 16

/-- Scope d of doorway d in events and records. -/
def doorScope (d : Door) : Fin 13 := ⟨d.val + 1, by omega⟩

/-- The frame counter. -/
def Image.now (im : Image) : Nat := im.clk.frame

/-- Milliseconds since a timer was started: a frame is 1 ms (R6). -/
def Image.since (im : Image) (t : Option Nat) : Nat := match t with | some f => im.clk.frame - f | none => 0

/-- A timer is running and has run `ms`. -/
def Image.elapsed (im : Image) (t : Option Nat) (ms : Nat) : Bool :=
  match t with | some f => decide (f + ms ≤ im.clk.frame) | none => false

/-- Operating time in units of 10 ms, 40 bits (R198). -/
def Image.op (im : Image) : Nat := wrap 40 (im.clk.opMs / 10)

end Sys2Proof.Machine
end

