-- ==== Sys2Proof/Machine/Ops.lean ====
section
/-! DEFINITION. The named operations every command is written over: events and their outputs (R580 to R589), the
recorder's FIFO and drafts (R402, R410), configuration changes (R393), ledger actions (R316, R432). -/

namespace Sys2Proof.Machine

/-! ## What is fitted -/

def Image.leafCount (im : Image) (d : Door) : Nat := im.dreg d 0 2
/-- A doorway is fitted unless its leaf count is 0 (R15). -/
def Image.fitted (im : Image) (d : Door) : Bool := im.leafCount d != 0
def Image.stepFitted (im : Image) (d : Door) : Bool := im.dreg d 0 3 == 1

/-- A mover of a doorway is fitted; an unfitted one is unused (R5). -/
def Image.moverFitted (im : Image) (d : Door) (k : Fin 3) : Bool :=
  match k with
  | 0 => decide (1 ≤ im.leafCount d)
  | 1 => decide (im.leafCount d = 2)
  | 2 => im.fitted d && im.stepFitted d

/-- The fitted movers of a group. -/
def Image.groupMovers (im : Image) (d : Door) (g : Group) : List (Fin 3) := g.movers.filter (im.moverFitted d)

/-! ## Events -/

/-- The events of a scope shown by the event word in a frame: active, latched, or held after an occurrence (R582). -/
def EvState.word (e : EvState) (frame : Nat) : Nat :=
  (e.active ||| e.latched) ||| (e.holds.foldl (fun (w : Nat) (h : Nat × Nat) => if frame < h.2 then w ||| 2 ^ h.1 else w) 0 : Nat) |||
    e.news.foldl (fun w n => w ||| 2 ^ n) 0

/-- An occurrence is found; section D decides it. -/
def EvState.found (e : EvState) (n : Nat) : EvState := { e with news := e.news.filter (fun k => k != n) ++ [n] }

/-- Section D has decided what the scope found: its hold time runs from the next boundary, and what is shown from there on is
settled (R582, R583). `frame`: the present one. -/
def EvState.settle (e : EvState) (frame hold : Nat) : EvState :=
  let e := { e with
    holds := e.holds.filter (fun (h : Nat × Nat) => !e.news.contains h.1) ++ e.news.map (fun n => (n, frame + 1 + hold)), news := [] }
  { e with next := ⟨e.word (frame + 1), e.active, e.latched⟩ }

/-- A boundary shows what the section D before it has left. -/
def EvState.publish (e : EvState) : EvState := { e with shown := e.next }

/-- The raw event word as it stands: the OR over the scopes. -/
def Image.rawWord (im : Image) : Nat :=
  im.ev.scopes.toList.foldl (fun w e => w ||| e.word im.clk.frame) 0

/-- The event word as it stands: the raw word without the masked bits. -/
def Image.eventWord (im : Image) : Nat :=
  im.rawWord - (im.rawWord &&& im.reg 0x2501 1)

/-- The raw event word and the active events as they are shown since the last boundary (0x2500:02, 0x2500:03). -/
def Image.shownRaw (im : Image) : Nat := im.ev.scopes.toList.foldl (fun w e => w ||| e.shown.word) 0
def Image.activeWord (im : Image) : Nat := im.ev.scopes.toList.foldl (fun w e => w ||| e.shown.active) 0

/-- The event word as it is shown, without the masked bits (0x2500:01). -/
def Image.shownWord (im : Image) : Nat := im.shownRaw - (im.shownRaw &&& im.reg 0x2501 1)

/-- Module healthy as far as events go: no safety-class event is active or latched (R578). -/
def Image.noSafetyEvent (im : Image) : Bool :=
  (im.ev.scopes.toList.foldl (fun w e => w ||| e.active ||| e.latched) 0) &&& safetyWord == 0

/-- An event is active or latched in a scope. -/
def Image.evSet (im : Image) (n : Nat) (scope : Fin 13) : Bool :=
  let e := im.ev.scopes.get scope; bitOf e.active n || bitOf e.latched n

def Image.evActive (im : Image) (n : Nat) (scope : Fin 13) : Bool := bitOf (im.ev.scopes.get scope).active n

def Image.onScope (im : Image) (scope : Fin 13) (f : EvState → EvState) : Image :=
  { im with ev := { im.ev with scopes := upd im.ev.scopes scope f } }

/-- Source data as 8 bytes (R584). -/
def Source.bytes (s : Source) : Bytes := [s.item % 256, s.cause % 256] ++ le 4 (encInt 32 s.value) ++ [0, 0]

/-- The reaction byte in force (R580). -/
def Image.reaction (im : Image) (n : Nat) : Nat := im.reg 0x2502 (n + 1)

/-- The class an occurrence is recorded with: range faults and timeouts of an isolated doorway are info (R42). -/
def Image.recordClass (im : Image) (n : Nat) (scope : Fin 13) : Nat :=
  if (n == 59 || n == 60) then
    match scope.val with
    | 0 => (evRow n).cls.code
    | d + 1 => if h : d < 12 then (if (im.door ⟨d, h⟩).st = .isolated then 0 else (evRow n).cls.code)
               else (evRow n).cls.code
  else (evRow n).cls.code

/-- A recordable occurrence enters the FIFO, or counts as overflowed (R410). -/
def Image.pushFifo (im : Image) (e : FifoEntry) : Image :=
  let used := im.rcd.fifo.length
  if used < 960 || (2 ≤ e.cls && used < 1024) then
    let im := { im with rcd := { im.rcd with fifo := im.rcd.fifo ++ [e], ovPeak := max im.rcd.ovPeak (used + 1) } }
    if im.reg 0x2702 2 < used + 1 then im.setReg 0x2702 2 (used + 1) else im
  else
    let first := if im.rcd.ovLast = 0 then e.frame else im.rcd.ovFirst
    let im := { im with rcd := { im.rcd with ovFirst := first, ovLast := e.frame } }
    (im.bump 0x2703 (e.ev + 1)).bump 0x2702 3

/-- What keeps the error reset of R621 back: an event that sends EMCY is active, latched or within its hold time, or a
port is error-passive or bus-off. In Overlay mode only the events of R543 count. -/
def Image.emcyHeld (im : Image) : Bool :=
  let w := if im.overlay then legacyOnly im.rawWord else im.rawWord
  let bad := fun (x : CanPort) => x.st = .passive || x.st = .busOff
  (List.range 64).any (fun n => bitOf w n && bitOf (im.reaction n) 1) || bad im.net.x7 || bad im.net.x8

/-- What every transition of an event does (R580, R583): FIFO entry (never of EV24, R411) and EMCY by the reaction byte, the counts of
0x2506 to 0x2508; the last clear of an event that sends EMCY leads to the error reset (R621). -/
def Image.note (im : Image) (n : Nat) (scope : Fin 13) (tr : Transition) (src : Source) : Image :=
  let byte := im.reaction n
  let e : FifoEntry := ⟨n, tr, scope.val, im.clk.frame, im.clk.stitch, src, byte, im.recordClass n scope, im.eventWord,
    (im.ev.scopes.get scope).latched, false⟩
  let im := if bitOf byte 0 && n != 24 then im.pushFifo e else im.bump 0x250C 2
  let im := if bitOf byte 1 && (tr != .cleared || isLatchedIn n scope.val) then
      { im with ev := { im.ev with emcy := im.ev.emcy ++ [⟨0xFF00 + n, n, tr.code, scope.val, src⟩] } }
    else im
  let im := if tr = .cleared && bitOf byte 1 && !im.emcyHeld then
      { im with ev := { im.ev with emcy := im.ev.emcy ++ [⟨0, n, 2, scope.val, Source.zero⟩] } }
    else im
  let im := if tr = .cleared then im else im.bump 0x2506 (n + 1)
  (im.setReg 0x2507 (n + 1) im.op).setReg 0x2508 (n + 1) (ofLe src.bytes)

/-- A scope has events: a doorway that is not fitted raises none (R15), but for EV49, which every forced disable raises
whatever the item (R11). -/
def Image.speaks (im : Image) (n : Nat) (scope : Fin 13) : Bool :=
  match scope.val with
  | 0 => true
  | d + 1 => if h : d < 12 then n == 49 || im.fitted ⟨d, h⟩ else true

/-- A condition event becomes active. One already active in its scope is not raised again (R578: one event for all its
items, as R616 names the item that raised it). -/
def Image.raise (im : Image) (n : Nat) (scope : Fin 13) (src : Source) : Image :=
  if im.evActive n scope || !im.speaks n scope then im
  else (im.onScope scope (fun e => { e with active := setBit e.active n true, fresh := setBit e.fresh n true })).note n scope .raised src

/-- A raise that is noted though the event may already be active: the quarantine of a port whose bus-off event still
stands (R457). -/
def Image.raiseAgain (im : Image) (n : Nat) (scope : Fin 13) (src : Source) : Image :=
  (im.onScope scope (fun e => { e with active := setBit e.active n true, fresh := setBit e.fresh n true })).note n scope .raised src

/-- An event that clears in the frame that raised it is shown for the hold time (R586). -/
def EvState.drop (e : EvState) (n : Nat) : EvState :=
  let e := { e with active := setBit e.active n false }
  if bitOf e.fresh n then e.found n else e

/-- A condition event clears. -/
def Image.clearEv (im : Image) (n : Nat) (scope : Fin 13) (src : Source) : Image :=
  if im.evActive n scope then
    (im.onScope scope (fun e => e.drop n)).note n scope .cleared src
  else im

/-- One item's condition ends (a channel, an axis, a port): the event clears with the last item that holds it. -/
def Image.clearItem (im : Image) (n : Nat) (scope : Fin 13) (src : Source) (still : Bool) : Image :=
  if still then im else im.clearEv n scope src

/-- The latch of an event is set; `holding`: its condition goes on after this frame (R581). -/
def Image.setLatch (im : Image) (n : Nat) (scope : Fin 13) (holding : Bool) : Image :=
  im.onScope scope (fun e =>
    { e with latched := setBit e.latched n true, active := if holding then setBit e.active n true else e.active })

/-- A latched event is raised; while its condition holds it is not raised again. -/
def Image.latch (im : Image) (n : Nat) (scope : Fin 13) (src : Source) (holding : Bool) : Image :=
  if !im.speaks n scope then im
  else if im.evActive n scope then im.setLatch n scope holding
  else (im.setLatch n scope holding).note n scope .raised src

/-- The condition of a latched event ends; the latch stays. -/
def Image.endCondition (im : Image) (n : Nat) (scope : Fin 13) : Image :=
  im.onScope scope (fun e => { e with active := setBit e.active n false })

/-- A latch is released where its condition is absent (R581). -/
def Image.release (im : Image) (n : Nat) (scope : Fin 13) : Image :=
  let e := im.ev.scopes.get scope
  if bitOf e.latched n && !bitOf e.active n then
    (im.onScope scope (fun e => { e with latched := setBit e.latched n false })).note n scope .cleared Source.zero
  else im

/-- An occurrence without duration, shown for the hold time (R582). -/
def Image.occur (im : Image) (n : Nat) (scope : Fin 13) (src : Source) : Image :=
  if !im.speaks n scope then im else (im.onScope scope (fun e => e.found n)).note n scope .occurrence src

/-- Section D settles what the scopes show from the next boundary on (R583). -/
def Image.settleEvents (im : Image) : Image :=
  { im with ev := { im.ev with scopes := im.ev.scopes.map (fun e => e.settle im.clk.frame (im.reg 0x250A 1)) } }

/-- A boundary shows it. -/
def Image.publishEvents (im : Image) : Image := { im with ev := { im.ev with scopes := im.ev.scopes.map EvState.publish } }

/-- The module's scope. -/
def modScope : Fin 13 := 0

/-! ## Drafts and configuration changes -/

/-- A record waits for section R (R402). -/
def Image.draft (im : Image) (d : Draft) : Image := { im with rcd := { im.rcd with drafts := im.rcd.drafts ++ [d] } }

/-- A change of a persisted or RWA value that is to be recorded (R393). -/
def Image.change (im : Image) (source : Nat) (auth : Bool) (idx sub old new : Nat) : Image :=
  { im with rcd := { im.rcd with changes := im.rcd.changes ++ [(source, auth, idx, sub, old, new)] } }

/-! ## Ledger actions -/

/-- The doorway an action concerns. -/
def LedgerAction.door? : LedgerAction → Option Door
  | .unlock d | .relock d | .abandon d _ => some d
  | _ => none

/-- The side an action concerns. -/
def LedgerAction.side? : LedgerAction → Option Side
  | .grant s | .withdraw s _ => some s
  | _ => none

/-- Every action decided or in an outstanding commit. -/
def Commit.pending (c : Commit) : List LedgerAction := c.decided ++ (c.out.map (·.actions)).flatten

/-- An action of the doorway is pending: no further one is decided (R316). -/
def Image.doorPending (im : Image) (d : Door) : Bool := im.commit.pending.any (fun a => a.door? == some d)
def Image.sidePending (im : Image) (s : Side) : Bool := im.commit.pending.any (fun a => a.side? == some s)

/-- Decide a ledger action: it waits for its commit. -/
def Image.decideAction (im : Image) (a : LedgerAction) : Image :=
  { im with commit := { im.commit with decided := im.commit.decided ++ [a] } }

/-- The side a doorway belongs to (R3). -/
def Image.sideOf (im : Image) (d : Door) : Side := if im.dreg d 0 1 = 1 then .b else .a

def Permits.side (p : Permits) : Side → SideState
  | .a => p.sideA
  | .b => p.sideB

def Permits.onSide (p : Permits) (s : Side) (f : SideState → SideState) : Permits :=
  match s with
  | .a => { p with sideA := f p.sideA }
  | .b => { p with sideB := f p.sideB }

def Image.onSide (im : Image) (s : Side) (f : SideState → SideState) : Image :=
  { im with permits := im.permits.onSide s f }

/-- The token object of a side (R100). -/
def tokenObj : Side → Nat
  | .a => 0x2306
  | .b => 0x2307

/-- A cycle is in progress (B+0x0E:04). -/
def Image.inProgress (im : Image) (d : Door) : Bool := im.dreg d 0x0E 4 == 1

/-- A doorway counts as unlocked in the ledger (0x2609:01). -/
def Image.unlocked (im : Image) (d : Door) : Bool := bitOf (im.reg 0x2609 1) d.val

/-- A ledger action takes effect: its counters move together (R22, R33, R68, R432), its output switches, its state is
published. -/
def Image.applyAction (im : Image) : LedgerAction → Image
  | .unlock d =>
    let im := if im.unlocked d then im
      else
        let im := (im.bumpD d 0x0E 1).bumpD d 0x0E 5
        (im.setDreg d 0x0E 4 1).setReg 0x2609 1 (setBit (im.reg 0x2609 1) d.val true)
    let n := im.dreg d 0x0E 1
    im.onDoor d (fun w => { w with
      lockOn := w.st.lockOn, lockChange := if w.st.lockOn then im.now else w.lockChange,
      timers := { w.timers with lockProving := if w.st = .opening then some im.now else w.timers.lockProving },
      cycle := w.cycle.map (fun c => { c with number := n, unlockCommitted := some im.now }) })
  | .relock d =>
    let im := (im.bumpD d 0x0E 6).setReg 0x2609 1 (setBit (im.reg 0x2609 1) d.val false)
    if im.inProgress d then (im.bumpD d 0x0E 2).setDreg d 0x0E 4 0 else im
  | .abandon d _ =>
    if im.inProgress d then (im.bumpD d 0x0E 3).setDreg d 0x0E 4 0 else im
  | .grant s => (im.bump (tokenObj s) 4).onSide s (fun x => { x with held := true })
  | .withdraw s cause =>
    ((im.bump (tokenObj s) 5).setReg (tokenObj s) 6 cause).onSide s
      (fun x => { x with held := false, lastWithdrawal := some (16 * im.now + im.clk.stitch) })

/-- A list of actions, in order. -/
def Image.applyActions (im : Image) (as : List LedgerAction) : Image := as.foldl Image.applyAction im

/-- Records that concern a scope have not been committed: an occurrence waits for its record, or a record for the commit
that carries it (R9). -/
def Image.recordsPending (im : Image) (scope : Fin 13) : Bool :=
  im.rcd.fifo.any (fun e => e.scope == scope.val) || im.rcd.drafts.any (fun r => r.scope == scope.val) ||
    im.commit.out.any (fun c => c.records.any (fun q => im.rcd.log.any (fun r => r.seq == q && r.scope == scope.val)))

/-- Put an action into the order of R316. -/
def insertAction (a : LedgerAction) : List LedgerAction → List LedgerAction
  | [] => [a]
  | b :: bs => if a.rank ≤ b.rank then a :: b :: bs else b :: insertAction a bs

/-- Actions in the order of R316. -/
def sortActions : List LedgerAction → List LedgerAction
  | [] => []
  | a :: as => insertAction a (sortActions as)

end Sys2Proof.Machine
end

