-- ==== Sys2Proof/Machine/Motion.lean ====
section
/-! DEFINITION. Profiles (R111 to R124): planning a move as segments of constant jerk, evaluating and stopping it. Speeds
are planned along the direction of motion and signed at the end. Profile time is counted in ticks of 1/4096 stitch. -/

namespace Sys2Proof.Machine

/-- Ticks in a second: 16,000 stitches of 4,096. -/
def ticksPerS : Nat := 65536000

/-- Ticks in a millisecond. -/
def ticksPerMs : Nat := 65536

/-! ## Segments -/

/-- Position, velocity and acceleration of a segment after `t` ticks. -/
def Seg.at (s : Seg) (t : Nat) : Int × Int × Int :=
  let T : Int := ticksPerS
  let x : Int := t
  (s.p0 + (256 * (6 * s.v0 * x * T * T + 3 * s.a0 * x * x * T + s.j * x * x * x)) / (6 * T * T * T),
   s.v0 + (2 * s.a0 * x * T + s.j * x * x) / (2 * T * T),
   s.a0 + s.j * x / T)

/-- The state after `t` ticks of a list of segments; past the end, the end of the last. -/
def segsAt : List Seg → Nat → Int × Int × Int → Int × Int × Int
  | [], _, last => last
  | s :: ss, t, _ => if t < s.ticks then s.at t else segsAt ss (t - s.ticks) (s.at s.ticks)

/-- Total ticks of a list of segments. -/
def segsTicks (ss : List Seg) : Nat := ss.foldl (fun n s => n + s.ticks) 0

/-- A piece of speed profile before it is placed: ticks, speed and acceleration at its start, jerk. -/
structure Piece where
  ticks : Nat
  v0 : Int
  a0 : Int
  j : Int
deriving DecidableEq, Repr

/-- Place pieces from a start position, in a direction. -/
def place (dir : Int) : List Piece → Int → List Seg
  | [], _ => []
  | q :: qs, p =>
    let s : Seg := ⟨q.ticks, p, dir * q.v0, dir * q.a0, dir * q.j⟩
    s :: place dir qs (s.at q.ticks).1

/-- A jerk-limited change of speed from `v` at acceleration `a` to the speed `w` at rest in acceleration, the shortest in
time within the acceleration limit `lim` (R111, R118, R120): the acceleration goes through the jerk to its peak on the side
the change needs, holds it, and returns to 0. An acceleration beyond the limit is brought down to it through the jerk
(R122). Where the speed would pass 0, the last phase takes the jerk that ends at 0. -/
def rampFrom (v a w : Int) (lim jerk : Nat) : List Piece :=
  let j : Int := max 1 jerk
  let natural := v + a * a.natAbs / (2 * j)
  let s : Int := if natural ≤ w then 1 else -1
  let b := s * a
  let dv := s * (w - v)
  -- peak of the change without a limit: p² = j·dv + b²/2
  let p : Int := isqrt (j * dv + b * b / 2).toNat
  let ticks := fun (x : Int) => x.natAbs * ticksPerS / j.toNat
  let pieces : List Piece :=
    if p ≤ lim then
      let v1 := v + s * ((p * p - b * b) / (2 * j))
      [⟨ticks (p - b), v, a, s * j⟩, ⟨ticks p, v1, s * p, -s * j⟩]
    else
      let top : Int := lim
      let first : Int := if b ≤ top then (top * top - b * b) / (2 * j) else (b * b - top * top) / (2 * j)
      let last : Int := top * top / (2 * j)
      let v1 := v + s * first
      [⟨ticks (top - b), v, a, if b ≤ top then s * j else -s * j⟩,
        ⟨(dv - first - last).toNat * ticksPerS / max 1 lim, v1, s * top, 0⟩,
        ⟨ticks top, w - s * last, s * top, -s * j⟩]
  pieces.filter (fun q => q.ticks != 0)

/-- Distance of pieces from rest of their own, 1/256 µm, and their ticks. -/
def piecesDist (qs : List Piece) : Int :=
  match (place 1 qs 0).getLast? with
  | some s => (s.at s.ticks).1
  | none => 0

def piecesTicks (qs : List Piece) : Nat := qs.foldl (fun n q => n + q.ticks) 0

/-! ## Planning -/

/-- Least value in `[lo, hi]` satisfying a predicate that stays true once it is; `hi` if none does. -/
def leastNat (p : Nat → Bool) : Nat → Nat → Nat → Nat
  | 0, _, hi => hi
  | k + 1, lo, hi => if hi ≤ lo then hi else
    let m := (lo + hi) / 2
    if p m then leastNat p k lo m else leastNat p k (m + 1) hi

/-- Greatest value in `[lo, hi]` satisfying a predicate that stays false once it is; `lo` if none does. -/
def greatestNat (p : Nat → Bool) : Nat → Nat → Nat → Nat
  | 0, lo, _ => lo
  | k + 1, lo, hi => if hi ≤ lo then lo else
    let m := (lo + hi + 1) / 2
    if p m then greatestNat p k m hi else greatestNat p k lo (m - 1)

/-- The limit a change of speed from `v` to `w` is made with (R111, R122). -/
def Limits.toward (l : Limits) (v w : Int) : Nat := if v ≤ w then l.acc else l.dec

/-- The ramp within the limits from speed `v` at acceleration `a` to speed `w`; the speed it would end at by itself decides
which limit it takes. -/
def Limits.ramp (l : Limits) (v a w : Int) : List Piece :=
  rampFrom v a w (l.toward (v + a * a.natAbs / (2 * max 1 l.jerk : Nat)) w) l.jerk

def Limits.dist (l : Limits) (v a w : Int) : Nat := (piecesDist (l.ramp v a w)).toNat
def Limits.ticks (l : Limits) (v a w : Int) : Nat := piecesTicks (l.ramp v a w)

/-- Ticks to cover `dist` (1/256 µm) at speed `v`. -/
def cruiseTicks (dist v : Nat) : Nat := if v = 0 then 0 else dist * ticksPerS / (256 * v)

/-- The speed left once an acceleration has been taken to 0 through the jerk. -/
def levelSpeed (v a : Int) (jerk : Nat) : Int := max 0 (v + a * a.natAbs / (2 * max 1 jerk : Nat))

/-- A plan along the direction of motion: cruise velocity, pieces, and whether the duration was not met (bit 3). -/
structure Route where
  vc : Nat
  pieces : List Piece
  short : Bool
deriving DecidableEq, Repr

/-- Plan along the direction of motion, from speed `v0` at acceleration `a0` (R111 to R113, R120, R122). `dist` in 1/256 µm;
`zone`: the creep zone, 0 where the target has none; `dur` in ticks, 0: time-optimal; `cap`: a cruise velocity that is kept.
v_c lies between the creep speed and v_max; a move too short for its phases is reduced in the order of R113. Where a
deceleration under way cannot be ended before the ramp to the end, it is eased as long as the distance allows. -/
def planPath (l : Limits) (v0 a0 : Int) (dist zone dur : Nat) (cap : Option Nat) : Route :=
  let creepStop := l.dist l.creep 0 0
  let z := if zone = 0 then 0 else max (256 * zone) creepStop
  let e : Int := if zone = 0 then 0 else l.creep
  let creepT := cruiseTicks (z - (if zone = 0 then 0 else creepStop)) l.creep
  let tail : List Piece := if zone = 0 then [] else ⟨creepT, l.creep, 0, 0⟩ :: l.ramp l.creep 0 0
  let body := dist - z
  let used := fun (v : Nat) => l.dist v0 a0 v + l.dist v 0 e
  let whole := fun (v : Nat) =>
    l.ramp v0 a0 v ++ [⟨cruiseTicks (body - used v) v, v, 0, 0⟩] ++ l.ramp v 0 e ++ tail
  let time := fun (v : Nat) => piecesTicks (whole v)
  let level := (levelSpeed v0 a0 l.jerk).toNat
  let done := fun (v : Nat) (qs : List Piece) => (⟨v, qs, decide (dur ≠ 0) && decide (dur < piecesTicks qs)⟩ : Route)
  let top := max l.vmax (max l.creep 1)
  let least := max 1 (if a0 < 0 then min l.creep level else l.creep)
  let fits := fun (v : Nat) => decide (used v ≤ body)
  if z ≤ dist && fits (max least (min level top)) && decide ((e.toNat : Nat) ≤ max least (min level top)) then
    let lo := max least (min level top)
    let vOpt := match cap with | some v => max 1 v | none => greatestNat fits 24 lo (max top lo)
    let v := if dur = 0 then vOpt
      else if time vOpt ≤ dur then leastNat (fun v => decide (time v ≤ dur)) 24 (max 1 (min l.creep vOpt)) vOpt else vOpt
    ⟨v, whole v, decide (dur ≠ 0) && decide (dur < time vOpt)⟩
  else if z ≤ dist && decide (l.dist v0 a0 e ≤ body) && decide (e.toNat < level) then
    -- an acceleration under way, or one eased: as fast as the distance to the end of the ramp allows
    if a0 < 0 then
      let lead := fun (t : Nat) => (⟨t, v0, a0, l.jerk⟩ : Piece)
      let rest := fun (t : Nat) =>
        let s := (place 1 [lead t] 0).getLast?.map (fun s => s.at t)
        match s with
        | some x => lead t :: l.ramp x.2.1 x.2.2 e
        | none => []
      let t := greatestNat (fun t => decide (piecesDist (rest t) ≤ body)) 40 0 (a0.natAbs * ticksPerS / max 1 l.jerk)
      done level (rest t ++ tail)
    else
      let v := greatestNat fits 24 0 top
      if fits v then done v (whole v) else done level (l.ramp v0 a0 e ++ tail)
  else if l.dist v0 a0 l.creep + creepStop ≤ dist then
    let rest := dist - (l.dist v0 a0 l.creep + creepStop)
    done l.creep (l.ramp v0 a0 l.creep ++ [⟨cruiseTicks rest l.creep, l.creep, 0, 0⟩] ++ l.ramp l.creep 0 0)
  else
    let v := greatestNat (fun v => decide (l.dist v0 a0 v + l.dist v 0 0 ≤ dist)) 24 0 l.creep
    done v (l.ramp v0 a0 v ++ l.ramp v 0 0)

/-- The creep zone of a move to `target` µm: that of the end approached, where the target lies inside it (R111). -/
def zoneFor (l : Limits) (dirOpen : Bool) (target : Int) : Nat :=
  if dirOpen then (if (l.openEnd : Int) - l.zoneOpen ≤ target then (l.zoneOpen - (l.openEnd - target.toNat)) else 0)
  else (if target ≤ l.zoneClosed then (l.zoneClosed - target.toNat) else 0)

/-- The limits with v_max capped at the homing speed (R38, R114), for a homing move and while unreferenced. -/
def Limits.capped (l : Limits) (cap : Bool) : Limits :=
  if cap then { l with vmax := min l.vmax 50000, creep := min l.creep 50000 } else l

/-- Plan a move to `target` µm from a set-point, velocity and acceleration (R111 to R114, R120). `referenced = false`:
time-optimal, no creep phases. A homing move has none either. -/
def planFrom (l : Limits) (referenced : Bool) (kind : MoveKind) (pos vel acc target : Int) (durMs : Nat) (cap : Option Nat) : Move :=
  let dirOpen := if vel = 0 then decide (pos ≤ 256 * target) else decide (0 < vel)
  let dir : Int := if dirOpen then 1 else -1
  let homing := !referenced || kind = .homing
  let zone := if homing then 0 else zoneFor l dirOpen target
  let dur := if homing then 0 else durMs
  let r := planPath (l.capped homing) (dir * vel) (dir * acc) (256 * target - pos).natAbs zone (dur * ticksPerMs) cap
  let segs := place dir r.pieces pos
  ⟨kind, pos, 256 * target, segs, 0, segsTicks segs, false, dur, r.vc, r.short, 4096, 0⟩

/-- Plan a move from standstill (R111 to R114). -/
def planMove (l : Limits) (referenced : Bool) (kind : MoveKind) (pos : Int) (target : Int) (durMs : Nat) : Move :=
  planFrom l referenced kind pos 0 0 target durMs none

/-- A jerk-limited stop from speed `v` and acceleration `a` along the motion, at the deceleration `dec` (R118, R120). -/
def stopPieces (v : Nat) (a : Int) (dec jerk : Nat) : List Piece :=
  if (v : Int) + a * a.natAbs / (2 * max 1 jerk : Nat) < 0 then
    -- the deceleration under way stops the mover before the jerk could end it
    [⟨2 * v * ticksPerS / a.natAbs, v, a, ((a * a / (2 * (max v 1)) : Int))⟩]
  else rampFrom v a 0 dec jerk

/-- The distance of a stop, 1/256 µm (R121). -/
def stopDistance (v : Nat) (a : Int) (dec jerk : Nat) : Nat := (piecesDist (stopPieces v a dec jerk)).toNat

/-- A stop of a generator, never past the target of the interrupted move (R118, R121). -/
def planStop (l : Limits) (kind : MoveKind) (wall : Bool) (pos vel acc target : Int) (dec : Nat) : Move :=
  let dir : Int := if 0 ≤ vel then 1 else -1
  let segs := place dir (stopPieces vel.natAbs (dir * acc) dec l.jerk) pos
  let raw := match segs.getLast? with | some s => (s.at s.ticks).1 | none => pos
  let stop := if 0 ≤ vel then min raw (max target pos) else max raw (min target pos)
  ⟨kind, pos, stop, segs, 0, segsTicks segs, wall, 0, 0, false, 4096, 0⟩

/-- The obstacle stop: a step of deceleration, no jerk limit, in wall time; the deceleration is raised where the
target is nearer than the stopping distance (R169). `vel` is the wall-time velocity. -/
def planObstacleStop (pos vel target : Int) (dec : Nat) : Move :=
  let dir : Int := if 0 ≤ vel then 1 else -1
  let v := vel.natAbs
  let rest := (target - pos).natAbs
  let full := 256 * v * v / (2 * dec)
  let d := if full ≤ rest || rest = 0 then dec else divUp (256 * v * v) (2 * rest)
  let t := if d = 0 then 0 else v * ticksPerS / d
  let segs : List Seg := if v = 0 then [] else [⟨t, pos, vel, -dir * d, 0⟩]
  let stop := if v = 0 then pos else if full ≤ rest || rest = 0 then pos + dir * full else target
  ⟨.obstacleStop, pos, stop, segs, 0, t, true, 0, 0, false, 4096, 0⟩

/-! ## Advancing -/

/-- Advance a move by `n` ticks: its new state and, while it goes on, itself. At the end the set-point equals the
target exactly (R113). -/
def Move.advance (m : Move) (n : Nat) : (Int × Int × Int) × Option Move :=
  if m.total ≤ m.tick + n then ((m.target, 0, 0), none)
  else (segsAt m.segs (m.tick + n) (m.start, 0, 0), some { m with tick := m.tick + n })

/-- Ticks a move advances in one stitch: profile time by g, wall time at its own rate (R117, R118, R138). -/
def Move.step (m : Move) (g : Nat) (stopped : Bool) : Nat := if m.wall then m.rate else if stopped then 0 else g

/-- The duration left of a move, ms; 0 for a time-optimal one. -/
def Move.leftMs (m : Move) : Nat := if m.durMs = 0 then 0 else max 1 (m.durMs - m.past - m.tick / ticksPerMs)

/-- A move runs toward the open end. -/
def Move.toOpen (m : Move) : Bool := decide (m.start ≤ m.target)

/-- The aim of a move under way, with what is left of its duration; `bound`: its stroke timeout. -/
def Move.aim (m : Move) (bound : Nat) : Aim := ⟨m.kind, m.target / 256, m.leftMs, bound⟩

/-- A move is held where it stands by a stall in the lock zone (R126). -/
def Gen.stallHeld (x : Gen) : Bool := match x.held with | some h => h.cause == .stall | none => false

/-- One stitch of a generator: `g` in 1/4096; the stroke timeout counts at the rate of the profile clock, also while a stall
in the lock zone holds the move (R20, R117, R126); a latched a_dec ends at standstill (R123). -/
def Gen.stitch (x : Gen) (g : Nat) (stopped : Bool) : Gen :=
  let used := x.strokeUsed + (if stopped then 0 else g)
  match x.move with
  | none => { x with decLatched := none, strokeUsed := if x.stallHeld then used else x.strokeUsed }
  | some m =>
    let r := m.advance (m.step g stopped)
    { x with
      pos := r.1.1
      vel := r.1.2.1
      acc := r.1.2.2
      move := r.2
      decLatched := if r.2.isNone then none else x.decLatched
      strokeUsed := used }

/-! ## What a slice does with an order (R110, R118 to R123, R169) -/

/-- What a generator is planned with: its limits, the deceleration in force, whether its movers are referenced. -/
structure Terms where
  limits : Limits
  dec : Nat
  referenced : Bool
deriving DecidableEq, Repr

/-- The limits of a plan made now: a latched deceleration among them (R123). -/
def Terms.plan (c : Terms) : Limits := { c.limits with dec := c.dec }

/-- Nothing is left of an obstacle, but for its direction limit (R169, R170). -/
def Gen.obstacleOver (w : Gen) : Gen :=
  { w with obstacle := none, slow := 0, reactionDue := false, stopEnded := false }

/-- A new move takes over: its stroke timeout starts, and what waited or was left of an obstacle is gone (R20, R169). -/
def Gen.renew (w : Gen) (t : Aim) (open_ : Bool) : Gen :=
  { w.obstacleOver with
    pending := none, held := none, dirLimit := none, strokeUsed := 0, strokeLimit := t.bound, toward := open_ }

/-- A move is planned from standstill and begins (R111, R121); a target equal to the set-point plans none (R142). -/
def Gen.begin (w : Gen) (c : Terms) (t : Aim) : Gen :=
  let fresh := { w.renew t (if w.pos = 256 * t.target then w.toward else decide (w.pos ≤ 256 * t.target)) with vel := 0, acc := 0 }
  { fresh with
    move := if w.pos = 256 * t.target then none
      else some (planMove c.plan c.referenced t.kind w.pos t.target t.durMs) }

/-- A move interrupted by a hold stop goes on from standstill; its stroke timeout stood still meanwhile (R20, R119). -/
def Gen.resume (w : Gen) (c : Terms) (t : Aim) : Gen := { w.begin c t with strokeUsed := w.strokeUsed }

/-- A target reaches a generator (R120, R137): a new move from standstill, the remainder replanned, or a retarget stop
first; during a stop it waits, in place of one that waited. -/
def Gen.aim (w : Gen) (c : Terms) (t : Aim) : Gen :=
  match w.move with
  | none => w.begin c t
  | some m =>
    if m.kind.isStop then { w with pending := some t, held := none }
    else if w.vel = 0 then w.begin c t
    else
      let dir : Int := if 0 ≤ w.vel then 1 else -1
      if (stopDistance w.vel.natAbs (dir * w.acc) c.dec c.limits.jerk : Int) ≤ dir * (256 * t.target - w.pos) then
        { w.renew t (decide (0 ≤ w.vel)) with
          move := some (planFrom c.plan c.referenced t.kind w.pos w.vel w.acc t.target t.durMs none) }
      else { w with
        move := some (planStop c.limits .retargetStop false w.pos w.vel w.acc m.target c.dec)
        pending := some t, held := none }

/-- The move that a trip interrupts: it is to go on after the retry (R131, R132). -/
def Gen.tripped (w : Gen) : Option Held :=
  match w.pending, w.held, w.move with
  | some t, _, _ => some ⟨t, .trip⟩
  | none, some h, _ => some ⟨h.aim, .trip⟩
  | none, none, some m => if m.kind.isStop then none else some ⟨m.aim w.strokeLimit, .trip⟩
  | none, none, none => none

/-- A generator brakes to a stop at the deceleration in force, in profile time; a stop under way goes on. -/
def Gen.brakeNow (w : Gen) (c : Terms) (kind : MoveKind) (keep : Bool) : Gen :=
  { w with
    pending := none, held := if keep then w.tripped else none
    move := w.move.map (fun m =>
      if m.kind.isStop then m else planStop c.limits kind false w.pos w.vel w.acc m.target c.dec) }

/-- Wall-time velocity and acceleration of a generator (R193): `g` in 1/4096, `rate` as the clock holds it. -/
def Gen.wallSpeed (w : Gen) (g : Nat) : Int :=
  match w.move with
  | some m => w.vel * (if m.wall then (m.rate : Int) else g) / 4096
  | none => 0

def Gen.wallAcc (w : Gen) (g : Nat) (rate : Int) : Int :=
  w.acc * (g * g : Nat) / 16777216 + w.vel * rate / ticksPerS

/-- Level 3 stops the profile clock: the move in flight ends in a hold stop in wall time (R118); a stop under way goes on to
its planned end in wall time (R138). -/
def Gen.holdStop (w : Gen) (c : Terms) (g : Nat) (rate : Int) : Gen :=
  match w.move with
  | none => w
  | some m =>
    if m.wall then w
    else if m.kind.isStop then { w with move := some { m with wall := true, rate := g } }
    else { w with
      held := some ⟨m.aim w.strokeLimit, .belt⟩
      move := some (planStop c.limits .holdStop true w.pos (w.wallSpeed g) (w.wallAcc g rate) m.target c.dec) }

/-- The obstacle stop takes the place of whatever runs (R169, R174); `g` gives the wall-time velocity it starts from. The
current is limited from here against the direction of the interrupted motion. -/
def Gen.obstacleStop (w : Gen) (dec g : Nat) (toOpen : Bool) : Gen :=
  { w with
    pending := none, held := none
    dirLimit := some (match w.move with | some m => m.toOpen | none => toOpen)
    move := w.move.map (fun m => planObstacleStop w.pos (w.wallSpeed g) m.target dec) }

/-- A move still accelerates or cruises: the ramp to its end point has not begun. -/
def Gen.beforeRamp (w : Gen) (m : Move) : Bool :=
  let dir : Int := if m.start ≤ m.target then 1 else -1
  decide (0 ≤ dir * w.acc) && decide ((m.vc : Int) ≤ dir * w.vel ∨ 0 < dir * w.acc ∨ w.vel = 0)

/-- A lowered a_dec cannot end the ramp of a move at its end point (R122). -/
def Gen.rampTooShort (w : Gen) (m : Move) (l : Limits) (referenced : Bool) : Bool :=
  let dir : Int := if m.start ≤ m.target then 1 else -1
  let homing := !referenced || m.kind = .homing
  let zone := if homing then 0 else zoneFor l (decide (0 < dir)) (m.target / 256)
  let e : Int := if zone = 0 then 0 else l.creep
  let left := (m.target - w.pos).natAbs - 256 * zone
  decide (e < levelSpeed w.vel.natAbs (dir * w.acc) l.jerk) && decide (left < l.dist w.vel.natAbs (dir * w.acc) e)

/-- The remainder of a move replanned at other limits: it stays the same move, with its duration and, where `cap` is
given, its cruise velocity (R122). -/
def Gen.replan (w : Gen) (m : Move) (l : Limits) (referenced : Bool) (cap : Option Nat) : Gen :=
  let p := planFrom l referenced m.kind w.pos w.vel w.acc (m.target / 256) (if cap.isNone then m.leftMs else 0) cap
  { w with
    move := some { p with
      start := m.start, durMs := m.durMs, past := m.past + m.tick / ticksPerMs,
      short := if cap.isNone then p.short else m.short, vc := if cap.isNone then p.vc else m.vc } }

/-- A change of the limits reaches a generator (R122, R123); `old`: those before it. Jerk, creep speed and creep zones act
from the next move; a stop keeps its plan. The flag: a lowered a_dec is not applied, and the old one is latched. -/
def Gen.relimit (w : Gen) (c : Terms) (old : Limits) : Gen × Bool :=
  match w.move with
  | none => (w, false)
  | some m =>
    if m.kind.isStop then (w, false)
    else
      let l := { c.limits with
        jerk := old.jerk, creep := old.creep, zoneClosed := old.zoneClosed, zoneOpen := old.zoneOpen, openEnd := old.openEnd }
      let before := w.beforeRamp m
      let late := decide (l.dec < old.dec) && w.decLatched.isNone && w.rampTooShort m l c.referenced
      let w := if late then { w with decLatched := some old.dec } else w
      let l := { l with dec := match w.decLatched with | some v => v.toNat | none => l.dec }
      let dir : Int := if m.start ≤ m.target then 1 else -1
      (if before && l.vmax != old.vmax then w.replan m l c.referenced none
       else if before && l.acc != old.acc && decide (w.vel.natAbs < m.vc.natAbs) then w.replan m l c.referenced (some m.vc.toNat)
       else if l.dec != old.dec then
         w.replan m l c.referenced (some (if before then m.vc.toNat else (levelSpeed w.vel.natAbs (dir * w.acc) l.jerk).toNat))
       else w, late)

/-! ## Orders (R110) -/

/-- An order that a newer one makes void: of targets and stops the last stands; an obstacle stop voids them all. -/
def Order.voids : Order → Order → Bool
  | .target .., .target .. | .target .., .stop .. | .stop .., .target .. | .stop .., .stop .. => true
  | .obstacle .., _ => true
  | _, _ => false

def Order.isLimits : Order → Bool
  | .limits _ => true
  | _ => false

def Order.isStop : Order → Bool
  | .stop .. => true
  | _ => false

/-- The target among orders. -/
def ordered (os : List (Option Nat × Order)) : Option Aim :=
  os.findSome? (fun p => match p.2 with | .target t => some t | _ => none)

/-- An order is given: `due` names the frame after which it takes effect at stitch 0, none the next stitch. Of several
changes of the limits the first tells the old ones; a stop that is due sooner stays; a target that a trip comes before
waits. -/
def Gen.order (w : Gen) (due : Option Nat) (o : Order) : Gen :=
  if (o.isLimits && w.orders.any (fun p => p.2.isLimits)) then w
  else if o.isStop && due.isSome && w.orders.any (fun p => p.2.isStop && p.1.isNone) then w
  else
    let w := match o with
      | .stop _ true => { w with pending := match ordered w.orders with | some t => some t | none => w.pending }
      | _ => w
    { w with orders := w.orders.filter (fun p => !o.voids p.2) ++ [(due, o)] }

/-- An order takes effect on a generator that has advanced through the stitch; the flag as `Gen.relimit` gives it. -/
def Gen.take (w : Gen) (c : Terms) (g : Nat) : Order → Gen × Bool
  | .target t => (w.aim c t, false)
  | .stop k keep => (w.brakeNow c k keep, false)
  | .limits old => w.relimit c old
  | .obstacle dec o => (w.obstacleStop dec g o, false)

/-- An order is due in this stitch. A target waits at standstill while the profile clock is stopped (R175). -/
def Gen.dueNow (w : Gen) (stopped : Bool) (frame stitch : Nat) (p : Option Nat × Order) : Bool :=
  (match p.1 with | none => true | some f => stitch == 0 && decide (f < frame)) &&
  !(stopped && w.move.isNone && (match p.2 with | .target _ => true | _ => false))

/-- The orders due in this stitch take effect, in the order given. -/
def Gen.obey (w : Gen) (c : Terms) (g : Nat) (stopped : Bool) (frame stitch : Nat) : Gen × Bool :=
  let due := w.orders.filter (w.dueNow stopped frame stitch)
  let rest := w.orders.filter (fun p => !w.dueNow stopped frame stitch p)
  due.foldl (fun (r : Gen × Bool) p => let t := r.1.take c g p.2; (t.1, r.2 || t.2)) ({ w with orders := rest }, false)

end Sys2Proof.Machine
end

