-- ==== Sys2Proof/Machine/Crc.lean ====
section
/-! DEFINITION. The check sums of the manual: CRC-32C (R308), the CRC-8 of the Mirror (R92), the CRC-16 of the legacy
records (R549). -/

namespace Sys2Proof

/-- The bits of a number, most significant of `n` first. -/
def bitsMsb : Nat → Nat → List Bool
  | 0, _ => []
  | n + 1, x => bitOf x n :: bitsMsb n x

/-- One bit into a CRC register of `w` bits, MSB first. -/
def crcBit (w poly crc : Nat) (b : Bool) : Nat :=
  let fb := bitOf crc (w - 1) != b
  let s := crc * 2 % 2 ^ w
  if fb then s ^^^ poly else s

/-- A CRC over bits, MSB first, without final XOR. -/
def crcMsb (w poly init : Nat) (bits : List Bool) : Nat := bits.foldl (crcBit w poly) init

/-- One byte into a reflected CRC-32 register. -/
def crcByteLsb (poly : Nat) (crc byte : Nat) : Nat :=
  (List.range 8).foldl (fun c _ => if c % 2 = 1 then (c / 2) ^^^ poly else c / 2) (crc ^^^ (byte % 256))

/-- CRC-32C: reflected polynomial 0x82F63B78, initial value and final XOR 0xFFFFFFFF (R308). -/
def crc32c (bs : Bytes) : Nat := (bs.foldl (crcByteLsb 0x82F63B78) 0xFFFFFFFF) ^^^ 0xFFFFFFFF

/-- The Mirror's CRC-8 over the word number and the data (R92). -/
def mirrorCrc (word data : Nat) : Nat := crcMsb 8 0x2F 0xFF (bitsMsb 4 word ++ bitsMsb 32 data)

end Sys2Proof
end

