-- ==== Sys2Proof/Machine/Teach.lean ====
section
/-! DEFINITION. The Contour: its teach (R152 to R154), direct sheet writes (R155), adaptation (R156) and drift (R157,
R620). -/

namespace Sys2Proof.Machine

/-- Every fitted axis of a doorway is referenced. -/
def Image.allReferenced (im : Image) (d : Door) : Bool :=
  (allFin 3).all (fun k => !im.moverFitted d k || (im.axis (axisOf d k)).referenced)

/-- A new cycle has visited no bin yet. -/
def Image.forgetBins (im : Image) (d : Door) : Image :=
  (allFin 3).foldl (fun im k => im.onAxis (axisOf d k) (fun a => { a with seenOpen := [], seenClose := [] })) im

/-- Change every fitted mover of a doorway. -/
def Image.eachMover (im : Image) (d : Door) (f : Image → Axis → Image) : Image :=
  (allFin 3).foldl (fun im k => if im.moverFitted d k then f im (axisOf d k) else im) im

/-- A teach under way ends with a result (R154). -/
def Image.endTeach (im : Image) (d : Door) (result : Nat) : Image :=
  if (im.door d).teach.running then
    let untaught := (allFin 3).any (fun k => im.moverFitted d k &&
      !((im.axis (axisOf d k)).opening.taught && (im.axis (axisOf d k)).closing.taught))
    let st := if result = 1 then 2 else if untaught then 4 else 3
    let im := im.onDoor d (fun w => { w with teach := { w.teach with running := false } })
    let im := (allFin 3).foldl (fun im k => im.onAxis (axisOf d k) (fun a => { a with teach := [] })) im
    ((im.setDreg d 0x14 2 st).setDreg d 0x14 4 result).occur 54 (doorScope d) ⟨0, result, 0⟩
  else im

/-! ## Drift (R157) -/

/-- The drift limit of a doorway, N. -/
def Image.driftLimit (im : Image) (d : Door) : Int := im.dsreg d 5 6 - im.dsreg d 5 5 - im.dsreg d 5 9

/-- The highest bin of a mover's taught sheets. -/
def AxisState.highestBin (x : AxisState) : Option Int :=
  let bins := (if x.opening.taught then x.opening.bins else []) ++ (if x.closing.taught then x.closing.bins else [])
  bins.foldl (fun m b => match m with | none => some b | some v => some (max v b)) none

/-- EV53 follows the highest bin of the doorway's taught sheets. -/
def Image.checkDrift (im : Image) (d : Door) : Image :=
  let excess := (allFin 3).find? (fun k => im.moverFitted d k &&
    match (im.axis (axisOf d k)).highestBin with | some b => decide (im.driftLimit d < b) | none => false)
  match excess with
  | some k => im.raise 53 (doorScope d) ⟨(axisOf d k).val + 1, 0, ((im.axis (axisOf d k)).highestBin).getD 0⟩
  | none => im.clearEv 53 (doorScope d) Source.zero

/-! ## Teach (R154) -/

/-- The sample in the frame of its motion: force, velocity, acceleration, positive along the move. -/
def TeachSample.along (t : TeachSample) : Int × Int × Int :=
  let s : Int := if t.opening then 1 else -1
  (t.force, s * t.vel, s * t.acc)

/-- The samples of one bin of one direction. -/
def binSamples (ts : List TeachSample) (opening : Bool) (bin : Nat) : List TeachSample :=
  ts.filter (fun t => t.opening == opening && t.bin == bin)

/-- Mean of F_m over a bin, mN. -/
def binMean (ts : List TeachSample) : Int :=
  ts.foldl (fun n t => n + t.force) 0 / (max 1 ts.length : Nat)

/-- The least-squares fit of F_m against acceleration and velocity, each bin's mean subtracted: m_eff in 0.1 kg and
c_v in N·s/m, or `none` where the samples do not fix it. -/
def fitMass (ts : List TeachSample) : Option (Int × Int) :=
  let ys := ts.map (fun t => (t.force - binMean (binSamples ts t.opening t.bin), t.along))
  let sum := fun (f : Int × Int × Int × Int → Int) => ys.foldl (fun n y => n + f y) 0
  let aa := sum (fun y => y.2.2.2 * y.2.2.2)
  let vv := sum (fun y => y.2.2.1 * y.2.2.1)
  let av := sum (fun y => y.2.2.2 * y.2.2.1)
  let ay := sum (fun y => y.2.2.2 * y.1)
  let vy := sum (fun y => y.2.2.1 * y.1)
  let det := aa * vv - av * av
  if det = 0 then none
  else some ((10000 * (ay * vv - vy * av) + det / 2) / det, (1000 * (vy * aa - ay * av) + det / 2) / det)

/-- F_c of a sample with new m_eff and c_v, mN. -/
def TeachSample.compared (t : TeachSample) (m c : Int) : Int :=
  let (f, v, a) := t.along
  f - m * a / 10000 - c * v / 1000

/-- The largest F_c of each cycle that visited a bin, mN. -/
def cycleSamples (ts : List TeachSample) (m c : Int) : List Int :=
  (ts.map (·.cycle)).eraseDups.map (fun n =>
    (ts.filter (fun t => t.cycle == n)).foldl (fun (b : Option Int) t =>
      match b with | none => some (t.compared m c) | some x => some (max x (t.compared m c))) none |>.getD 0)

/-- A bin's value where at least 4 of the 8 cycles visited it: the mean of its samples, rounded up to whole N. -/
def binValue (ts : List TeachSample) (m c : Int) : Option Int :=
  let xs := cycleSamples ts m c
  if xs.length < 4 then none else some (-((-(xs.foldl (· + ·) 0)) / (1000 * (xs.length : Int))))

/-- The nearest known bin at distance `k`: the higher of two. -/
def nearBin (vs : List (Option Int)) (i k : Nat) : Option Int :=
  let lo := if k ≤ i then (vs.getD (i - k) none) else none
  let hi := vs.getD (i + k) none
  match lo, hi with
  | some a, some b => some (max a b)
  | some a, none => some a
  | none, b => b

/-- A sheet of 256 bins from the samples of one direction; `none` if no bin was visited often enough. -/
def newSheet (ts : List TeachSample) (opening : Bool) (m c : Int) : Option (List Int) :=
  let vs := (List.range 256).map (fun b => binValue (binSamples ts opening b) m c)
  let filled := (List.range 256).map (fun i =>
    (List.range 256).foldl (fun (r : Option Int) k => match r with | some x => some x | none => nearBin vs i k) none)
  filled.foldr (fun x acc => match x, acc with | some a, some r => some (a :: r) | _, _ => none) (some [])

/-- What a teach gives one mover, or the failing check's code. -/
def Image.teachMover (im : Image) (a : Axis) : Except Nat (Int × Int × List Int × List Int) :=
  let ts := (im.axis a).teach
  match fitMass ts with
  | none => .error 5
  | some (m, c) =>
    if m < 10 || 3000 < m || c < 0 || 2000 < c then .error 5
    else match newSheet ts true m c, newSheet ts false m c with
      | some o, some k =>
        let top := im.dsreg (axisDoor a) 5 6 - im.dsreg (axisDoor a) 5 5
        if (o ++ k).any (fun b => decide (top < b)) then .error 4 else .ok (m, c, o, k)
      | _, _ => .error 5

/-- Record and make a change of a DOMAIN or a register inside the teach (source 7 of R398). -/
def Image.taughtSheets (im : Image) (a : Axis) (m c : Int) (o k : List Int) : Image :=
  let x := im.axis a
  let crc := fun (bs : List Int) => crc32c ((bs.map (fun b => le 2 (encInt 16 b))).flatten)
  let im := (im.change 7 true (aBase a.val + 4) 9 (im.areg a 4 9) m.toNat).change 7 true (aBase a.val + 4) 0x0A
    (im.areg a 4 0x0A) c.toNat
  let im := (im.change 7 true (aBase a.val + 7) 1 (crc x.opening.bins) (crc o)).change 7 true (aBase a.val + 7) 2
    (crc x.closing.bins) (crc k)
  ((im.setAreg a 4 9 m.toNat).setAreg a 4 0x0A c.toNat).onAxis a (fun x => { x with
    opening := ⟨true, o, List.replicate 256 0⟩, closing := ⟨true, k, List.replicate 256 0⟩ })

/-- The eighth counted cycle: every mover passes and all take effect together, or nothing changes. -/
def Image.completeTeach (im : Image) (d : Door) : Image :=
  let axes := ((allFin 3).filter (im.moverFitted d)).map (axisOf d)
  let rs := axes.map (fun a => (a, im.teachMover a))
  match rs.findSome? (fun r => match r.2 with | .error e => some e | .ok _ => none) with
  | some e => im.endTeach d e
  | none =>
    let im := rs.foldl (fun im r => match r.2 with | .ok (m, c, o, k) => im.taughtSheets r.1 m c o k | .error _ => im) im
    (im.endTeach d 1).checkDrift d

/-- The conditions of R153 that a cycle must meet. -/
def Image.cycleClean (im : Image) (d : Door) (c : Cycle) (outcome : Nat) : Bool :=
  outcome == 1 && !c.spoiled && c.obstacles.isEmpty && im.dreg d 1 5 == 0 && (im.door d).retries == 0

/-- A cycle ends while a teach runs (R153). -/
def Image.teachCycle (im : Image) (d : Door) (c : Cycle) (outcome : Nat) : Image :=
  let t := (im.door d).teach
  if !t.running || decide (c.accepted < t.since) then im
  else if im.cycleClean d c outcome then
    let im := (im.onDoor d (fun w => { w with teach := { w.teach with done := t.done + 1 } })).setDreg d 0x14 3 (t.done + 1)
    if 7 ≤ t.done then im.completeTeach d else im
  else
    let im := im.eachMover d (fun im a => im.onAxis a (fun x => { x with teach := x.teach.filter (fun s => s.cycle != c.accepted) }))
    let im := (im.onDoor d (fun w => { w with teach := { w.teach with rejected := t.rejected + 1 } })).setDreg d 0x14 5
      (t.rejected + 1)
    if 15 ≤ t.rejected then im.endTeach d 3 else im

/-! ## Adaptation (R156) -/

/-- One bin adapted by a sample: at most 2 N, the fraction kept in 1/64 N. -/
def adaptBin (bin : Int) (frac : Nat) (s : Int) : Int × Nat :=
  let c64 := 64 * bin + frac
  let d := clampInt (-8192) 8192 (64 * s - c64)
  let c := 64 * c64 + d
  let f := ((c % 4096).toNat + 32) / 64
  if f = 64 then (c / 4096 + 1, 0) else (c / 4096, f)

/-- A taught sheet adapted by the bins a cycle visited. -/
def Sheet.adapt (s : Sheet) (seen : List (Nat × Int)) : Sheet :=
  if !s.taught then s
  else seen.foldl (fun (s : Sheet) p =>
    let r := adaptBin (s.bins.getD p.1 0) (s.fracs.getD p.1 0) p.2
    { s with bins := s.bins.set p.1 r.1, fracs := s.fracs.set p.1 r.2 }) s

/-- A closed cycle adapts the sheets it used. -/
def Image.adaptCycle (im : Image) (d : Door) (c : Cycle) (outcome : Nat) : Image :=
  if im.cycleClean d c outcome && im.dreg d 5 0x0A == 1 && !(im.door d).teach.running then
    let im := im.eachMover d (fun im a =>
      let x := im.axis a
      if x.referenced && (x.opening.taught && !x.seenOpen.isEmpty || x.closing.taught && !x.seenClose.isEmpty) then
        (im.onAxis a (fun x => { x with
          opening := x.opening.adapt x.seenOpen, closing := x.closing.adapt x.seenClose })).bumpA a 7 5
      else im)
    im.checkDrift d
  else im

/-! ## Untaught, and written directly (R151, R155, R620) -/

/-- Both sheets of a mover become untaught. -/
def Image.untaught (im : Image) (a : Axis) : Image :=
  ((im.setAreg a 4 9 0).setAreg a 4 0x0A 0).onAxis a (fun x => { x with opening := Sheet.untaught, closing := Sheet.untaught })

/-- A change under R151 untaught a mover and interrupts a teach. -/
def Image.untaughtBy (im : Image) (a : Axis) : Image := ((im.untaught a).endTeach (axisDoor a) 6).checkDrift (axisDoor a)

/-- The motor type and the open end of an axis are in force, changed from those of `old`: both sheets become untaught, and
another motor type leaves the axis unreferenced (R104, R151). -/
def Image.motorSet (im old : Image) (a : Axis) : Image :=
  let motor := im.areg a 0 1 != old.areg a 0 1
  let im := if motor || im.areg a 6 1 != old.areg a 6 1 then im.untaughtBy a else im
  if motor then im.onAxis a (fun x => { x with referenced := false }) else im

/-- What A+7:04 and A+7:07 show (R620). -/
def Image.taughtState (im : Image) (a : Axis) : Nat :=
  let x := im.axis a
  if (im.door (axisDoor a)).teach.running then 1
  else if x.opening.taught && x.closing.taught then 2
  else if x.opening.taught || x.closing.taught then 3 else 0

/-- A sheet as its 512 bytes. -/
def Sheet.bytes (s : Sheet) : Bytes := padTo 512 ((s.bins.map (fun b => le 2 (encInt 16 b))).flatten)

/-- The bins of a 512-byte sheet. -/
def sheetBins (bs : Bytes) : List Int :=
  (List.range 256).map (fun i => decInt 16 (ofLe ((bs.drop (2 * i)).take 2)))

/-- A whole sheet written: taught from the next frame, that sheet alone; length 0 untaught both (R151, R155). EV54 with
result 7. -/
def Image.writeSheet (im : Image) (a : Axis) (opening : Bool) (bs : Bytes) : Image :=
  let d := axisDoor a
  let s : Sheet := ⟨true, sheetBins bs, List.replicate 256 0⟩
  let im := if bs.isEmpty then im.untaughtBy a
    else im.onAxis a (fun x => if opening then { x with opening := s } else { x with closing := s })
  ((im.setDreg d 0x14 4 7).occur 54 (doorScope d) ⟨a.val + 1, 7, 0⟩).checkDrift d

end Sys2Proof.Machine
end

