-- ==== Sys2Proof/Machine/DoorOps.lean ====
section
/-! DEFINITION. The shared operations of a doorway: what its inputs prove (R23, R33), its movers and their moves (R20,
R110, R116), its cycle record (R57), its entry into a state and the abandonment of a cycle (R17). -/

namespace Sys2Proof.Machine

/-! ## Inputs -/

/-- The role of an input (R61). -/
def Image.role (im : Image) (d : Door) (n : Fin 12) : Nat := im.dreg d 0x09 (n.val + 1)

/-- The filtered state of an input in the image. -/
def Image.di (im : Image) (d : Door) (n : Fin 12) : Bool := ((im.door d).dis.get n).img

/-- The step's extending move has ended at its open end, or at the end stop there (R531). -/
def Image.stepAtOpenEnd (im : Image) (d : Door) : Bool :=
  let x := im.axis (axisOf d 2)
  x.atEnd == some true ||
    ((im.door d).step.move.isNone && decide (x.sp = 256 * (im.areg (axisOf d 2) 6 1 : Int)))

/-- A role is active when any input that holds it reads true (R61); role 9 is not wired in Overlay mode (R531). -/
def Image.roleTrue (im : Image) (d : Door) (r : Nat) : Bool :=
  if im.overlay && r == 9 then im.stepAtOpenEnd d
  else (allFin 12).any (fun n => im.role d n == r && im.di d n)

/-- A role is held by some input. -/
def Image.roleHeld (im : Image) (d : Door) (r : Nat) : Bool := (allFin 12).any (fun n => im.role d n == r)

/-- A train input in the image. -/
def Image.ti (im : Image) (n : Fin 16) : Bool := (im.inp.tis.get n).img

/-- The closed inputs of every leaf read true (roles 2 and 3, R33). -/
def Image.closedProven (im : Image) (d : Door) : Bool :=
  im.roleTrue d 2 && (im.leafCount d != 2 || im.roleTrue d 3)

/-- Locked is proven (R33). -/
def Image.lockedProven (im : Image) (d : Door) : Bool :=
  im.closedProven d && im.di d 0 && (im.dreg d 0x0B 1 != 1 || !im.roleTrue d 4)

/-- Unlock is proven (R23). -/
def Image.unlockProven (im : Image) (d : Door) : Bool :=
  !im.di d 0 && (im.dreg d 0x0B 1 != 1 || im.roleTrue d 4)

/-- The step, where fitted, is proven retracted. -/
def Image.stepIn (im : Image) (d : Door) : Bool := !im.stepFitted d || im.roleTrue d 10

/-- The emergency handle is operated (role 7). -/
def Image.handle (im : Image) (d : Door) : Bool := im.roleTrue d 7

/-- TI10 selective door enable and the doorway's membership (R24). -/
def Image.selective (im : Image) : Bool := im.ti 9
def Image.member (im : Image) (d : Door) : Bool := im.dreg d 0x0D 1 == 1

/-- The token of a side as the frame's decision leaves it (R68): held, or granted and not yet effective, unless a
withdrawal is pending. -/
def Image.token (im : Image) (s : Side) : Bool :=
  let acts := im.commit.pending
  ((im.permits.side s).held || acts.contains (.grant s)) && !acts.any (fun a =>
    match a with | .withdraw t _ => t == s | _ => false)

/-- The token of the doorway's side. -/
def Image.doorToken (im : Image) (d : Door) : Bool := im.token (im.sideOf d)

/-- A doorway holds latched events (B+0x10:01). -/
def Image.doorLatches (im : Image) (d : Door) : Nat := (im.ev.scopes.get (doorScope d)).latched

/-- A lock channel of the doorway is disabled (R266). -/
def Image.lockDisabled (im : Image) (d : Door) : Bool :=
  (allFin 16).any (fun n =>
    let r := im.dreg d 0x08 (n.val + 1)
    decide (1 ≤ r ∧ r ≤ 3) && (im.chan (chanOf d n)).disabled)

/-- An axis of a fitted mover is disabled (R136). -/
def Image.axisDisabled (im : Image) (d : Door) : Bool :=
  (allFin 3).any (fun k => im.moverFitted d k && (im.axis (axisOf d k)).disabled)

/-- Write a result code to B+0x02:02 (R618). -/
def Image.result (im : Image) (d : Door) (code : Nat) : Image := im.setDreg d 0x02 2 code

/-! ## Generators -/

def Image.gen (im : Image) (d : Door) : Group → Gen
  | .leaves => (im.door d).leaves
  | .step => (im.door d).step

def Image.onGen (im : Image) (d : Door) (g : Group) (f : Gen → Gen) : Image :=
  match g with
  | .leaves => im.onDoor d (fun w => { w with leaves := f w.leaves })
  | .step => im.onDoor d (fun w => { w with step := f w.step })

/-- A configured limit, or its live value where that is lower (R115). -/
def Image.limitInForce (im : Image) (a : Axis) (cfg live : Nat) : Nat :=
  let c := im.areg a 1 cfg
  let v := im.areg a 1 live
  if v = 0 then c else min c v

/-- The limits of one axis. -/
def Image.axisLimits (im : Image) (a : Axis) : Limits :=
  { vmax := im.limitInForce a 1 8, acc := im.limitInForce a 2 9, dec := im.limitInForce a 3 0x0A,
    jerk := im.areg a 1 4, creep := im.areg a 1 5, zoneClosed := im.areg a 1 6, zoneOpen := im.areg a 1 7,
    openEnd := im.areg a 6 1 }

/-- The planning limits of two movers that share a generator (R116). -/
def Limits.meet (x y : Limits) : Limits :=
  { vmax := min x.vmax y.vmax, acc := min x.acc y.acc, dec := min x.dec y.dec, jerk := min x.jerk y.jerk,
    creep := min x.creep y.creep, zoneClosed := max x.zoneClosed y.zoneClosed, zoneOpen := max x.zoneOpen y.zoneOpen,
    openEnd := min x.openEnd y.openEnd }

/-- The limits a group is planned with. -/
def Image.groupLimits (im : Image) (d : Door) : Group → Limits
  | .leaves =>
    if im.leafCount d = 2 then (im.axisLimits (axisOf d 0)).meet (im.axisLimits (axisOf d 1))
    else im.axisLimits (axisOf d 0)
  | .step => im.axisLimits (axisOf d 2)

/-- Every fitted mover of the group is referenced. -/
def Image.groupReferenced (im : Image) (d : Door) (g : Group) : Bool :=
  (im.groupMovers d g).all (fun k => (im.axis (axisOf d k)).referenced)

/-- The deceleration in force: a latched one until standstill (R123). -/
def Image.decInForce (im : Image) (d : Door) (g : Group) : Nat :=
  match (im.gen d g).decLatched with
  | some v => v.toNat
  | none => (im.groupLimits d g).dec

/-- The limits a group moves with: a latched deceleration among them. -/
def Image.limitsInForce (im : Image) (d : Door) (g : Group) : Limits :=
  { im.groupLimits d g with dec := im.decInForce d g }

/-- A target clamped to the soft limits of a referenced axis, counted and reported (R124). -/
def Image.clampTarget (im : Image) (d : Door) (a : Axis) (x : Int) : Image × Int :=
  if (im.axis a).referenced then
    let y := clampInt (im.asreg a 6 4) (im.asreg a 6 5) x
    if y = x then (im, x) else ((im.bumpA a 6 6).occur 62 (doorScope d) ⟨a.val + 1, 1, x⟩, y)
  else (im, x)

/-- The stroke timeout of a move, in ticks (R20); 0 for homing and jog, which have bounds of their own. -/
def Image.strokeBound (im : Image) (d : Door) (g : Group) (kind : MoveKind) (toOpen : Bool) : Nat :=
  if kind = .homing || kind = .jog then 0 else
  let target := match g, toOpen with
    | .leaves, true => im.dreg d 3 1
    | .leaves, false => im.dreg d 3 2
    | .step, true => im.dreg d 6 4
    | .step, false => im.dreg d 6 5
  target * im.dreg d 3 3 / 100 * ticksPerMs

/-- What a group is planned with. -/
def Image.groupTerms (im : Image) (d : Door) (g : Group) : Terms :=
  ⟨im.groupLimits d g, im.decInForce d g, im.groupReferenced d g⟩

/-- An order of the frame work takes effect at stitch 0 of the next frame (R110). -/
def Image.nextFrame (im : Image) : Option Nat := some im.now

/-- A generator is sent to a target; one that stands there plans no move, and what was left of an obstacle is over (R142,
R170). -/
def Gen.send (w : Gen) (due : Option Nat) (t : Aim) : Gen :=
  if w.move.isNone && w.pos = 256 * t.target then
    { w.obstacleOver with pending := none, held := none, orders := w.orders.filter (fun p => !(Order.target t).voids p.2) }
  else w.order due (.target t)

/-- A generator is to stop; one at rest forgets what it was to do, but for a move that goes on after a retry where `keep`
(R131). -/
def Gen.halt (w : Gen) (due : Option Nat) (kind : MoveKind) (keep : Bool) : Gen :=
  match w.move with
  | some _ => w.order due (.stop kind keep)
  | none =>
    let w := { w with pending := match ordered w.orders with | some t => some t | none => w.pending }
    { w with
      pending := none, held := if keep then w.tripped else none
      orders := w.orders.filter (fun p => !(Order.stop kind keep).voids p.2) }

/-- A target clamped by every referenced mover of a group (R116, R124). -/
def Image.clampGroup (im : Image) (d : Door) (g : Group) (x : Int) : Image × Int :=
  (im.groupMovers d g).foldl (fun (r : Image × Int) k => r.1.clampTarget d (axisOf d k) r.2) (im, x)

/-- Send a group to a target (R110, R112, R120): it is planned at stitch 0 of the next frame. A homing move runs without a
target of its own and is not clamped (R114). -/
def Image.startMove (im : Image) (d : Door) (g : Group) (kind : MoveKind) (target : Int) (durMs : Nat) : Image :=
  let r := if kind = .homing then (im, target) else im.clampGroup d g target
  let im := r.1
  let bound := im.strokeBound d g kind (decide ((im.gen d g).pos ≤ 256 * r.2))
  im.onGen d g (fun w => w.send im.nextFrame ⟨kind, r.2, durMs, bound⟩)

/-- Brake a group to a stop at its deceleration in force; `due` as for an order. -/
def Image.brake (im : Image) (d : Door) (g : Group) (due : Option Nat) (keep : Bool) : Image :=
  let im := (im.groupMovers d g).foldl (fun im k => im.onAxis (axisOf d k) (fun a =>
    { a with zoneHold := false, homeStall := none })) im
  im.onGen d g (fun w => w.halt due .drainStop keep)

/-- An axis on a move of its own brakes to a stop. -/
def Image.brakeSolo (im : Image) (a : Axis) (due : Option Nat) (keep : Bool) : Image :=
  im.onAxis a (fun x => { x with solo := x.solo.halt due .drainStop keep })

/-- Stop every mover of a doorway under braking. -/
def Image.brakeDoor (im : Image) (d : Door) (due : Option Nat) (keep : Bool) : Image :=
  let im := (im.brake d .leaves due keep).brake d .step due keep
  (allFin 3).foldl (fun (im : Image) k => im.brakeSolo (axisOf d k) due keep) im

/-- Every leaf is at its open end (R128). -/
def Image.leavesOpen (im : Image) (d : Door) : Bool :=
  ((im.gen d .leaves).atRest && decide ((im.gen d .leaves).pos = 256 * ((im.groupLimits d .leaves).openEnd : Int))) ||
  (im.groupMovers d .leaves).all (fun k => (im.axis (axisOf d k)).atEnd == some true)

/-- Every leaf is at its closed end. -/
def Image.leavesClosed (im : Image) (d : Door) : Bool :=
  ((im.gen d .leaves).atRest && decide ((im.gen d .leaves).pos = 0) && im.groupReferenced d .leaves) ||
  (im.groupMovers d .leaves).all (fun k => (im.axis (axisOf d k)).atEnd == some false)

/-- The step has been extended: it stands away from its retracted end, or it is unreferenced and not proven retracted. -/
def Image.stepOut (im : Image) (d : Door) : Bool :=
  im.stepFitted d && (decide ((im.gen d .step).pos ≠ 0) || im.roleTrue d 9 ||
    (!(im.axis (axisOf d 2)).referenced && !im.roleTrue d 10))

/-! ## The cycle record -/

/-- A phase of the record: ms from the acceptance, or 0xFFFFFFFF where it was not reached (R57). -/
def phaseMs (accepted : Nat) : Option Nat → Nat
  | some f => f - accepted
  | none => 0xFFFFFFFF

/-- An obstacle entry, 16 bytes (R57). -/
def ObstacleEntry.bytes (e : ObstacleEntry) : Bytes :=
  [e.phase, e.source, e.axis, 0] ++ le 4 (encInt 32 e.position) ++ le 2 (encInt 16 e.force) ++
    le 2 (encInt 16 e.threshold) ++ le 4 e.time

/-- The payload of the door-cycle record up to its snapshot (R57). -/
def Image.cyclePayload (im : Image) (d : Door) (c : Cycle) (outcome : Nat) : Bytes :=
  let w := im.door d
  let flags := bitsToNat [im.stepFitted d, im.leafCount d == 2, c.selective, c.noStep, c.autoClosed, w.partialOpen,
    c.homing, c.switchover]
  le 6 c.number ++ [outcome, flags, c.openSrc, c.closeSrc, im.dreg d 1 5, w.retries] ++
    ([c.stepExtended, c.unlockCommitted, c.unlockProven, c.openEnd, c.closeRequest, c.closingStart, c.closedProven,
      c.lockedProven, c.stepRetracted].map (fun t => le 4 (phaseMs c.accepted t))).flatten ++
    ([c.peakOpen1, c.peakOpen2, c.peakClose1, c.peakClose2, c.peakCurrent].map (fun x => le 2 (encInt 16 x))).flatten ++
    le 4 c.energy ++ [c.lowestG, c.highestBelt] ++
    padTo 64 (((c.obstacles.reverse.take 4).reverse.map ObstacleEntry.bytes).flatten)

/-- Record a time in the cycle. -/
def Image.onCycle (im : Image) (d : Door) (f : Cycle → Cycle) : Image :=
  im.onDoor d (fun w => { w with cycle := w.cycle.map f })

/-- The folded form of a cycle (R413, R415). -/
def Chatter.fold (x : Chatter) (reopens latched : Nat) (c : Cycle) (outcome : Nat) : Chatter :=
  let openMs := match c.unlockProven, c.openEnd with | some a, some b => some (b - a) | _, _ => none
  let closeMs := match c.closingStart, c.closedProven with | some a, some b => some (b - a) | _, _ => none
  let add := fun (l : List Nat) (i : Nat) => if i = 0 then l else l.set (i - 1) (l.getD (i - 1) 0 + 1)
  { x with
    cycles := x.cycles + 1
    first := if x.cycles = 0 then c.number else x.first
    last := c.number
    reopens := x.reopens + reopens
    obstClose := x.obstClose + (c.obstacles.filter (fun e => e.phase == 2 || e.phase == 3 || e.phase == 6)).length
    obstOpen := x.obstOpen + (c.obstacles.filter (fun e => e.phase == 1 || e.phase == 4 || e.phase == 5)).length
    openMin := match openMs with | some t => min x.openMin t | none => x.openMin
    openMax := match openMs with | some t => max x.openMax t | none => x.openMax
    closeMin := match closeMs with | some t => min x.closeMin t | none => x.closeMin
    closeMax := match closeMs with | some t => max x.closeMax t | none => x.closeMax
    peaks := (x.peaks.zip [c.peakOpen1, c.peakOpen2, c.peakClose1, c.peakClose2]).map (fun p => max p.1 p.2)
    peakCurrent := max x.peakCurrent c.peakCurrent.toNat
    energy := x.energy + c.energy
    lowestG := min x.lowestG c.lowestG
    highestBelt := max x.highestBelt c.highestBelt
    outcomes := add x.outcomes outcome
    openSrc := add x.openSrc c.openSrc
    closeSrc := add x.closeSrc c.closeSrc
    latched := x.latched ||| latched
    lastObst := match c.obstacles.getLast? with | some e => some e | none => x.lastObst }

/-- The operating-time bounds of a collapse window are in units of 10 ms. -/
def Image.windowOp (im : Image) (d : Door) : Nat := im.dreg d 0x13 3 * 100

/-- The chatter summary's payload (R415). -/
def Chatter.payload (x : Chatter) (endOp : Nat) : Bytes :=
  le 5 x.start ++ le 5 endOp ++ le 2 x.cycles ++ [x.otherFull, 0] ++ le 6 x.first ++ le 6 x.last ++ le 2 x.reopens ++
    le 2 x.obstClose ++ le 2 x.obstOpen ++ le 4 x.openMin ++ le 4 x.openMax ++ le 4 x.closeMin ++ le 4 x.closeMax ++
    (x.peaks.map (fun p => le 2 (encInt 16 p))).flatten ++ le 2 x.peakCurrent.toNat ++ le 4 x.energy ++
    [x.lowestG, x.highestBelt] ++ x.outcomes.map (min 255) ++ (x.openSrc.map (le 2)).flatten ++ (x.closeSrc.map (le 2)).flatten ++
    le 8 x.latched ++ (match x.lastObst with | some e => e.bytes | none => zeros 16)

/-- A collapse window ends: its summary, if a cycle was folded; a new window where more cycles than the threshold were
folded and the doorway goes on, else collapse ends (R414). -/
def Image.endWindow (im : Image) (d : Door) (again : Bool) : Image :=
  let x := (im.door d).chatter
  if x.active then
    let im := if x.cycles = 0 then im.bumpD d 0x13 5 else
      ((im.bumpD d 0x13 5).bump 0x2709 2).draft ⟨2, 0x0B, d.val + 1, 61, 0, x.payload im.op⟩
    if again && decide (im.dreg d 0x13 2 < x.cycles) then
      im.onDoor d (fun w => { w with
        chatter := { Chatter.empty with active := true, start := x.start + im.windowOp d, recent := x.recent } })
    else
      let im := im.onDoor d (fun w => { w with chatter := { Chatter.empty with recent := x.recent } })
      (im.setReg 0x2709 1 (setBit (im.reg 0x2709 1) d.val false)).clearEv 61 (doorScope d) Source.zero
  else im

/-- A collapse window that has run out ends (R413, R414). -/
def Image.windowOver (im : Image) (d : Door) : Image :=
  let x := (im.door d).chatter
  if x.active && decide (x.start + im.windowOp d ≤ im.op) then im.endWindow d true else im

/-- A cycle of outcome 1 counts toward the chatter threshold; the window opens when more than B+0x13:02 of them lie
within B+0x13:03 of operating time (R413). -/
def Image.chatterNote (im : Image) (d : Door) : Image :=
  let w := im.door d
  let recent := (im.op :: w.chatter.recent).filter (fun t => decide (im.op < t + im.windowOp d)) |>.take 1001
  let im := im.onDoor d (fun w => { w with chatter := { w.chatter with recent := recent } })
  if !w.chatter.active && im.dreg d 0x13 1 == 1 && decide (im.dreg d 0x13 2 < recent.length) then
    let im := im.onDoor d (fun w => { w with
      chatter := { Chatter.empty with active := true, start := im.op, recent := recent } })
    (im.setReg 0x2709 1 (setBit (im.reg 0x2709 1) d.val true)).raise 61 (doorScope d) Source.zero
  else im

/-- The end of a cycle: its record, or its folding into the collapse window (R57, R413). -/
def Image.finishCycle (im : Image) (d : Door) (outcome : Nat) : Image :=
  match (im.door d).cycle with
  | none => im
  | some c =>
    let im := (im.windowOver d).windowOver d
    let im := if outcome = 1 then im.chatterNote d else im
    let w := im.door d
    let strokes := fun (im : Image) =>
      let im := match c.unlockProven, c.openEnd with | some a, some b => im.setDreg d 0x0F 3 (b - a) | _, _ => im
      match c.closingStart, c.closedProven with | some a, some b => im.setDreg d 0x0F 4 (b - a) | _, _ => im
    let im := strokes (((im.setDreg d 0x0F 1 c.number).setDreg d 0x0F 2 outcome).setSreg (bBase d.val + 0x0F) 5
      (max c.peakClose1 c.peakClose2))
    let im := (im.setDreg d 0x16 1 c.energy).bumpBy (bBase d.val + 0x16) 2 (c.energy / 1000)
    let folded := w.chatter.active && (outcome = 1 || decide (im.reg 0x2709 4 ≤ w.chatter.otherFull))
    let im :=
      if folded then
        (im.onDoor d (fun w => { w with chatter := w.chatter.fold (im.dreg d 1 5) (im.doorLatches d) c outcome })).bump
          0x2709 3
      else
        (im.onDoor d (fun w => { w with chatter := if w.chatter.active
          then { w.chatter with otherFull := w.chatter.otherFull + 1 } else w.chatter })).draft
          ⟨1, 0x01, d.val + 1, 0xFF, im.dreg d 0x17 1, im.cyclePayload d c outcome⟩
    let im := (im.adaptCycle d c outcome).teachCycle d c outcome
    im.onDoor d (fun w => { w with cycle := none })

/-- With no cycle in progress a cycle that was only requested is forgotten; a closed one still waits for Locked (R57). -/
def Image.dropCycle (im : Image) (d : Door) : Image :=
  im.onDoor d (fun w => { w with cycle := w.cycle.filter (fun c => c.lockedProven.isSome) })

/-- Decide an abandonment that is due, once no action of the doorway is pending (R316). -/
def Image.settleAbandon (im : Image) (d : Door) : Image :=
  match (im.door d).abandonDue with
  | none => im
  | some o =>
    if im.doorPending d then im
    else
      let im := im.onDoor d (fun w => { w with abandonDue := none })
      if im.inProgress d then (im.decideAction (.abandon d o)).finishCycle d o
      else im.dropCycle d

/-- A cycle is abandoned, if one is in progress or about to be (R17). -/
def Image.abandon (im : Image) (d : Door) (outcome : Nat) : Image :=
  if im.inProgress d || im.doorPending d then
    (im.onDoor d (fun w => { w with abandonDue := some outcome })).settleAbandon d
  else im.dropCycle d

/-! ## Entering a state -/

/-- Enter a doorway state: the previous state and the frame of entry are kept, the doorway timers stop, and no further
transition is taken in this frame (R16); a staged set is due for its check on entry into Locked or Isolated (R47). The
Fault-held cause is reported while the doorway is Fault-held (R39); the lock channels go off where the state has them so
(R14); nothing is left of an obstacle that a jog met (R170). -/
def Image.enter (im : Image) (d : Door) (st : DState) : Image :=
  (if (im.door d).st = .faultHeld then im.setDreg d 0x10 3 0 else im).onDoor d (fun w => { w with
    prev := w.st, st := st, since := im.now, moved := true, closeHeld := none, keptOpen := false,
    applyDue := w.applyDue || st = .locked || st = .isolated, again := none, giveUp := false
    lockOn := w.lockOn && st.lockOn, lockChange := if w.lockOn && !st.lockOn then im.now + 1 else w.lockChange
    leaves := if w.st = .manual then w.leaves.obstacleOver else w.leaves
    step := if w.st = .manual then w.step.obstacleOver else w.step
    timers := { DoorTimers.reset with
      homing := if st.moving && w.homing then w.timers.homing else none
      p1 := w.timers.p1, p2 := w.timers.p2, p3 := w.timers.p3 } })

def Image.onTimers (im : Image) (d : Door) (f : DoorTimers → DoorTimers) : Image :=
  im.onDoor d (fun w => { w with timers := f w.timers })

/-- Lock channels off at the next frame boundary: the safe direction, not held back for a commit (R33). -/
def Image.lockOff (im : Image) (d : Door) : Image :=
  im.onDoor d (fun w => { w with lockOn := false, lockChange := im.now + 1 })

/-- Enter Fault-held with a cause of R39: the movers stop, the lock channels go off, the cycle is abandoned if one is
in progress (T22, T24 to T26). -/
def Image.faultHold (im : Image) (d : Door) (cause : Nat) : Image :=
  let im := ((im.brakeDoor d im.nextFrame false).abandon d 3).lockOff d
  ((im.enter d .faultHeld).setDreg d 0x10 3 cause).onDoor d (fun w => { w with homing := false })

/-- Enter Warning: the reopen count restarts when the doorway leaves Open (R30), the warning time runs. -/
def Image.enterWarning (im : Image) (d : Door) (src : Nat) (autoOnly : Bool) : Image :=
  let wasOpen := (im.door d).st = .opened
  let im := im.enter d .warning
  let im := if wasOpen then im.setDreg d 1 5 0 else im
  let im := im.onDoor d (fun w => { w with autoOnly := autoOnly })
  let im := im.onTimers d (fun t => { t with warning := some im.now })
  im.onCycle d (fun c => { c with closeSrc := src, closeRequest := some im.now, autoClosed := autoOnly })

/-- EV36: a withdrawal while a doorway is open or opening, counted per side (R72). -/
def Image.ev36 (im : Image) (d : Door) : Image :=
  (im.bump 0x2308 (im.sideOf d).code).occur 36 (doorScope d) Source.zero

/-- A close request ends the suspension of the auto-close dwell and EV42 (R29, T19). -/
def Image.closeSeen (im : Image) (d : Door) : Image :=
  (im.onDoor d (fun w => { w with dwellSuspended := false })).clearEv 42 (doorScope d) Source.zero

/-- Enter Open: the auto-close dwell starts (R29). -/
def Image.enterOpen (im : Image) (d : Door) : Image :=
  let im := im.enter d .opened
  im.onTimers d (fun t => { t with dwell := if im.dreg d 3 9 = 0 then none else some im.now })

/-- The target of a homing move: it runs toward the closed end without one and ends at an end stop, wherever the
estimated position lies (R114); where every mover is referenced, its set-point stays inside the soft limits (R124). -/
def Image.homingTarget (im : Image) (d : Door) (g : Group) : Int :=
  if im.groupReferenced d g then
    (im.groupMovers d g).foldl (fun (x : Int) k => max x (im.asreg (axisOf d k) 6 4)) (-20000)
  else (im.gen d g).pos / 256 - 4000000

/-- Enter Step-retracting and start the step's move in (T6, T21). -/
def Image.retractStep (im : Image) (d : Door) : Image :=
  let home := (im.door d).homing && !(im.axis (axisOf d 2)).referenced
  let im := (im.enter d .stepRetracting).lockOff d
  if home then im.startMove d .step .homing (im.homingTarget d .step) 0
  else im.startMove d .step .stroke 0 (im.dreg d 6 5)

/-- Enter Closing and start the closing stroke (T12, T18); a homing close runs at the homing speed (R38). -/
def Image.startClosing (im : Image) (d : Door) : Image :=
  let h := (im.door d).homing
  let im := im.enter d .closing
  let im := if h then im.startMove d .leaves .homing (im.homingTarget d .leaves) 0
    else im.startMove d .leaves .stroke 0 (im.dreg d 3 2)
  let im := if h then im.onTimers d (fun t => { t with homing := some im.now }) else im
  im.onCycle d (fun c => { c with closingStart := match c.closingStart with | some f => some f | none => some im.now })

/-- Enter Locked: the record of a closed cycle is written (R57; T21, T23, and T28, T30, T32, T34 after a cycle that
closed). -/
def Image.enterLocked (im : Image) (d : Door) : Image :=
  let done := match (im.door d).cycle with | some c => c.lockedProven.isSome | none => false
  let im := im.enter d .locked
  let im := if done then im.finishCycle d 1 else if (im.door d).abandonDue.isSome then im else im.dropCycle d
  (im.setDreg d 0x10 3 0).onDoor d (fun w => { w with
    homing := false, partialOpen := false, noStep := false, retries := 0, stepRetries := 0 })

/-- Start an opening: the unlock with cycle open is decided, and the doorway is Opening (T4, T5). The counts move when
the action takes effect (R22). -/
def Image.startOpening (im : Image) (d : Door) : Image :=
  (im.enter d .opening).decideAction (.unlock d)

end Sys2Proof.Machine
end

