-- ==== Sys2Proof/Machine/Cycle.lean ====
section
/-! DEFINITION. The transitions of a doorway (R14 to R57, R617, R618): what each request does, and the evaluation of one
doorway in the frame work. A transition whose condition is an event with a row of its own (a timer, a handle, a reset) is
taken by that row. -/

namespace Sys2Proof.Machine

/-! ## Isolation -/

/-- EV49 of an item (R11). -/
def Image.ev49 (im : Image) (scope : Fin 13) (item cause count : Nat) : Image :=
  im.occur 49 scope ⟨item, cause, count⟩

/-- A doorway becomes Isolated (T31): isolation state 2 isolated, 3 drained-held, 4 forced; EV49. EV48 stays as the handle
reads (R36). -/
def Image.isolated (im : Image) (d : Door) (state src cause count : Nat) : Image :=
  let im := (im.abandon d (if cause = 3 then 6 else 2)).lockOff d
  let w := im.door d
  let shown := w.st = .emergency || w.handleSeen
  let im := if shown && !im.handle d then im.clearEv 48 (doorScope d) Source.zero else im
  let im := (im.enter d .isolated).onDoor d (fun w => { w with
    drain := none, homing := false, partialOpen := false, closeHeld := none, handleSeen := shown && im.handle d })
  let im := ((im.setDreg d 0x11 2 state).setDreg d 0x11 3 src).setDreg d 0x10 3 0
  let im := ((im.setDreg d 0x12 1 0).setDreg d 0x12 2 0).setDreg d 0x12 5 0
  let im := ((im.endWindow d false).endTeach d 6).clearEv 63 (doorScope d) Source.zero
  im.ev49 (doorScope d) (d.val + 1) cause count

/-- The isolation state of a doorway that isolates without motion (R617). -/
def Image.stillState (im : Image) (d : Door) : Nat := if im.lockedProven d then 2 else 3

/-- The drain ends at its bound, at an obstacle or in Fault-held: movers stop and hold, drained-held (R10, R52, R299). -/
def Image.drainHeld (im : Image) (d : Door) : Image :=
  match (im.door d).drain with
  | some x => (im.brakeDoor d im.nextFrame false).isolated d 3 x.source.code 1 0
  | none => im

/-- The drain of a doorway is complete and its records are committed (R9, R617): Isolated. -/
def Image.drainDone (im : Image) (d : Door) : Image :=
  let w := im.door d
  match w.drain with
  | some x =>
    if w.moved || im.recordsPending (doorScope d) then im
    else match w.st with
      | .locked | .released => im.isolated d 2 x.source.code 1 0
      | .emergency | .manual => (im.brakeDoor d im.nextFrame false).isolated d (im.stillState d) x.source.code 1 0
      | .faultHeld =>
        if w.since ≤ x.frame then (im.brakeDoor d im.nextFrame false).isolated d (im.stillState d) x.source.code 1 0
        else im.drainHeld d
      | _ => im
  | none => im

/-- What a drain does in the state the doorway is in (R617). -/
def Image.drainStep (im : Image) (d : Door) : Image :=
  let w := im.door d
  if w.drain.isNone || w.moved then im
  else match w.st with
    | .stepExtending => (im.onDoor d (fun w => { w with cycle := none })).retractStep d
    | .opening => (im.brake d .leaves im.nextFrame false).enterWarning d 0 false
    | .opened => im.enterWarning d 0 false
    | .warning => im.onDoor d (fun w => { w with autoOnly := false })
    | _ => im.drainDone d

/-- A normal isolation request is committed (R42, R617): its source is kept through a restart. -/
def Image.startDrain (im : Image) (d : Door) (src : IsoSource) : Image :=
  let w := im.door d
  if w.st = .isolated || w.drain.isSome then im
  else
    let im := im.onDoor d (fun w => { w with drain := some ⟨im.now, 0, none, src⟩ })
    ((im.setDreg d 0x11 2 1).setDreg d 0x11 3 src.code).drainStep d

/-- A mover group of a doorway is in motion. -/
def Image.groupMoving (im : Image) (d : Door) (g : Group) : Bool :=
  (im.gen d g).move.isSome || (im.groupMovers d g).any (fun k => (im.axis (axisOf d k)).solo.move.isSome)

/-- Mover groups of a doorway in motion (R11). -/
def Image.groupsMoving (im : Image) (d : Door) : Nat := b2n (im.groupMoving d .leaves) + b2n (im.groupMoving d .step)

/-- A transition that has to wait for the next frame (R16). -/
def Image.keepWish (im : Image) (d : Door) (k : Wish) : Image :=
  im.onDoor d (fun w => { w with wishes := if w.wishes.contains k then w.wishes else w.wishes ++ [k] })

/-- Forced isolation (R11, R12): motion brakes from the next stitch, the outcome "forced" is counted per unit cut short. A
doorway already Isolated stays as it is, and EV49 is raised with a count of 0. -/
def Image.forceIsolate (im : Image) (d : Door) (src : IsoSource) : Image :=
  let w := im.door d
  if w.st = .isolated then im.ev49 (doorScope d) (d.val + 1) 3 0
  else
    let n := im.groupsMoving d + b2n (im.inProgress d)
    let im := im.brakeDoor d none false
    if w.moved then im.keepWish d (.forced src) else im.isolated d 4 src.code 3 n

/-- Return to service (T32, R45). -/
def Image.returnToService (im : Image) (d : Door) : Image :=
  let im := (allFin 3).foldl (fun (im : Image) k =>
    if (im.axis (axisOf d k)).openPhase then
      (im.onAxis (axisOf d k) (fun x => { x with openPhase := false })).occur 54 (doorScope d) ⟨(axisOf d k).val + 1, 0, 0⟩
    else im) im
  let im := (im.setDreg d 0x11 2 0).setDreg d 0x11 3 0
  let im := if im.lockedProven d then im.enterLocked d else (im.enter d .faultHeld).setDreg d 0x10 3 1
  im.ev49 (doorScope d) (d.val + 1) 2 0

/-! ## Emergency -/

/-- T27: the handle takes the doorway to Emergency. On an Isolated or Manual doorway EV48 is raised and the state stays
(R36). Where a transition has been taken in the frame, the next frame takes this one. -/
def Image.emergency (im : Image) (d : Door) : Image :=
  let w := im.door d
  let noted := fun (im : Image) =>
    if w.handleSeen then im else (im.bumpD d 0x0C 4).raise 48 (doorScope d) Source.zero
  if w.st = .isolated || w.st = .manual then (noted im).onDoor d (fun w => { w with handleSeen := true })
  else if w.st = .emergency || w.moved then im
  else ((((noted im).brakeDoor d im.nextFrame false).abandon d 4).lockOff d).enter d .emergency |>.onDoor d
    (fun w => { w with homing := false, handleSeen := false })

/-- The handle reads normal on a doorway whose state it does not change: EV48 clears (R36). -/
def Image.handleNormal (im : Image) (d : Door) : Image :=
  let w := im.door d
  if w.st != .emergency && w.handleSeen && !im.handle d then
    (im.clearEv 48 (doorScope d) Source.zero).onDoor d (fun w => { w with handleSeen := false })
  else im

/-- T28: where Emergency ends (R36). -/
def Image.emergencyEnd (im : Image) (d : Door) : Image :=
  let im := im.clearEv 48 (doorScope d) Source.zero
  if im.lockedProven d then im.enterLocked d
  else if im.closedProven d then
    (im.enter d .closedUnlocked).onTimers d (fun t => { t with settle := some im.now })
  else im.enterWarning d 0 false

/-- An emergency reset request from a source, `enabled` in B+0x0C:02 (R36, R618). -/
def Image.emergencyReset (im : Image) (d : Door) (enabled : Bool) : Image :=
  if (im.door d).st != .emergency then im.result d 1
  else if !enabled then im.result d 6
  else if im.handle d then im.result d 4
  else if (im.door d).moved then (im.result d 0).keepWish d .emergencyReset
  else (im.result d 0).emergencyEnd d

/-! ## Requests -/

/-- The reversal of T14 to T16 has begun its state: it is performed when the obstacle stop has ended. -/
def Image.toReversing (im : Image) (d : Door) (full : Bool) : Image :=
  (im.enter d .reversing).onDoor d (fun w => { w with reverseFull := full, reverseRetries := 0 })

/-- Start the reversal's move: by B+0x04:02 from where braking ended, or to full open (R30). -/
def Image.startReversal (im : Image) (d : Door) : Image :=
  let openEnd : Int := (im.groupLimits d .leaves).openEnd
  let dist := im.dreg d 4 2
  let here := (im.gen d .leaves).pos / 256
  let target := if (im.door d).reverseFull || dist = 0 then openEnd else min openEnd (here + dist)
  im.startMove d .leaves .reversal target 0

/-- The first code that applies to a refused open request, by the order of R618; 0: none of them. -/
def Image.openRefusal (im : Image) (d : Door) (src : OpenSource) (timedOut : Bool) : Nat :=
  if src = .network && !bitOf (im.dreg d 2 3) 2 then 6
  else if timedOut then 5
  else if im.handle d then 4
  else if im.selective && !im.member d then 3
  else if !im.doorToken d then 2
  else if im.axisDisabled d || im.lockDisabled d || (im.door d).drain.isSome || (im.door d).moved || im.net.upd.windowAt.isSome then 1
  else 0

/-- A Released doorway takes an open request (T3, T4, R26). -/
def Image.takeOpen (im : Image) (d : Door) (src : OpenSource) : Image :=
  let im := im.onDoor d (fun w => { w with
    cycle := some { Cycle.start im.now src.code with selective := im.selective, switchover := w.takenOver }, retries := 0, stepRetries := 0,
    noStep := false, partialOpen := false })
  let im := (im.setDreg d 0x0D 3 (b2n (im.member d))).forgetBins d
  if im.stepFitted d && im.dreg d 6 1 != 0 then
    if im.roleTrue d 13 then
      (if im.dreg d 6 3 = 1 then
        (im.onDoor d (fun w => { w with noStep := true })).onCycle d (fun c => { c with noStep := true })
          |>.startOpening d
       else (im.onDoor d (fun w => { w with cycle := none })).enter d .locked)
    else (im.enter d .stepExtending).startMove d .step .stroke (im.areg (axisOf d 2) 6 1) (im.dreg d 6 4)
  else im.startOpening d

/-- An open request (R21, R618): accepted in Released, in Warning under T13, in Closing under T16; otherwise refused with
the first code that applies. -/
def Image.openRequest (im : Image) (d : Door) (src : OpenSource) (timedOut : Bool) : Image :=
  let w := im.door d
  let code := im.openRefusal d src timedOut
  if code ≠ 0 then im.result d code
  else match w.st with
    | .released => if im.doorPending d then im.result d 1 else (im.result d 0).takeOpen d src
    | .warning => if w.autoOnly then (im.result d 0).enterOpen d else im.result d 1
    | .closing =>
      if im.dreg d 4 6 = 1 then
        ((im.result d 0).toReversing d true).startMove d .leaves .reversal ((im.groupLimits d .leaves).openEnd) 0
      else im.result d 1
    | _ => im.result d 1

/-- An open request of an input or of auto-open: it is kept for a new active (R50). -/
def Image.ask (im : Image) (d : Door) (src : OpenSource) : Image :=
  (im.onDoor d (fun w => { w with asked := ((im.now, src) :: w.asked).take 8 })).openRequest d src false

/-- The light curtain holds an Open doorway (T11). -/
def Image.curtainHolds (im : Image) (d : Door) : Bool := im.dreg d 5 4 == 1 && im.roleTrue d 11

/-- A close request acts on the doorway's state (T8, T11, T29); where a transition has been taken in the frame, it is
evaluated again in the next (R18). -/
def Image.closeRequest (im : Image) (d : Door) (src : CloseSource) : Image :=
  let im := im.closeSeen d
  let w := im.door d
  let later := im.keepWish d (.close src)
  match w.st with
  | .opening => if w.moved then later else (im.brake d .leaves im.nextFrame false).enterWarning d src.code false
  | .opened =>
    if w.moved then later
    else if im.curtainHolds d then im.onDoor d (fun w => { w with closeHeld := some src })
    else im.enterWarning d src.code false
  | .warning =>
    if w.autoOnly then (im.onDoor d (fun w => { w with autoOnly := false })).onCycle d
      (fun c => { c with closeSrc := src.code, autoClosed := false })
    else im
  | .faultHeld =>
    if w.moved then later
    else if im.doorLatches d != 0 then im
    else
      (im.enterWarning d src.code false).onDoor d (fun w => { w with homing := true })
        |>.onCycle d (fun c => { c with homing := true })
  | _ => im

/-- The result of a close command (R618). -/
def closeResult : DState → Nat
  | .opening | .opened | .warning | .closing | .reversing | .faultHeld => 0
  | _ => 1

/-- A fault reset: the latches of the doorway whose condition is absent are released, and T30 (R581, R618). -/
def Image.faultReset (im : Image) (d : Door) : Image :=
  let im := doorLatched.foldl (fun im n => im.release n (doorScope d)) im
  let im := im.result d 0
  if (im.door d).st = .faultHeld && im.lockedProven d then
    if (im.door d).moved then im.keepWish d .faultReset else im.enterLocked d
  else im

/-! ## Steps of the cycle that the frame work decides -/

/-- The unlock has been proven: it is timed, and T10 no longer waits for it (R23). -/
def Image.unlockSeen (im : Image) (d : Door) : Image :=
  let w := im.door d
  let im := match w.timers.lockProving with
    | some f => (im.setDreg d 0x0B 2 (im.now - f)).onTimers d (fun t => { t with lockProving := none })
    | none => im
  im.onCycle d (fun c => { c with
    unlockProven := match c.unlockProven with | some f => some f | none => some im.now
    spoiled := c.spoiled || !im.allReferenced d })

/-- The leaves start (R25). -/
def Image.startLeaves (im : Image) (d : Door) : Image :=
  (im.onCycle d (fun c => { c with started := true })).startMove d .leaves .stroke ((im.groupLimits d .leaves).openEnd) (im.dreg d 3 1)

/-- The step is ready for the leaves of an Opening doorway (R25). -/
def Image.stepReady (im : Image) (d : Door) : Bool :=
  !im.stepFitted d || im.dreg d 6 1 == 0 || (im.door d).noStep || im.roleTrue d 9

/-- Locked is proven in Locking (T21): relock, and cycle close if a cycle is in progress; a doorway that no unlock has left
unlocked counts no relock (R432). -/
def Image.lockedSeen (im : Image) (d : Door) : Image :=
  let w := im.door d
  let im := im.setDreg d 0x0B 3 (im.now - w.lockChange)
  let had := im.inProgress d
  let im := (if im.unlocked d then im.decideAction (.relock d) else im).onCycle d (fun c => { c with
    lockedProven := if had then some im.now else none })
  if im.stepOut d && im.stepFitted d && !im.roleTrue d 10 then im.retractStep d else im.enterLocked d

/-- The token of the doorway's side has been withdrawn (R72): T2, T6, T8, T11. -/
def Image.tokenLost (im : Image) (d : Door) : Image :=
  match (im.door d).st with
  | .released => im.enter d .locked
  | .stepExtending => (im.onDoor d (fun w => { w with cycle := none })).retractStep d
  | .opening => ((im.brake d .leaves im.nextFrame false).ev36 d).enterWarning d CloseSource.tokenWithdrawn.code false
  | .opened => if im.curtainHolds d then im else (im.ev36 d).enterWarning d CloseSource.tokenWithdrawn.code false
  | _ => im

/-- An obstacle has been confirmed in Closing (T14, T15, R30): the reopen count rises before the comparison. -/
def Image.reverseForObstacle (im : Image) (d : Door) : Image :=
  let n := im.dreg d 1 5 + 1
  ((im.setDreg d 1 5 n).bumpD d 0x0E 7).toReversing d (decide (im.dreg d 4 1 ≤ n))

/-- Overlap point of the step (T5, mode 2): the share of its stroke it has travelled. -/
def Image.stepPastOverlap (im : Image) (d : Door) : Bool :=
  decide ((256 * (im.areg (axisOf d 2) 6 1 : Int)) * im.dreg d 6 2 ≤ 100 * (im.gen d .step).pos)

/-- T5: the step lets the unlock be decided. -/
def Image.stepAllows (im : Image) (d : Door) : Bool :=
  im.roleTrue d 9 || (im.dreg d 6 1 == 2 && im.stepPastOverlap d)

/-- The first locked proof after an unlock, in whatever state it occurs other than Locking (R432). -/
def Image.strayRelock (im : Image) (d : Door) : Image :=
  let w := im.door d
  if im.unlocked d && im.lockedProven d && !w.lockOn && w.st != .locking && !im.doorPending d then
    im.decideAction (.relock d)
  else im

/-! ## Rows of their own: the timers (R19, R20) -/

/-- T12. -/
def Image.warningElapsed (im : Image) (d : Door) : Image :=
  let w := im.door d
  if w.st = .warning && !w.moved && im.elapsed w.timers.warning (im.dreg d 7 1) then im.startClosing d else im

/-- T11 by the auto-close dwell (R29). -/
def Image.dwellExpired (im : Image) (d : Door) : Image :=
  let w := im.door d
  if w.st = .opened && !w.moved && !w.dwellSuspended && !im.inp.suspend && decide (im.dreg d 3 9 ≠ 0) &&
    im.elapsed w.timers.dwell (1000 * im.dreg d 3 9) && !im.curtainHolds d then
    im.enterWarning d CloseSource.autoClose.code true
  else im

/-- T20: the lock channels go off as Locking is entered (R33). -/
def Image.settleElapsed (im : Image) (d : Door) : Image :=
  let w := im.door d
  if w.st = .closedUnlocked && !w.moved && im.elapsed w.timers.settle (im.dreg d 3 6) then
    ((im.enter d .locking).lockOff d).onTimers d (fun t => { t with lock := some im.now })
  else im

/-- T10: unlock not proven in time. -/
def Image.lockProvingElapsed (im : Image) (d : Door) : Image :=
  let w := im.door d
  if w.st = .opening && !w.moved && im.elapsed w.timers.lockProving (im.dreg d 3 4) then
    let im := ((im.bumpD d 0x0B 4).latch 46 (doorScope d) ⟨0, 1, 0⟩ false).lockOff d
    let im := im.abandon d 3
    if im.stepOut d then im.retractStep d else im.enter d .locked
  else im

/-- T22: locked not proven in time. -/
def Image.lockElapsed (im : Image) (d : Door) : Image :=
  let w := im.door d
  if w.st = .locking && !w.moved && im.elapsed w.timers.lock (im.dreg d 3 5) then
    ((im.bumpD d 0x0B 4).latch 46 (doorScope d) ⟨0, 2, 0⟩ false).faultHold d 2
  else im

/-- T18: the re-close pause has elapsed. -/
def Image.pauseElapsed (im : Image) (d : Door) : Image :=
  let w := im.door d
  if w.st = .reversing && !w.moved && im.elapsed w.timers.pause (im.dreg d 4 3) then im.startClosing d else im

/-- The opening retry delay has elapsed: the interrupted motion resumes (R26, R27, R170). -/
def Image.retryElapsed (im : Image) (d : Door) : Image :=
  let w := im.door d
  if im.elapsed w.timers.retry (im.dreg d 4 4) then
    let im := (im.onTimers d (fun t => { t with retry := none })).onDoor d (fun w => { w with again := none })
    match w.st, w.again with
    | .opening, some .leaves => im.startMove d .leaves .resume ((im.groupLimits d .leaves).openEnd) 0
    | .opening, some .step | .stepExtending, some .step => im.startMove d .step .resume (im.areg (axisOf d 2) 6 1) 0
    | .reversing, some .leaves => im.startReversal d
    | .stepRetracting, some .step => im.startMove d .step .resume 0 0
    | _, _ => im
  else im

/-- T25 by a stroke timeout (R20). -/
def Image.strokeExpired (im : Image) (d : Door) (g : Group) : Image :=
  let w := im.door d
  let x := im.gen d g
  if w.st.moving && !w.moved && decide (x.strokeLimit ≠ 0) && (x.move.isSome || x.stallHeld) && decide (x.strokeLimit ≤ x.strokeUsed) then
    (im.latch 45 (doorScope d) ⟨(axisOf d (match g with | .leaves => 0 | .step => 2)).val + 1, 4, x.pos / 256⟩ false).faultHold d 4
  else im

/-- The homing timeout: 1.5 × the soft-limit span at 50,000 µm/s, in ms of wall time (R38). -/
def Image.homingBound (im : Image) (d : Door) : Nat :=
  let span := (im.asreg (axisOf d 0) 6 5 - im.asreg (axisOf d 0) 6 4).toNat
  3 * span * 1000 / (2 * 50000)

def Image.homingExpired (im : Image) (d : Door) : Image :=
  let w := im.door d
  if w.homing && !w.moved && im.elapsed w.timers.homing (im.homingBound d) then
    (im.latch 45 (doorScope d) ⟨0, 4, 0⟩ false).faultHold d 4
  else im

/-! ## Start-up -/

/-- The state of a doorway at start-up (R37, R42). -/
def Image.startUp (im : Image) (d : Door) : Image :=
  let ok := im.lockedProven d && im.stepIn d
  if !im.fitted d then
    (im.onDoor d (fun w => { w with st := .isolated, shown := .isolated, shownPrev := .isolated, prev := .isolated, since := im.now })).setDreg d 0x11 3 3
  else if im.dreg d 0x11 2 = 1 then
    let src := im.dreg d 0x11 3
    im.isolated d (if ok then 2 else 3) src 1 0
  else if im.dreg d 0x11 2 ≠ 0 then
    im.onDoor d (fun w => { w with st := .isolated, shown := .isolated, shownPrev := .isolated, prev := .isolated, since := im.now })
  else if ok then (im.onDoor d (fun w => { w with st := .locked, shown := .locked, shownPrev := .locked, prev := .locked, since := im.now })).setDreg d 0x10 3 0
  else (im.onDoor d (fun w => { w with st := .faultHeld, shown := .faultHeld, shownPrev := .faultHeld, prev := .faultHeld, since := im.now })).setDreg d 0x10 3 1

end Sys2Proof.Machine
end

