-- ==== Sys2Proof/Machine/AxisOps.lean ====
section
/-! DEFINITION. Movers under way: their generators and moves (R110, R116, R121), stalls and end stops (R125 to R128, R114),
trips, retries and the thermal latch (R131 to R134), disabling (R135, R136), obstacle stops and their reactions (R161 to
R171), jogs (R41, R144). -/

namespace Sys2Proof.Machine

/-- The group a mover belongs to. -/
def kGroup (k : Fin 3) : Group := if k = 2 then .step else .leaves

def axisGroup (a : Axis) : Group := kGroup (axisK a)

/-- The mover of an axis is fitted and its motor type is not "none" (R5). -/
def Image.axisUsed (im : Image) (a : Axis) : Bool := im.moverFitted (axisDoor a) (axisK a) && im.areg a 0 1 != 0

/-- The generator state of an axis's group. -/
def Image.axisGen (im : Image) (a : Axis) : Gen := im.gen (axisDoor a) (axisGroup a)

/-- Something is under way, or waits, on a generator. -/
def Gen.busy (w : Gen) : Bool := w.move.isSome || w.held.isSome || w.pending.isSome || !w.orders.isEmpty

/-- The generator that leads an axis: its own while that is busy, or the doorway is in Manual; else its group's. -/
def Image.leadGen (im : Image) (a : Axis) : Gen :=
  let x := im.axis a
  if x.solo.busy || (im.door (axisDoor a)).st = .manual then x.solo else im.axisGen a

/-- An axis leads itself. -/
def Image.leadsItself (im : Image) (a : Axis) : Bool :=
  (im.axis a).solo.busy || (im.door (axisDoor a)).st = .manual

/-- Change the generator that leads an axis. -/
def Image.onLead (im : Image) (a : Axis) (f : Gen → Gen) : Image :=
  if im.leadsItself a then im.onAxis a (fun x => { x with solo := f x.solo })
  else im.onGen (axisDoor a) (axisGroup a) f

/-- The move an axis follows. -/
def Image.axisMove (im : Image) (a : Axis) : Option Move :=
  if !im.axisUsed a then none
  else match (im.axis a).solo.move with
    | some m => some m
    | none => if (im.axis a).detached then none else (im.axisGen a).move

/-- An axis is moving: its own move, or its group's unless it has left it. -/
def Image.axisMoving (im : Image) (a : Axis) : Bool := (im.axisMove a).isSome

/-- The limits of an axis's own move: a jog at the jog speed without creep zones (R41), the way back to the shared
set-point at no more than the creep speed (R132). -/
def Image.ownLimits (im : Image) (a : Axis) : Limits :=
  let l := im.axisLimits a
  if (im.door (axisDoor a)).st = .manual then
    let v := im.dreg (axisDoor a) 0x12 4
    { l with vmax := v, creep := min l.creep v, zoneClosed := 0, zoneOpen := 0 }
  else { l with vmax := l.creep }

/-- What an axis's own move is planned with. -/
def Image.soloTerms (im : Image) (a : Axis) : Terms :=
  let l := im.ownLimits a
  ⟨l, match (im.axis a).solo.decLatched with | some v => v.toNat | none => l.dec, (im.axis a).referenced⟩

/-- What the generator that leads an axis is planned with. -/
def Image.leadTerms (im : Image) (a : Axis) : Terms :=
  if im.leadsItself a then im.soloTerms a else im.groupTerms (axisDoor a) (axisGroup a)

/-- The a_dec in force of an axis (A+1:0D): its own, or the one latched for the move it is on (R115, R123). -/
def Image.axisDec (im : Image) (a : Axis) : Nat :=
  match (im.leadGen a).decLatched with
  | some v => v.toNat
  | none => (im.axisLimits a).dec

/-- The movers of a group take up its set-point as a move begins; a move that goes on leaves those that have reached their
end stop where they are (R128). -/
def Image.join (im : Image) (d : Door) (g : Group) : Image :=
  (im.groupMovers d g).foldl (fun (im : Image) k => im.onAxis (axisOf d k) (fun a => { a with
    detached := false, atEnd := none, zoneHold := false, homeStall := none, shorted := false
    force := { a.force with exceed := 0, stall := 0 } })) im

/-! ## Retargets and limits -/

/-- A mover of the doorway is held up by a trip: a retry due or under way, a latch, its way back to the set-point (R132,
R140). -/
def Image.heldUp (im : Image) (d : Door) : Bool :=
  (allFin 3).any (fun k =>
    let x := im.axis (axisOf d k)
    im.axisUsed (axisOf d k) && (x.guard.latched || x.guard.thermal || x.guard.retryDue.isSome || x.guard.reacquire.isSome ||
      ((im.door d).st != .manual && x.solo.busy)))

/-- A stop is complete: the target that waited for it is planned from standstill by the slice (R121). It waits while the Belt
is at level 3 (R138), and while a mover of the doorway is held up. -/
def Image.retargetDone (im : Image) (d : Door) (g : Group) : Image :=
  if decide (im.belt.level < 3) && !im.heldUp d then
    let w := im.gen d g
    let im := match w.pending with
      | some t => if w.atRest then (im.join d g).onGen d g (fun w => w.begin (im.groupTerms d g) t) else im
      | none => im
    (im.groupMovers d g).foldl (fun (im : Image) k =>
      let a := axisOf d k
      let x := im.axis a
      match x.solo.pending with
      | some t => if x.solo.atRest then im.onAxis a (fun x => { x with solo := x.solo.begin (im.soloTerms a) t }) else im
      | none => im) im
  else im

/-- A limit in force of an axis has changed from what it was in `old` (R115, R122): it reaches the generators at stitch 0 of
the next frame. -/
def Image.limitsChanged (im old : Image) (a : Axis) : Image :=
  let d := axisDoor a
  let g := axisGroup a
  let tell := fun (w : Gen) (c : Terms) => if w.move.isSome then w.order im.nextFrame (.limits c.plan) else w
  let im := if (old.groupTerms d g).plan = (im.groupTerms d g).plan then im else im.onGen d g (fun w => tell w (old.groupTerms d g))
  if (old.soloTerms a).plan = (im.soloTerms a).plan then im
  else im.onAxis a (fun x => { x with solo := tell x.solo (old.soloTerms a) })

/-- A lowered a_dec is not applied to a move: EV62, counted for the movers it concerns (R123). -/
def Image.decelerationHeld (im : Image) (d : Door) (ks : List (Fin 3)) (dec : Int) : Image :=
  match ks with
  | [] => im
  | k :: _ => (ks.foldl (fun (im : Image) k => im.bumpA (axisOf d k) 6 7) im).occur 62 (doorScope d) ⟨(axisOf d k).val + 1, 2, dec⟩

/-! ## End stops and stalls -/

/-- The closed-end input of a mover: role 2, 3 or 10 (R114). -/
def closedRole (k : Fin 3) : Nat :=
  match k with
  | 0 => 2
  | 1 => 3
  | 2 => 10

/-- An end switch must follow its mover (R286): the input of a role is to read true within the make time. -/
def Image.expectRole (im : Image) (d : Door) (r : Nat) : Image :=
  (allFin 12).foldl (fun im n => if im.role d n == r && !im.di d n then
    im.onDoor d (fun w => { w with dis := upd w.dis n (fun y => { y with expect := some im.now, want := true }) }) else im) im

/-- A generator ends where it stands, at a set-point. -/
def Gen.stopAt (w : Gen) (pos : Int) : Gen :=
  { w with
    pos := pos, vel := 0, acc := 0, move := none, held := none, decLatched := none
    orders := w.orders.filter (fun p => !p.2.isStop) }

/-- The end stop of R128: the move ends for the mover, its position is set, the correction kept, the axis referenced. -/
def Image.endStop (im : Image) (a : Axis) (openEnd : Bool) : Image :=
  let d := axisDoor a
  let g := axisGroup a
  let value : Int := if openEnd then im.areg a 6 1 else 0
  let x := im.axis a
  let im := im.setAsreg a 3 6 (x.plant.pos - value)
  let im := im.onAxis a (fun x => { x with
    referenced := true, slip := false, detached := true, atEnd := some openEnd, sp := 256 * value
    solo := x.solo.stopAt (256 * value), homeStall := none, origin := x.origin.map (· + (x.plant.pos - value))
    plant := { x.plant with pos := value }, force := { x.force with stall := 0, exceed := 0 } })
  let im := if (im.groupMovers d g).all (fun k => (im.axis (axisOf d k)).detached) then
      im.onGen d g (fun w => w.stopAt (256 * value))
    else im
  im.expectRole d (if openEnd then 9 else closedRole (axisK a))

/-- The end zone a position lies in, of the end being approached (R126). -/
def Image.inEndZone (im : Image) (a : Axis) (toOpen : Bool) : Bool :=
  let p := (im.axis a).plant.pos
  if toOpen then decide ((im.areg a 6 1 : Int) - im.areg a 6 3 ≤ p) else decide (p ≤ im.areg a 6 2)

/-- The lock zone of a leaf (R32, R160). -/
def Image.inLockZone (im : Image) (a : Axis) : Bool :=
  axisK a ≠ 2 && decide ((im.axis a).plant.pos ≤ im.dreg (axisDoor a) 5 2)

/-! ## Obstacles -/

/-- An obstacle is active on a doorway: from the stitch after its confirmation until the reaction has started its next move
or the doorway has left the state, a reversal apart (R170). -/
def Image.obstacleActive (im : Image) (d : Door) : Bool :=
  let w := im.door d
  [w.leaves, w.step].any (fun g => match g.obstacle with
    | some (_, f, s) => decide (16 * f + s < 16 * im.now + im.clk.stitch) && (decide (w.since ≤ f) || w.st = .reversing)
    | none => false)

/-- The phase code of an obstacle entry (R171). -/
def Image.obstaclePhase (im : Image) (a : Axis) : Nat :=
  let d := axisDoor a
  let w := im.door d
  if w.st = .manual then 8
  else if w.homing then 7
  else if axisK a = 2 then (match im.axisMove a with | some m => if m.toOpen then 5 else 6 | none => if w.st = .stepExtending then 5 else 6)
  else
    let closing := if im.inLockZone a then 3 else 2
    match w.st with
    | .closing => closing
    | .reversing => match im.axisMove a with
      | some m => if m.toOpen then 4 else closing
      | none => 4
    | .opening => 1
    | _ => 2

/-- The motion an obstacle meets runs toward closed: it counts in B+0x0E:08 and EV40, else in B+0x0E:09 and EV41
(R170). -/
def Image.obstacleClosing (im : Image) (a : Axis) : Bool :=
  match im.obstaclePhase a with
  | 2 | 3 | 6 | 7 => true
  | 8 => (match im.axisMove a with | some m => !m.toOpen | none => true)
  | _ => false

/-- The force limit of R165, N. -/
def Image.lockZoneCap (im : Image) (d : Door) : Int := im.dsreg d 5 3

/-- What an obstacle entry takes from the axis that confirmed it (R171): position, force, threshold. -/
structure Hit where
  pos : Int
  force : Int
  thr : Int
deriving DecidableEq, Repr

/-- The values of a source at its first exceeding stitch; for the curtain and for a lost estimate, those of now. -/
def AxisState.hit (x : AxisState) : Nat → Hit
  | 1 => ⟨x.force.firstPos, x.force.firstForce, x.force.firstThr⟩
  | 2 | 3 => ⟨x.force.prevPos, x.force.prevForce, 0⟩
  | 5 => ⟨x.force.stallPos, x.force.stallForce, x.force.stallThr⟩
  | _ => ⟨x.plant.pos, x.force.shown, 0⟩

/-- A doorway drains, and a motion met an obstacle in the drain, not before it (R52, R617). -/
def Doorway.drainMet (w : Doorway) (frame : Nat) : Bool :=
  match w.drain with
  | some x => decide (x.frame ≤ frame) && w.st.moving
  | none => false

/-- An obstacle is confirmed (R161, R163, R168, R169): one obstacle stop for every mover of the doorway, one entry in the
cycle record, its count and its event. The stop begins in the next stitch, or for a finding of the frame work at stitch 0
of the next frame (`due`). During an obstacle stop or the hold after it nothing is added. -/
def Image.obstacle (im : Image) (a : Axis) (source : Nat) (h : Hit) (due : Option Nat) : Image :=
  let d := axisDoor a
  let g := axisGroup a
  let w := im.door d
  if w.leaves.obstacle.isSome || w.step.obstacle.isSome then im
  else
    let closing := im.obstacleClosing a
    let reduced := match w.cycle with | some c => c.edgeFault | none => false
    let e : ObstacleEntry := ⟨im.obstaclePhase a, source, a.val + 1, h.pos, h.force, if reduced then im.lockZoneCap d else h.thr,
      match w.cycle with | some c => im.now - c.accepted | none => 0⟩
    let im := im.onCycle d (fun c => { c with obstacles := (c.obstacles ++ [e]).reverse.take 4 |>.reverse, spoiled := true })
    let drained := w.drainMet im.now
    let im := if w.st = .manual then im else im.bumpD d 0x0E (if closing || drained then 8 else 9)
    let im := if drained then im else im.occur (if closing then 40 else 41) (doorScope d) ⟨a.val + 1, source, h.pos⟩
    let im := if source = 1 then im.bumpA a 4 0x0E else if source = 2 || source = 3 then im.bumpA a 4 0x0D else im
    let dec := im.dreg d 5 7
    let stop := fun (w : Gen) =>
      match w.move with
      | some _ => w.order due (.obstacle dec (!closing))
      | none => { w with pending := none, held := none, orders := [] }
    let im := ((im.onGen d .leaves stop).onGen d .step stop).onGen d g (fun w => { w with
      obstacle := some (source, im.now, if due.isSome then 15 else im.clk.stitch), slow := 0, reactionDue := true, stopEnded := false })
    let im := if w.st = .manual then im.onDoor d (fun w => { w with jogBlocked := true }) else im
    (allFin 3).foldl (fun im k => im.onAxis (axisOf d k) (fun x => { x with
      solo := stop x.solo, zoneHold := false, homeStall := none, force := { x.force with exceed := 0, stall := 0, cmp := 5 } })) im

/-- An obstacle of a doorway is dealt with: nothing of it is left but its direction limit. -/
def Image.obstacleDone (im : Image) (d : Door) : Image :=
  (im.onGen d .leaves Gen.obstacleOver).onGen d .step Gen.obstacleOver

/-- The reaction to an obstacle has begun: the movers are held until its next move starts (R169, R170). -/
def Image.reactionBegun (im : Image) (d : Door) (g : Group) : Image :=
  im.onGen d g (fun w => { w with reactionDue := false, stopEnded := false, slow := 0 })

/-- A retry of the interrupted motion is due after the opening retry delay: at once after the stop, or after a relief
move toward `x`; with no retry left the doorway gives up after the relief move (R26, R27, R170). -/
def Image.retryAfter (im : Image) (d : Door) (g : Group) (relief : Option Int) (giveUp : Bool) : Image :=
  let im := (im.reactionBegun d g).onDoor d (fun w => { w with again := some g, giveUp := giveUp })
  match relief with
  | some x => im.startMove d g .relief x 0
  | none => im.onTimers d (fun t => { t with retry := some im.now })

/-- A step fault (R26): extension gives up. In Opening, where the unlock has been decided, T25 stands in for the
retraction (DESIGN CHOICE). -/
def Image.stepFault (im : Image) (d : Door) : Image :=
  let im := im.latch 50 (doorScope d) ⟨(axisOf d 2).val + 1, 0, 0⟩ false
  let flagged := fun (im : Image) => (im.onDoor d (fun w => { w with noStep := true })).onCycle d (fun c => { c with noStep := true })
  if (im.door d).st = .opening then
    if im.dreg d 6 3 = 1 then flagged im else im.faultHold d 5
  else if im.dreg d 6 3 = 1 then (flagged im).startOpening d
  else (im.onDoor d (fun w => { w with cycle := none })).retractStep d

/-- The retries of a motion are used up and its relief move has ended: T9, the step fault of R26, or T24. -/
def Image.retriesOver (im : Image) (d : Door) (g : Group) : Image :=
  let im := (im.obstacleDone d).onDoor d (fun w => { w with again := none, giveUp := false })
  match (im.door d).st, g with
  | .opening, .leaves => (im.enterOpen d).onDoor d (fun w => { w with partialOpen := true })
  | .opening, .step | .stepExtending, _ => im.stepFault d
  | .stepRetracting, _ =>
    (im.latch 50 (doorScope d) ⟨(axisOf d 2).val + 1, 5, (im.gen d .step).pos / 256⟩ false).faultHold d 5
  | _, _ => im

/-- A relief move has ended: the mover is held for the opening retry delay, or the doorway gives up (R20, R26, R27, R170). -/
def Image.reliefEnd (im : Image) (d : Door) : Image :=
  let w := im.door d
  match w.again with
  | some g =>
    if w.timers.retry.isNone && (im.gen d g).atRest && !(im.gen d g).reactionDue then
      if !w.giveUp then im.onTimers d (fun t => { t with retry := some im.now })
      else if w.moved then im
      else im.retriesOver d g
    else im
  | none => im

/-- The obstacle stop has ended: the reaction of R170 by the doorway's state. In Closing it waits for T14 or T15; where the
reaction is a transition and one has been taken in the frame, it waits for the next (R16). -/
def Image.obstacleReaction (im : Image) (d : Door) (g : Group) : Image :=
  let w := im.door d
  let x := im.gen d g
  let relief := (im.dreg d 5 8 : Int)
  let here := x.pos / 256
  let limit := im.dreg d 4 5
  let met := match x.obstacle with | some (_, f, _) => f | none => 0
  let wait := im.onGen d g (fun w => { w with stopEnded := true })
  let again := fun (im : Image) (x : Option Int) (giveUp : Bool) => im.retryAfter d g x giveUp
  if w.drainMet met then (if w.moved then wait else (im.obstacleDone d).drainHeld d)
  else if w.homing && w.st.moving then (if w.moved then wait else (im.obstacleDone d).faultHold d 9)
  else match w.st, g with
    | .closing, .leaves => if x.obstacleSince w.since then wait else im.obstacleDone d
    | .reversing, .leaves =>
      if x.dirLimit != some true then (im.reactionBegun d g).startReversal d
      else if w.reverseRetries < limit then
        again (im.onDoor d (fun w => { w with reverseRetries := w.reverseRetries + 1 })) none false
      else im.obstacleDone d
    | .opening, .leaves =>
      again (im.onDoor d (fun w => { w with retries := min limit (w.retries + 1) })) (some (max 0 (here - relief)))
        (decide (limit ≤ w.retries))
    | .opening, .step | .stepExtending, .step =>
      again (im.onDoor d (fun w => { w with stepRetries := min limit (w.stepRetries + 1) })) (some (max 0 (here - relief)))
        (decide (limit ≤ w.stepRetries))
    | .stepRetracting, .step =>
      again (im.onDoor d (fun w => { w with stepRetries := min limit (w.stepRetries + 1) }))
        (some (min (im.areg (axisOf d 2) 6 1) (here + relief))) (decide (limit ≤ w.stepRetries))
    | .manual, _ => im.reactionBegun d g
    | _, _ => im.obstacleDone d

/-- The generator whose obstacle stop runs. -/
def Image.obstacleGroup (im : Image) (d : Door) : Option Group :=
  if (im.door d).leaves.reactionDue && (im.door d).leaves.obstacle.isSome then some .leaves
  else if (im.door d).step.reactionDue && (im.door d).step.obstacle.isSome then some .step
  else none

/-- Every set-point of a doorway is at rest. -/
def Image.doorAtRest (im : Image) (d : Door) : Bool :=
  (im.door d).leaves.atRest && (im.door d).step.atRest &&
    (allFin 3).all (fun k => !im.axisUsed (axisOf d k) || (im.axis (axisOf d k)).solo.atRest)

/-- Every fitted mover of a doorway is slower than 2,000 µm/s (R169). -/
def Image.doorSlow (im : Image) (d : Door) : Bool :=
  (allFin 3).all (fun k => !im.axisUsed (axisOf d k) || decide ((im.axis (axisOf d k)).plant.vel.natAbs < 2000))

/-- The obstacle stop's end (R169): the set-point at rest and every mover slow for 8 stitches. -/
def Image.obstacleStopOver (im : Image) (d : Door) (g : Group) : Bool :=
  im.obstacleGroup d == some g && im.doorAtRest d && decide (8 ≤ (im.gen d g).slow)

/-- 300 ms after the first braking stitch (R169). -/
def Image.obstacleStopLate (im : Image) (d : Door) (g : Group) : Bool :=
  match (im.gen d g).obstacle with
  | some (_, f, s) => (im.gen d g).reactionDue && decide (16 * f + s + 1 + 300 * 16 ≤ 16 * im.now + im.clk.stitch)
  | none => false

/-- The stop's end at its time limit: movers still moving are put into coils shorted (R169). -/
def Image.shortMovers (im : Image) (d : Door) : Image :=
  let still := fun (w : Gen) => { w with move := none, vel := 0, acc := 0 }
  let im := (im.onGen d .leaves still).onGen d .step still
  (allFin 3).foldl (fun (im : Image) k => im.onAxis (axisOf d k) (fun x => { x with
    solo := still x.solo, shorted := x.shorted || decide (2000 ≤ x.plant.vel.natAbs) })) im

/-! ## Obstacle sources -/

def Doorway.edge (w : Doorway) : Edge → EdgeState
  | .ea => w.ea
  | .eb => w.eb

/-- The assignment of an edge (B+0x0A:01, :02): 0 unused, 1 leaf 1, 2 leaf 2, 3 both leaves, 4 step. -/
def Image.edgeAssigned (im : Image) (d : Door) : Edge → Nat
  | .ea => im.dreg d 0x0A 1
  | .eb => im.dreg d 0x0A 2

/-- An edge is assigned to a mover. -/
def Image.edgeOf (im : Image) (a : Axis) (e : Edge) : Bool :=
  let n := im.edgeAssigned (axisDoor a) e
  match axisK a with
  | 0 => n == 1 || n == 3
  | 1 => n == 2 || n == 3
  | 2 => n == 4

/-- An edge assigned to a mover reads open or fault: its closing current is limited (R165). -/
def Image.edgeLimited (im : Image) (a : Axis) : Bool :=
  [Edge.ea, Edge.eb].any (fun e =>
    let r := ((im.door (axisDoor a)).edge e).reading
    (r == 2 || r == 3) && im.edgeOf a e)

/-- A pressed edge acts on a mover (R160, R163, R164): enabled, assigned to it, the mover moving toward closed — a step
either way, but for a jog — and its closed input not true. -/
def Image.edgeActs (im : Image) (a : Axis) (e : Edge) : Bool :=
  let d := axisDoor a
  let k := axisK a
  let moving := match im.axisMove a with
    | some m => (k = 2 && (im.door d).st != .manual) || !m.toOpen
    | none => false
  bitOf (im.dreg d 5 1) (match e with | .ea => 1 | .eb => 2) && ((im.door d).edge e).reading == 1 && im.edgeOf a e && moving &&
    (k = 2 || !im.roleTrue d (closedRole k))

/-- The light curtain acts on a leaf (R160, R166): enabled, interrupted in the image, the leaf moving toward closed
outside the lock zone or homing; not in a jog. -/
def Image.curtainActs (im : Image) (a : Axis) : Bool :=
  let d := axisDoor a
  let closing := match im.axisMove a with
    | some m => !m.toOpen
    | none => false
  bitOf (im.dreg d 5 1) 3 && im.roleTrue d 11 && closing && axisK a ≠ 2 && (im.door d).st != .manual &&
    ((im.door d).homing || !im.inLockZone a)

/-- The source codes of R171. -/
def sourceCode : ObstacleSource → Nat
  | .estimator => 1
  | .ea => 2
  | .eb => 3
  | .curtain => 4
  | .stall => 5

/-- A source confirms an obstacle on an axis (R159, R163, R166); a stall is confirmed by its own command (R167). -/
def Image.obstacleBy (im : Image) (a : Axis) : ObstacleSource → Bool
  | .estimator => decide (2 ≤ (im.axis a).force.exceed) && im.axisMoving a
  | .ea => im.edgeActs a .ea
  | .eb => im.edgeActs a .eb
  | .curtain => im.curtainActs a
  | .stall => false

/-- The mover and the source of the lowest code that confirm on a doorway in this stitch (R161); `a` and `src` where none
has a lower one. -/
def Image.lowestSource (im : Image) (a : Axis) (src : ObstacleSource) : Axis × ObstacleSource :=
  let lower := [ObstacleSource.estimator, .ea, .eb].filter (fun s => decide (sourceCode s < sourceCode src))
  ((lower.flatMap (fun s => (allFin 3).map (fun k => (axisOf (axisDoor a) k, s)))).find? (fun p =>
    im.axisUsed p.1 && im.obstacleBy p.1 p.2)).getD (a, src)

/-- An obstacle confirmed by a source on an axis, handled as one with what else confirms in the stitch (R161). One that the
frame work judges begins at stitch 0 of the next frame (R166). -/
def Image.obstacleFrom (im : Image) (a : Axis) (src : ObstacleSource) : Image :=
  let p := im.lowestSource a src
  let code := sourceCode p.2
  im.obstacle p.1 code ((im.axis p.1).hit code) (if p.2 = .curtain then im.nextFrame else none)

/-! ## Stalls -/

/-- A homing stall whose closed-end input does not yet read true: the mover is held where it stalled (R114). -/
def Image.homingWait (im : Image) (a : Axis) : Image :=
  let d := axisDoor a
  let g := axisGroup a
  let im := im.onAxis a (fun x => { x with
    homeStall := some im.now, detached := true, sp := 256 * x.plant.pos })
  if (im.groupMovers d g).all (fun k => (im.axis (axisOf d k)).detached) then
    im.onGen d g (fun w => w.stopAt (256 * (im.axis a).plant.pos))
  else im

/-- A set-point is held where it stands by a stall in the lock zone; a stop that leads to another target ends here (R126,
R139). The rest of the move will be time-optimal. -/
def Gen.zoneHeld (w : Gen) (m : Move) : Gen :=
  { w with
    held := if w.pending.isSome then none
      else some ⟨{ (match w.held with | some h => h.aim | none => m.aim w.strokeLimit) with durMs := 0 }, .stall⟩
    move := none, vel := 0, acc := 0 }

def Image.zoneStall (im : Image) (a : Axis) (m : Move) : Image :=
  (im.onLead a (fun w => w.zoneHeld m)).onAxis a (fun x => { x with zoneHold := true })

/-- The plan of a move moved along by a distance. -/
def Move.shift (m : Move) (x : Int) : Move :=
  { m with start := m.start + x, target := m.target + x, segs := m.segs.map (fun s => { s with p0 := s.p0 + x }) }

/-- The set-point is resynchronised to the estimate and the move goes on (R126): a stop keeps its course, any other move is
replanned to its target. -/
def Gen.resync (w : Gen) (c : Terms) (pos : Int) : Gen :=
  match w.move with
  | none => { w with pos := pos }
  | some m =>
    if m.kind.isStop then { w with pos := pos, move := some (m.shift (pos - w.pos)) }
    else ({ w with pos := pos }).replan m c.plan c.referenced none

/-- A stall confirmed on an axis, classed (R114, R126). -/
def Image.stallClass (im : Image) (a : Axis) : Image :=
  let d := axisDoor a
  match im.axisMove a with
  | none => im
  | some m =>
    let toOpen := m.toOpen
    let src : Source := ⟨a.val + 1, 0, (im.axis a).plant.pos⟩
    let im := im.onCycle d (fun c => { c with spoiled := true })
    if m.kind = .homing || ((im.door d).homing && (im.door d).st.moving && m.kind.isStop) then
      if im.roleTrue d (closedRole (axisK a)) then im.endStop a false else im.homingWait a
    else if im.inEndZone a toOpen then im.endStop a toOpen
    -- during an obstacle stop or the hold after it nothing is added (R161)
    else if bitOf (im.dreg d 5 1) 4 && (im.obstacleGroup d).isSome then im
    else
      let im := im.bumpA a 3 9
      if !toOpen && im.inLockZone a && m.kind != .obstacleStop then im.zoneStall a m
      else
        let im := im.occur 44 (doorScope d) src
        if bitOf (im.dreg d 5 1) 4 then im.obstacleFrom a .stall
        else
          let c := im.leadTerms a
          let pos := 256 * (im.axis a).plant.pos
          (im.onLead a (fun w => w.resync c pos)).onAxis a (fun x => { x with sp := pos })

/-- A homing stall is judged (R114): the closed end, when the closed-end input reads true within the make time; else an
obstacle with source 5, whatever bit 4 of B+0x05:01 holds. -/
def Image.homingJudge (im : Image) (a : Axis) : Image :=
  let d := axisDoor a
  match (im.axis a).homeStall with
  | none => im
  | some f =>
    if im.roleTrue d (closedRole (axisK a)) then im.endStop a false
    else if f + im.dreg d 9 0x1A ≤ im.now then
      (im.onAxis a (fun x => { x with homeStall := none })).obstacleFrom a .stall
    else im

/-- The load angle limit of a stall (R125). -/
def Image.stallLimit (im : Image) (a : Axis) : Nat := if im.areg a 0 1 = 2 then im.areg a 5 5 else im.areg a 5 4

/-- The load angle has fallen below half the limit: the rest of the closing move goes on, time-optimally, with its stroke
timeout (R126); after level 3 where the Belt is there. -/
def Image.zoneRelease (im : Image) (a : Axis) : Image :=
  let d := axisDoor a
  if (im.axis a).zoneHold && decide (2 * (im.axis a).plant.angle.natAbs < im.stallLimit a) then
    let im := im.onAxis a (fun x => { x with zoneHold := false })
    if !im.leadsItself a && (im.groupMovers d .leaves).any (fun k => (im.axis (axisOf d k)).zoneHold) then im
    else
      let c := im.leadTerms a
      im.onLead a (fun w => match w.held with
        | some h =>
          if h.cause != .stall then w
          else if 3 ≤ im.belt.level then { w with held := some { h with cause := .belt } }
          else w.resume c h.aim
        | none => w)
  else im

/-! ## Trips, latches, disabling -/

/-- A tripped mover coasts: its bridges are off, or on at zero current while the rotor angle is reacquired (R131, R132). No
stall, slip or obstacle is found on it (DEDUCED). -/
def Image.coasting (im : Image) (a : Axis) : Bool :=
  let x := im.axis a
  x.guard.retryDue.isSome || x.guard.latched || x.guard.reacquire.isSome

/-- The generator of a mover that coasts alone ends where it stands; the move it made is to go on where `keep`. -/
def Gen.cut (w : Gen) (keep : Bool) : Gen :=
  { w with held := if keep then w.tripped else none, pending := none, move := none, vel := 0, acc := 0, orders := [] }

/-- T25 in a moving state, unless a transition has been taken in the frame: then the frame work takes it (R16). -/
def Image.faultNow (im : Image) (d : Door) (cause : Nat) : Image :=
  if (im.door d).st.moving && !(im.door d).moved then im.faultHold d cause else im

/-- A trip in hardware (R131): every mover of the doorway stops through its generator, the tripped one coasts; with no retry
left the axis latches (R132). -/
def Image.overcurrentTrip (im : Image) (a : Axis) : Image :=
  let d := axisDoor a
  let g := axisGroup a
  let left := min (im.areg a 5 9) (im.areg a 5 7)
  let keep := decide (left ≠ 0)
  let im := (im.bumpA a 5 0x0D).occur 51 (doorScope d) ⟨a.val + 1, 1, (im.axis a).plant.current⟩
  let im := im.onCycle d (fun c => { c with spoiled := true })
  let alone := (im.groupMovers d g).length = 1
  let im := im.onAxis a (fun x => { x with solo := x.solo.cut keep, drive := { x.drive with applied := bridgesOpen, loaded := bridgesOpen } })
  let im := if alone then im.onGen d g (fun w => w.cut keep) else im
  let solo := (im.axis a).solo
  let gen := im.gen d g
  let im := (im.brakeDoor d none keep).onAxis a (fun x => { x with
    solo := solo, guard := { x.guard with clean := 0, reacquire := none, retryDue := none, rejoin := false } })
  let im := if alone then im.onGen d g (fun _ => gen) else im
  if keep then im.onAxis a (fun x => { x with guard := { x.guard with retryDue := some (im.now + im.areg a 5 8) } })
  else
    let im := (im.onAxis a (fun x => { x with guard := { x.guard with latched := true } })).setAreg a 5 0x0C
      (setBit (im.areg a 5 0x0C) 0 true)
    im.faultNow d 6

/-- A retry falls due (R132, R134): the bridges come on at zero current and the rotor angle is reacquired. -/
def Image.axisRetry (im : Image) (a : Axis) : Image :=
  let x := im.axis a
  match x.guard.retryDue with
  | none => im
  | some f =>
    if x.guard.latched || decide (im.now < f) then im
    else if x.guard.thermal then
      (im.onAxis a (fun x => { x with guard := { x.guard with retryBehind := true } })).setAreg a 5 0x0C
        (setBit (im.areg a 5 0x0C) 2 true)
    else
      let im := im.setAreg a 5 9 (min (im.areg a 5 9) (im.areg a 5 7) - 1)
      im.onAxis a (fun x => { x with
        guard := { x.guard with retryDue := none, reacquire := some im.now }
        force := { x.force with mode := 0, modeStitches := 0, valid := false } })

/-- After a retry, once the estimate is valid or 50 ms have passed (R132): a lone mover's set-point takes its estimated
position; on a bi-parting doorway the tripped leaf is first brought to the shared set-point at no more than the creep
speed. The interrupted move then waits to be resumed. A jog goes on from the axis's own estimate. -/
def Image.axisResume (im : Image) (a : Axis) : Image :=
  let x := im.axis a
  match x.guard.reacquire with
  | none => im
  | some f =>
    if x.force.valid || decide (f + 50 ≤ im.now) then
      let d := axisDoor a
      let g := axisGroup a
      let here := 256 * x.plant.pos
      let im := im.onAxis a (fun x => { x with
        sp := here, solo := { x.solo with pos := here }, guard := { x.guard with reacquire := none, rejoin := true } })
      if (im.door d).st = .manual then im
      else if (im.groupMovers d g).length = 1 then im.onGen d g (fun w => { w with pos := here })
      else
        let shared := (im.gen d g).pos
        im.onAxis a (fun x => { x with solo := x.solo.send im.nextFrame ⟨.approach, shared / 256, 0, 0⟩ })
    else im

/-- A generator takes up again the move that a trip interrupted. -/
def Gen.takeUp (w : Gen) (due : Option Nat) (go : Bool) : Gen :=
  match w.held with
  | some h =>
    if h.cause != .trip then w
    else if go then ({ w with held := none }).send due { h.aim with kind := if h.aim.kind = MoveKind.jog then MoveKind.jog else .resume }
    else { w with held := none }
  | none => w

/-- The interrupted moves of a doorway resume for all its movers under R119 (R132, R140). -/
def Image.doorResume (im : Image) (d : Door) : Image :=
  let w := im.door d
  let due := (allFin 3).any (fun k => (im.axis (axisOf d k)).guard.rejoin)
  if !due || im.heldUp d || !im.doorAtRest d || decide (3 ≤ im.belt.level) then im
  else
    let go := w.st.moving || w.st == .manual
    let up := fun (w : Gen) => w.takeUp im.nextFrame go
    (allFin 3).foldl (fun (im : Image) k => im.onAxis (axisOf d k) (fun x => { x with
      solo := up x.solo, guard := { x.guard with rejoin := false } })) ((im.onGen d .leaves up).onGen d .step up)

/-- The retries of a frame: resynchronised axes, then doorways whose moves go on. -/
def Image.resumeTrips (im : Image) : Image :=
  (im.eachAxis Image.axisResume).eachDoor Image.doorResume

/-- A frame of enabled operation without a trip (R132). -/
def Image.countClean (im : Image) (a : Axis) : Image :=
  let x := im.axis a
  if im.axisUsed a && !x.disabled && !x.guard.thermal && !im.coasting a then
    im.onAxis a (fun x => { x with guard := { x.guard with clean := min 10000 (x.guard.clean + 1) } })
  else im

/-- The retries return to the limit after 10 s of enabled operation without a trip (R132). -/
def Image.axisRetryRestore (im : Image) (a : Axis) : Image :=
  if 10000 ≤ (im.axis a).guard.clean then im.setAreg a 5 9 (im.areg a 5 7) else im

/-- The thermal latch sets (R133): the axis stops under braking. -/
def Image.thermalLatch (im : Image) (a : Axis) : Image :=
  let x := im.axis a
  let d := axisDoor a
  let hotMotor := decide (im.dreg d 0x16 (9 + (axisK a).val) ≠ 0) &&
    (if x.thermFault = 0 then decide (im.asreg a 5 0x0A < x.therm) else im.dreg d 0x16 0x0C == 1)
  let hotBridge := decide (1500 < x.plant.bridgeTemp)
  if !im.axisUsed a || x.guard.thermal || !(hotMotor || hotBridge) then im
  else
    let im := im.onAxis a (fun x => { x with guard := { x.guard with thermal := true, coolSince := none } })
    let im := im.setAreg a 5 0x0C (setBit (im.areg a 5 0x0C) 1 true)
    let im := im.raise 52 (doorScope d) ⟨a.val + 1, if hotMotor then 1 else 2, if hotMotor then x.therm else x.plant.bridgeTemp⟩
    ((im.brake d (axisGroup a) none false).brakeSolo a none false).faultNow d 7

/-- The thermal latch clears by itself (R133); a retry that was due is attempted A+5:08 later (R134). -/
def Image.thermalClear (im : Image) (a : Axis) : Image :=
  let x := im.axis a
  let d := axisDoor a
  if x.guard.thermal && im.elapsed x.guard.coolSince 5000 then
    let due := if x.guard.retryBehind then some (im.now + im.areg a 5 8) else x.guard.retryDue
    let im := im.onAxis a (fun x => { x with guard := { x.guard with
      thermal := false, coolSince := none, retryBehind := false, retryDue := due } })
    let im := im.setAreg a 5 0x0C (setBit (setBit (im.areg a 5 0x0C) 1 false) 2 false)
    let still := (allFin 3).any (fun k => (im.axis (axisOf d k)).guard.thermal)
    im.clearItem 52 (doorScope d) ⟨a.val + 1, 0, x.therm⟩ still
  else im

/-- The states of the doorway in which an axis may be disabled (R135). -/
def DState.axisMayStop : DState → Bool
  | .locked | .released | .faultHeld | .emergency | .isolated | .manual => true
  | _ => false

/-- The axis is now disabled, with a drain outcome of A+2:08: 1 drained, 2 drained-stopped, 3 forced. -/
def Image.axisStop (im : Image) (a : Axis) (outcome : Nat) : Image :=
  (im.onAxis a (fun x => { x with disabled := true, drain := none })).setAreg a 2 8 outcome

/-- A normal disable of an axis (R9, R135): a move in flight, in Manual, is brought to a stop within the drain bound. -/
def Image.axisDisableCmd (im : Image) (a : Axis) : Image :=
  let x := im.axis a
  if x.disabled || x.drain.isSome then im
  else if im.axisMoving a || im.recordsPending (doorScope (axisDoor a)) then
    (im.onAxis a (fun x => { x with drain := some ⟨im.now, 0⟩ })).onLead a (fun w => w.halt im.nextFrame .drainStop false)
  else im.axisStop a 1

/-- A forced disable of an axis: counted, EV49 cause 4 (R11). -/
def Image.axisForce (im : Image) (a : Axis) : Image :=
  let n := b2n (im.axisMoving a)
  ((im.onLead a (fun w => w.halt none .drainStop false)).axisStop a 3).ev49 (doorScope (axisDoor a)) (a.val + 1) 4 n

/-- An enable after the drain: unreferenced unless the doorway is proven closed and locked (R136); the Hall lines give the
rotor sector (R104). -/
def Image.axisEnableCmd (im : Image) (a : Axis) : Image :=
  let d := axisDoor a
  let ok := im.lockedProven d
  let halls := im.areg a 0 1 == 2 && im.areg a 0 6 == 1
  (im.onAxis a (fun x => { x with
    disabled := false, referenced := x.referenced && ok, hallFallback := x.hallFallback && im.flag (aBase a.val) 6
    drive := { x.drive with sector := if halls && !x.hallFault then some x.plant.hall else none } })).setAreg a 2 8 0

/-! ## Jogs -/

/-- Where a generator is bound for, µm. -/
def Gen.goal (w : Gen) : Option Int :=
  match ordered w.orders, w.pending, w.held, w.move with
  | some t, _, _, _ | none, some t, _, _ => some t.target
  | none, none, some h, _ => some h.aim.target
  | none, none, none, some m => if m.kind.isStop then none else some (m.target / 256)
  | none, none, none, none => none

/-- The jog of one axis toward an end, or toward its target where one is set (R41, R144): a target of 0 counts as not set
(DESIGN CHOICE). A jog that is bound there goes on. -/
def Image.jogAxis (im : Image) (d : Door) (k : Fin 3) (dirOpen : Bool) : Image :=
  let a := axisOf d k
  let x := im.axis a
  if !im.axisUsed a || x.disabled || x.drain.isSome || im.coasting a || x.guard.thermal then im
  else
    let far : Int := 1000000000
    let free : Int := if x.referenced then (if dirOpen then im.asreg a 6 5 else im.asreg a 6 4) else if dirOpen then far else -far
    let set := im.asreg a 2 3
    let target := if set ≠ 0 then set else free
    let clamped := if x.referenced then clampInt (im.asreg a 6 4) (im.asreg a 6 5) target else target
    if x.solo.goal = some clamped then im
    else
      let im := (im.clampTarget d a target).1
      im.onAxis a (fun x => { x with
        detached := true, atEnd := none
        solo := ({ x.solo with pos := if x.solo.busy then x.solo.pos else x.sp }).send im.nextFrame ⟨.jog, clamped, 0, 0⟩ })

/-- A jog value is written or refreshed: 0 stops the axes; an axis no longer selected stops too (R41). -/
def Image.jog (im : Image) (d : Door) (v : Int) : Image :=
  let w := im.door d
  let im := (im.setSreg (bBase d.val + 0x12) 2 v).onDoor d (fun w => { w with jogFrame := im.now })
  let stop := fun (im : Image) k => im.brakeSolo (axisOf d k) im.nextFrame false
  if v = 0 then ((allFin 3).foldl stop im).onDoor d (fun w => { w with jogBlocked := false })
  else if w.jogBlocked then im
  else (allFin 3).foldl (fun im k => if bitOf (im.dreg d 0x12 3) k.val then im.jogAxis d k (decide (0 < v)) else stop im k) im

end Sys2Proof.Machine
end

