-- ==== Sys2Proof/Machine/Slices.lean ====
section
/-! DEFINITION. The slice work of a stitch (R108): input samples (R276 to R280), edges (R162, R165), channel codes (R255,
R256), g (R192), charge credits (R214, R218, R226), and for each axis the estimator (R146 to R148), the profile, the
stall and obstacle counts (R125, R158 to R160) and the i²t integrator (R102). -/

namespace Sys2Proof.Machine

/-! ## Inputs -/

/-- The bands of R278. -/
inductive Band | reverse | false_ | indeterminate | true_ | excess
deriving DecidableEq, Repr

/-- The band of a terminal voltage in 0.1 V. -/
def bandOf (v : Int) : Band :=
  if v < -50 then .reverse
  else if v ≤ 100 then .false_
  else if v < 168 then .indeterminate
  else if v ≤ 1600 then .true_
  else .excess

/-- One sample of a digital input; `inv`: its polarity inverts (R279). The filter counts as R280 says. -/
def DIn.sample (x : DIn) (v : Int) (inv : Bool) : DIn :=
  let b := bandOf v
  let x := { x with
    volts := v
    indet := if b = .indeterminate then x.indet + 1 else 0
    excess := if b = .excess then x.excess + 1 else 0
    rev := if b = .reverse then x.rev + 1 else 0 }
  match b with
  | .indeterminate => x
  | _ =>
    let r := (b = .true_ || b = .excess) != inv
    { x with raw := r, run := if r = x.filt then 0 else x.run + 1 }

/-- The raw state shown: the last sample reads true; one in the indeterminate band reads neither true nor false, and its
bit is 0 (DEDUCED). -/
def DIn.rawState (x : DIn) : Bool := x.raw && x.indet == 0

/-- The debounce time of an input in stitches (R280). -/
def Image.debounce (im : Image) : InputId → Nat
  | .di d n => 16 * im.dreg d 9 (0x0E + n.val)
  | .ti n => 16 * im.reg 0x2401 (n.val + 1)

/-- The polarity of an input (R279): DI1 and TI1 to TI11 are never inverted. -/
def Image.inverted (im : Image) : InputId → Bool
  | .di d n => decide (n.val ≠ 0) && bitOf (im.dreg d 9 0x0D) n.val
  | .ti n => decide (11 ≤ n.val) && bitOf (im.reg 0x2402 1) (n.val - 11)

/-- The function of TI(n+12) in force (R293). -/
def Image.tiFunction (im : Image) (n : Fin 5) : Nat := im.inp.functions.get n

/-- A changed function takes effect at the frame boundary (R293). -/
def Image.takeFunctions (im : Image) : Image :=
  { im with inp := { im.inp with functions := Vector.ofFn (fun n : Fin 5 => im.reg 0x2403 (n.val + 1)) } }

def Image.input (im : Image) : InputId → DIn
  | .di d n => (im.door d).dis.get n
  | .ti n => im.inp.tis.get n

def Image.onInput (im : Image) (i : InputId) (f : DIn → DIn) : Image :=
  match i with
  | .di d n => im.onDoor d (fun w => { w with dis := upd w.dis n f })
  | .ti n => { im with inp := { im.inp with tis := upd im.inp.tis n f } }

/-- Every digital input. -/
def allInputs : List InputId :=
  (allFin 12).flatMap (fun d => (allFin 12).map (fun n => InputId.di d n)) ++ (allFin 16).map InputId.ti

/-- A receiver group has delivered a fresh sample in this stitch. -/
def Image.fresh (im : Image) (g : Fin 13) : Bool := im.inp.stale.get g == 0

/-- Sampling of the digital inputs: a stale group counts (R277); of a fresh one, an input not listed repeats its last
voltage. -/
def Image.sampleInputs (im : Image) (x : StitchSample) : Image :=
  let im := { im with
    inp := { im.inp with
      stale := Vector.ofFn (fun g : Fin 13 =>
        if x.stale.any (fun s => s.idx == g) then im.inp.stale.get g + 1 else 0) } }
  allInputs.foldl (fun im i =>
    if im.fresh i.group then
      let v := match x.inputs.find? (fun p => p.1 == i) with | some p => p.2 | none => (im.input i).volts
      im.onInput i (fun y => y.sample v (im.inverted i))
    else im) im

/-! ## Edges -/

/-- Band code of an edge resistance (R162): 0 normal, 1 pressed, 2 open, 3 fault. -/
def edgeBand (ohms : Nat) : Nat :=
  if ohms < 4000 then 1 else if ohms < 6500 then 3 else if ohms ≤ 10000 then 0 else if ohms ≤ 12000 then 3 else 2

/-- One sample of an edge: two consecutive samples in one new band change the reading; P4's force ends when the edge
leaves the pressed band. -/
def EdgeState.sample (e : EdgeState) (ohms now : Nat) : EdgeState :=
  let b := edgeBand ohms
  let forced := e.forced && b == 1
  let r := if forced then 3 else if b = e.lastBand then b else e.reading
  { e with
    ohms := ohms, lastBand := b, forced := forced, reading := r
    normalSince := if r = 0 && e.reading ≠ 0 then now else e.normalSince }

def Image.onEdge (im : Image) (d : Door) (e : Edge) (f : EdgeState → EdgeState) : Image :=
  im.onDoor d (fun w => match e with
    | .ea => { w with ea := f w.ea }
    | .eb => { w with eb := f w.eb })

/-- An open or fault reading of an assigned edge raises EV43, and marks the cycle in progress (R165). -/
def Image.edgeFault (im : Image) (d : Door) (e : Edge) : Image :=
  let x := (im.door d).edge e
  if (x.reading = 2 || x.reading = 3) && decide (im.edgeAssigned d e ≠ 0) && im.fitted d then
    let im := im.onCycle d (fun c => { c with edgeFault := true })
    if x.fault then im
    else (im.onEdge d e (fun y => { y with fault := true })).raise 43 (doorScope d) ⟨e.item, x.reading, x.ohms⟩
  else im

def Image.sampleEdges (im : Image) (x : StitchSample) : Image :=
  im.eachDoor (fun im d => [Edge.ea, Edge.eb].foldl (fun im e =>
    if im.fresh ⟨d.val, by omega⟩ then
      let ohms := match x.edges.find? (fun p => p.1 == d && p.2.1 == e) with
        | some p => p.2.2
        | none => ((im.door d).edge e).ohms
      (im.onEdge d e (fun y => y.sample ohms im.now)).edgeFault d e
    else im) im)

/-! ## Channel codes -/

/-- The current of a sense code, mA; `none` outside 0 to 3839 (R255). -/
def codeCurrent (code : Nat) : Option Nat := if code < 3840 then some (code * 25 / 12) else none

/-- A channel is off by a trip or a latch, so that a fault-level code is expected (R255, R256). -/
def Channel.tripped (x : Channel) : Bool := x.ocLatched || x.oc || x.thDT || x.thTJ || x.retryDue.isSome

/-- One sense code of a channel: the frame's mean, and the forbidden codes in a row (R256). -/
def Channel.sense (x : Channel) (code : Nat) : Channel :=
  let bad := decide (3840 ≤ code ∧ code ≤ 3967) || (decide (3968 ≤ code) && !x.tripped)
  let i := (codeCurrent code).getD 0
  { x with
    code := code, sum := x.sum + i, samples := x.samples + 1,
    forbRun := if bad then x.forbRun + 1 else 0,
    peak := if x.out then max x.peak i else x.peak }

/-- A code forbidden in 3 consecutive stitches is a sense-path fault (R256). -/
def Image.senseFault (im : Image) (c : Chan) : Image :=
  let x := im.chan c
  if 3 ≤ x.forbRun && !x.senseFault then
    let d := chanDoor c
    (im.onChan c (fun y => { y with senseFault := true })).latch 59 (doorScope d)
      ⟨c.val + 1, 9, x.code⟩ true
  else im

def Image.sampleChans (im : Image) (x : StitchSample) : Image :=
  im.eachChan (fun im c =>
    let code := match x.codes.find? (fun p => p.1 == c) with | some p => p.2 | none => (im.chan c).code
    (im.onChan c (fun y => y.sense (min code 4095))).senseFault c)

/-! ## g (R192) -/

/-- One stitch of the applied factor toward the commanded one: `rmax` and `amax` are the limits on the rate and on its
change, in the units of `Clock.gRate` per stitch. -/
def slewG (g : Nat) (r : Int) (target rmax amax : Nat) : Nat × Int :=
  let dist : Int := (target : Int) - g
  if r.natAbs ≤ amax && dist.natAbs ≤ amax then (target, 0)
  else
    let s : Int := if 0 ≤ dist then 1 else -1
    let r0 := s * r
    let a : Int := amax
    -- the largest next rate from which g still stops at the target
    let disc : Int := a * a + 8 * a * (s * dist) - 4 * a * r0
    let best : Int := if disc ≤ 0 then -((rmax : Int)) else ((isqrt disc.toNat : Int) - a) / 2
    let r1 := clampInt (r0 - a) (r0 + a) (clampInt (-(rmax : Int)) rmax best)
    ((g + s * ((r0 + r1) / 2)).toNat, s * r1)

/-- The stitch's change of g; while the profile clock stands still g holds the commanded value (R194, R224). -/
def Image.slew (im : Image) : Image :=
  let c := im.clk
  let target := c.gc * 64 * gUnit
  let r := if c.stopped then (target, 0) else slewG c.gFine c.gRate target (im.reg 0x2101 3 * 65536) (im.reg 0x2101 4 * 4096)
  { im with clk := { c with gFine := r.1, gRate := r.2 } }

/-! ## Axis condition -/

/-- The standstill mode of A+5:01. -/
def Image.standstill (im : Image) (a : Axis) : Nat := if im.areg a 5 1 = 0 then 2 else 3

/-- The condition of an axis at rest, as the doorway state demands it (R14, R130): 2 coils off, 3 coils shorted, 4 held,
5 pressed. -/
def Image.restCond (im : Image) (a : Axis) : Nat :=
  let d := axisDoor a
  let x := im.axis a
  let leaf := decide (axisK a ≠ 2)
  if im.belt.rest || im.belt.commitDone then 2
  else if x.zoneHold then 5
  else if x.shorted then 3
  else if im.belt.lostAt.isSome then im.standstill a
  else match (im.door d).st with
    | .isolated => if im.dreg d 0x11 2 = 3 then 4 else 2
    | .locked | .released | .faultHeld | .manual => im.standstill a
    | .stepExtending | .stepRetracting => if leaf then im.standstill a else 4
    | .closedUnlocked | .locking => if leaf then 5 else 4
    | .closing => if leaf && x.atEnd == some false then 5 else 4
    | .emergency => if leaf && im.dreg d 0x0C 1 = 0 && im.ti 4 && im.ti 5 then 2 else 4
    | .opening | .opened | .warning | .reversing => 4

/-- The axis state of A+2:06. -/
def Image.axisCond (im : Image) (a : Axis) : Nat :=
  let x := im.axis a
  if !im.axisUsed a then 0
  else if x.drain.isSome then 10
  else if x.disabled && !im.axisMoving a then 1
  else if x.guard.latched then 9
  else if x.guard.retryDue.isSome then 8
  else match im.axisMove a with
    | some m => if m.kind.isStop || x.guard.thermal || x.disabled then 7 else 6
    | none => if x.guard.thermal then 9 else im.restCond a

/-- An axis is eligible for credits (R225). -/
def Image.eligible (im : Image) (a : Axis) : Bool :=
  match im.axisCond a with
  | 4 | 5 | 6 | 7 | 10 => true
  | _ => false

/-! ## Charge credits -/

/-- Derating factor in percent · 1000 of the ambient estimate in 0.1 °C (R229). -/
def derating (t : Int) : Nat :=
  if t ≤ 550 then 100000 else if 700 ≤ t then 60000 else (100000 - 40000 * (t - 550) / 150).toNat

/-- The input budget of an input voltage in 0.1 V, W (R213): 15 A at 93 %. -/
def inputBudget (vin : Nat) : Nat := min 3600 (vin * 1395 / 1000)

/-- Weight of an eligible axis (R225). -/
def Image.weight (im : Image) (a : Axis) : Nat :=
  if axisK a = 2 then im.reg 0x2108 7
  else match im.axisMove a with
    | some m => if m.kind = .retargetStop || m.kind = .holdStop || m.toOpen then im.reg 0x2108 6 else im.reg 0x2108 5
    | none => if im.axisCond a = 5 then im.reg 0x2108 5 else im.reg 0x2108 6

/-- One axis in the sharing of R226: its number from 0, demand, weight, grant and deficit. -/
structure Share where
  axis : Nat
  demand : Nat
  weight : Nat
  grant : Nat
  deficit : Int
deriving DecidableEq, Repr

/-- Axes in ring order from the pointer. -/
def ringOrder (ring : Nat) (xs : List Share) : List Share :=
  xs.filter (fun s => decide (ring ≤ s.axis)) ++ xs.filter (fun s => decide (s.axis < ring))

/-- Give one credit each, in ring order, to axes whose grant is below their demand. -/
def giveOnes : Nat → List Share → Nat → List Share × Nat
  | _, [], ring => ([], ring)
  | 0, xs, ring => (xs, ring)
  | x + 1, s :: ss, ring =>
    if s.grant < s.demand then
      let r := giveOnes x ss (s.axis + 1)
      ({ s with grant := s.grant + 1 } :: r.1, r.2)
    else
      let r := giveOnes (x + 1) ss ring
      (s :: r.1, r.2)

/-- The unmet axis with the highest deficit, the first in the order given. -/
def neediest : List Share → Option Share
  | [] => none
  | s :: ss =>
    if s.grant < s.demand then
      match neediest ss with
      | some t => if s.deficit < t.deficit then some t else some s
      | none => some s
    else neediest ss

/-- Hand out what the shares left, one credit at a time. -/
def handOut : Nat → List Share → Nat → List Share × Nat × Nat
  | 0, xs, ring => (xs, ring, 0)
  | left + 1, xs, ring =>
    match neediest (ringOrder ring xs) with
    | none => (xs, ring, left + 1)
    | some t =>
      handOut left (xs.map (fun s => if s.axis = t.axis then { s with grant := s.grant + 1, deficit := s.deficit - 256 }
        else s)) (t.axis + 1)

/-- The weighted shares of the unmet axes (R226): their new grants and deficits, and what is left. -/
def weighted (r w : Nat) : List Share → Nat → List Share × Nat
  | [], left => ([], left)
  | s :: ss, left =>
    if s.grant < s.demand then
      let d := s.deficit + (r * s.weight * 256 / w : Nat)
      let t := max 0 (min (d / 256) ((s.demand - s.grant : Nat) : Int))
      let n := t.toNat
      let rest := weighted r w ss (left - n)
      ({ s with grant := s.grant + n, deficit := d - 256 * t } :: rest.1, rest.2)
    else
      let rest := weighted r w ss left
      (s :: rest.1, rest.2)

def sumBy (f : Share → Nat) (xs : List Share) : Nat := xs.foldl (fun n s => n + f s) 0

/-- The outcome of the sharing of one stitch. -/
structure Shared where
  shares : List Share
  ring : Nat
  unclaimed : Nat
  cut : Bool
deriving DecidableEq, Repr

/-- The sharing of one stitch (R226). -/
def shareCredits (issued floor ring : Nat) (xs : List Share) : Shared :=
  let fl := xs.map (fun s => { s with grant := min floor s.demand })
  let cut := decide (issued < sumBy (·.grant) fl)
  let n := xs.length
  let base := if cut then
      let g := fl.map (fun s => { s with grant := min s.demand (issued / n) })
      let r := giveOnes (issued % n) (ringOrder ring g) ring
      (fl.map (fun s => (r.1.find? (fun t => t.axis == s.axis)).getD s), r.2)
    else (fl, ring)
  let left := issued - sumBy (·.grant) base.1
  let w := sumBy (fun s => if s.grant < s.demand then s.weight else 0) base.1
  let sh := weighted left w base.1 left
  let out := handOut sh.2 sh.1 base.2
  ⟨out.1.map (fun s => if s.grant = s.demand then { s with deficit := 0 } else s), out.2.1, out.2.2, cut⟩

/-- The credits issued in a stitch and the pool after it: C_cont with its carried fraction (1/256000 of a credit), and
the burst (R214, R218). `pm`, `pk` in mW. -/
def issueCredits (pm pk frac pool demand : Nat) : Nat × Nat × Nat :=
  let t := pm + frac
  let cont := t / 16000
  let e := min (min (pk / 16000 - cont) (demand - cont)) pool
  (cont + e, t % 16000, pool - e)

/-- The motion budget, mW, of a frame (R214, R216): the recharge after a ride-through is taken from it. -/
def Image.motionBudget (im : Image) : Nat :=
  let pIn := im.belt.pIn
  let pm := min 2400 (pIn - 60) * 10 * im.belt.kT / 1000
  if im.belt.recharge then pm - pIn * 100 else pm

/-- The peak rate, mW, of a frame (R218). -/
def Image.peakBudget (im : Image) : Nat := min 4000 (im.belt.pIn - 60) * 10 * im.belt.kT / 1000

/-- The credits of one stitch. -/
def Image.credits (im : Image) : Image :=
  let b := im.belt
  let el := (allFin 36).filter im.eligible
  let xs : List Share := el.map (fun a =>
    ⟨a.val, (im.axis a).plant.demand, im.weight a, 0, b.deficits.get a⟩)
  let demand := sumBy (·.demand) xs
  let iss := issueCredits b.pm b.pk b.fraction b.pool demand
  let sh := shareCredits iss.1 (im.reg 0x2108 8) b.ring xs
  let granted := sumBy (·.grant) sh.shares
  let unmet := demand - granted
  let excess := decide (im.reg 0x2108 0x0B * demand < 100 * unmet)
  let refill := if 1000 * b.pMotor < 24 * b.kT then 20 else 0
  let im := { im with belt := { b with
    fraction := iss.2.1, pool := min 3200000 (iss.2.2 + refill), ring := sh.ring % 36,
    deficits := Vector.ofFn (fun a : Fin 36 =>
      match sh.shares.find? (fun (s : Share) => decide (s.axis = a.val)) with | some s => s.deficit | none => 0),
    pressure := if excess then b.pressure + 1 else 0,
    lowerDue := b.lowerDue || sh.cut || (excess && decide (15 ≤ b.pressure)), unmetSeen := b.unmetSeen || decide (0 < unmet), unmet := unmet, eligible := el.length, rate := b.pm / 2000,
    issued := b.issued + iss.1, granted := b.granted + granted, unclaimed := b.unclaimed + sh.unclaimed } }
  im.eachAxis (fun im a => im.onAxis a (fun x => { x with
    creditCapped := match sh.shares.find? (fun (s : Share) => decide (s.axis = a.val)) with | some s => decide (s.grant < s.demand) | none => false
    drive := { x.drive with
      grant := match sh.shares.find? (fun (s : Share) => decide (s.axis = a.val)) with | some s => s.grant | none => 0 } }))

/-! ## Estimator -/

/-- The estimator mode by speed, with the 2,000 µm/s hysteresis below each boundary (R147). -/
def speedMode (cur v : Nat) : Nat :=
  if 50000 ≤ v || (cur = 3 && decide (48000 ≤ v)) then 3
  else if 40000 ≤ v || (2 ≤ cur && decide (38000 ≤ v)) then 2
  else 1

/-- The mode of an axis in condition `cond`. -/
def nextMode (cond cur v : Nat) : Nat :=
  match cond with
  | 0 | 1 | 2 | 3 | 8 | 9 => 0
  | 4 | 5 => 1
  | _ => speedMode cur v

/-- The sine of an angle in 0.1°, in units of 10⁻⁹, from its series (the rounding is the model's). -/
def sinE9 (tenths : Int) : Int :=
  let t := tenths % 3600
  let u := if t ≤ 900 then t else if t ≤ 2700 then 1800 - t else t - 3600
  -- π / 1800 in units of 10⁻¹²
  let x := u * 1745329252 / 1000
  let sq := x * x / 1000000000
  let term := fun (y : Int) (n : Int) => y * sq / 1000000000 / n
  let t3 := term x 6
  let t5 := term t3 20
  let t7 := term t5 42
  let t9 := term t7 72
  x - t3 + t5 - t7 + t9

/-- Motor force, mN, toward open (R146): A+4:06 times I sin δ of a stepper, times i_q of a PMSM. -/
def Image.motorForce (im : Image) (a : Axis) (current iq angle : Int) : Int :=
  if im.areg a 0 1 = 2 then im.areg a 4 6 * iq else im.areg a 4 6 * (current * sinE9 angle) / 1000000000

/-- The compared force, mN, positive when it opposes the motion. -/
def Image.comparedForce (im : Image) (a : Axis) (x : AxisSample) (dirOpen : Bool) : Int :=
  let f := im.motorForce a x.current x.torqueCurrent x.angle - (im.areg a 4 9 : Int) * x.accel / 10000 -
    (im.areg a 4 0x0A : Int) * x.velocity / 1000
  if dirOpen then f else -f

/-- The bin width of a mover (A+7:03). -/
def Image.binWidth (im : Image) (a : Axis) : Nat := divUp (im.areg a 6 1) 256

/-- The bin of a position (R150). -/
def Image.bin (im : Image) (a : Axis) (pos : Int) : Nat := min 255 (pos.toNat / max 1 (im.binWidth a))

/-- The sheet of a direction. -/
def AxisState.sheet (x : AxisState) (dirOpen : Bool) : Sheet := if dirOpen then x.opening else x.closing

/-- The estimator threshold, N (R158). -/
def Image.threshold (im : Image) (a : Axis) (dirOpen : Bool) : Int :=
  let d := axisDoor a
  let x := im.axis a
  let s := x.sheet dirOpen
  let ceiling := im.dsreg d 5 6
  if !s.taught || !x.referenced || (im.door d).homing then ceiling
  else min (s.bins.getD (im.bin a x.plant.pos) 0 + im.dsreg d 5 5) ceiling

/-- Where the estimator is compared (R160): the codes of A+4:0C. A stop is judged as part of the move it interrupts. -/
def Image.compareState (im : Image) (a : Axis) : Nat :=
  let d := axisDoor a
  let w := im.door d
  match im.axisMove a with
  | none => if (im.obstacleGroup d).isSome then 5 else 0
  | some m =>
    if m.kind = .obstacleStop then 5
    else if !bitOf (im.dreg d 5 1) 0 || im.coasting a then 0
    else
      let region :=
        if w.st = .manual || w.homing then 1
        else if axisK a = 2 then (if im.inEndZone a m.toOpen then 3 else 1)
        else if m.toOpen then (if im.inEndZone a true then 3 else 1)
        else if im.inLockZone a then 2 else 1
      if region = 1 && !(im.axis a).force.valid then 4 else region

/-- Full scale of the i²t integrator: 110 A²s in mA² · stitches (R102). -/
def i2tMax : Nat := 110000000 * 16000

/-- The current of an axis at rest, mA (R130). -/
def Image.restCurrent (im : Image) (a : Axis) : Nat :=
  match im.axisCond a with
  | 4 => im.areg a 5 2
  | 5 => im.areg a 5 3
  | _ => 0

/-- The phase current limits in force, mA, for a force toward open and toward closed: peak, or run current at the i²t limit
(R102); the cap of the lock zone (R160) and of a faulty edge (R165); from an obstacle stop until the next move none in the
direction of the motion it interrupted, and up to the peak against it (R169). -/
def Image.currentLimits (im : Image) (a : Axis) : Nat × Nat :=
  let d := axisDoor a
  let x := im.axis a
  let top := if i2tMax ≤ x.guard.i2t then im.areg a 0 7 else im.areg a 0 8
  let cap := (im.lockZoneCap d).toNat * 1000 / max 1 (im.areg a 4 6)
  match (im.leadGen a).dirLimit with
  | some true => (0, top)
  | some false => (top, 0)
  | none =>
    let zone := if im.inLockZone a then min top cap else top
    match im.axisMove a with
    | some m => if !m.toOpen && im.edgeLimited a then (min zone cap, min zone cap) else (zone, zone)
    | none =>
      let rest := if x.zoneHold then min top cap else min zone (im.restCurrent a)
      (rest, rest)

/-! ## One axis in one stitch -/

/-- The direction of the present or last planned move. -/
def Image.dirOpen (im : Image) (a : Axis) : Bool :=
  match im.axisMove a with
  | some m => m.toOpen
  | none => (im.leadGen a).toward

/-- A slice works an axis that is enabled, or disabled and still moving (R108). -/
def Image.axisWorked (im : Image) (a : Axis) : Bool := im.axisUsed a && (!(im.axis a).disabled || im.axisMoving a)

/-- The plant and the estimator of an axis take a sample (R108 orders 1, 2). The position counts on from where it stood when
the first sample after a start is taken (R114). -/
def Image.sampleAxis (im : Image) (a : Axis) (s : AxisSample) : Image :=
  let cond := im.axisCond a
  let dir := im.dirOpen a
  let x := im.axis a
  let origin := x.origin.getD (s.position - x.plant.pos)
  let pos := s.position - origin
  let mode := nextMode cond x.force.mode s.velocity.natAbs
  -- the first 16 stitches of mode 1 count only after mode 0
  let n := if mode = x.force.mode then x.force.modeStitches + 1 else if mode = 1 && x.force.mode ≠ 0 then 17 else 1
  let settled := mode != 1 || decide (16 < n)
  let valid := decide (mode ≠ 0) && settled && s.inRange
  let fc := im.comparedForce a s dir
  let shown := (fc + x.force.fc) / 2000
  let moving := im.axisMoving a && !im.coasting a
  let slip := !im.coasting a && decide (1800 < s.angle.natAbs) && decide (x.plant.angle.natAbs ≤ 1800) && im.areg a 0 1 == 1
  let moved := (pos - x.plant.pos).natAbs
  let leftClosed := x.referenced && decide (x.plant.pos ≤ im.areg a 6 2) && decide ((im.areg a 6 2 : Int) < pos)
  let openZone : Int := (im.areg a 6 1 : Int) - im.areg a 6 3
  let leftOpen := x.referenced && decide (openZone ≤ x.plant.pos) && decide (pos < openZone)
  let im := im.onAxis a (fun x => { x with
    origin := some origin,
    travelUm := (x.travelUm + moved) % 1000000,
    slip := x.slip || slip, resync := x.resync || slip,
    plant := ⟨s.current, s.torqueCurrent, pos, s.velocity, s.accel, s.angle, s.inRange, s.hall, x.plant.demand, s.demand,
      s.bridgeTemp⟩,
    force := { x.force with
      mode := mode, modeStitches := n, valid := valid, fc := fc, shown := shown,
      prevPos := x.plant.pos, prevForce := x.force.shown,
      invalidRun := if valid || !moving then 0 else x.force.invalidRun + 1 } })
  let im := if (x.travelUm + moved) < 1000000 then im else im.setAreg a 3 0x0A (im.areg a 3 0x0A + (x.travelUm + moved) / 1000000)
  let im := if slip then
      ((im.bumpA a 3 7).setAreg a 3 8 (im.areg a 3 8 + 4)).onCycle (axisDoor a) (fun c => { c with spoiled := true })
    else im
  let want := fun (im : Image) (r : Nat) (b : Bool) =>
    (allFin 12).foldl (fun im n => if im.role (axisDoor a) n == r && im.di (axisDoor a) n != b then
      im.onInput (.di (axisDoor a) n) (fun y => { y with expect := some im.now, want := b }) else im) im
  let im := if leftClosed then want im (closedRole (axisK a)) false else im
  if leftOpen && axisK a = 2 then want im 9 false else im

/-- An axis that no slice works: its estimator is off, it asks for no credits. -/
def Image.idleAxis (im : Image) (a : Axis) : Image :=
  im.onAxis a (fun x => { x with
    plant := { x.plant with current := 0, torqueCurrent := 0, demand := 0, forecast := 0 }
    force := { x.force with mode := 0, modeStitches := 0, valid := false, cmp := 0, thr := 0, exceed := 0, stall := 0 } })

/-- What each mover of a group expects at the end of a move. -/
def Image.expectEnd (im : Image) (d : Door) (g : Group) : Image :=
  let p := (im.gen d g).pos
  (im.groupMovers d g).foldl (fun im k =>
    if p = 0 && (im.axis (axisOf d k)).referenced then im.expectRole d (closedRole k)
    else if k = 2 && p = 256 * (im.areg (axisOf d 2) 6 1 : Int) then im.expectRole d 9 else im) im

/-- The i²t integrator of an axis (R102). -/
def Image.integrate (im : Image) (a : Axis) : Image :=
  let i := (im.axis a).plant.current.natAbs
  let run := im.areg a 0 7
  im.onAxis a (fun x => { x with
    guard := { x.guard with
      i2t := if run < i then min i2tMax (x.guard.i2t + (i * i - run * run))
        else x.guard.i2t - (run * run - i * i) } })

/-- The Hall lines of a PMSM axis (R104, R290): two consecutive invalid codes fault the input. -/
def Image.hallCheck (im : Image) (a : Axis) : Image :=
  let x := im.axis a
  let bad := decide (x.plant.hall = 0 ∨ x.plant.hall = 7)
  let fitted := im.areg a 0 1 == 2 && im.areg a 0 6 == 1
  let run := if bad && fitted then x.force.hallRun + 1 else 0
  let im := im.onAxis a (fun x => { x with
    force := { x.force with hallRun := run }
    hallAbsent := if bad || !im.fresh ⟨(axisDoor a).val, by omega⟩ then none else match x.hallAbsent with | some f => some f | none => some im.now })
  if run = 2 && !x.hallFault then
    let d := axisDoor a
    let im := im.onAxis a (fun x => { x with
      hallFault := true, hallFallback := true, force := { x.force with mode := 0, modeStitches := 0, valid := false } })
    ((im.bump 0x2406 1).latch 59 (doorScope d) ⟨18 + (axisK a).val, 8, x.plant.hall⟩ true)
  else im

/-- The stall check and the obstacle comparison of a stitch (R125, R158 to R160): they count, an assisting force never
(R159); the confirmed stall or obstacle is its own command. -/
def Image.compare (im : Image) (a : Axis) : Image :=
  let x := im.axis a
  let stall := if im.axisMoving a && !im.coasting a && decide (im.stallLimit a < x.plant.angle.natAbs) then x.force.stall + 1 else 0
  let cmp := im.compareState a
  let thr := im.threshold a (im.dirOpen a)
  let exceeds := cmp == 1 && decide (thr < x.force.shown) && decide (0 ≤ x.force.shown)
  let first := exceeds && x.force.exceed = 0
  let lim := im.currentLimits a
  im.onAxis a (fun x => { x with
    drive := { x.drive with limitOpen := lim.1, limitClosed := lim.2 }
    force := { x.force with
      stall := stall, cmp := cmp, thr := if cmp = 1 then thr else 0,
      exceed := if exceeds then x.force.exceed + 1 else 0,
      firstPos := if first then x.plant.pos else x.force.firstPos,
      firstForce := if first then x.force.shown else x.force.firstForce,
      firstThr := if first then thr else x.force.firstThr
      stallPos := if stall = 1 then x.plant.pos else x.force.stallPos
      stallForce := if stall = 1 then x.force.shown else x.force.stallForce
      stallThr := if stall = 1 then thr else x.force.stallThr } })

/-- Keep the largest compared force of a bin (R154, R156). -/
def seeBin (bin : Nat) (f : Int) : List (Nat × Int) → List (Nat × Int)
  | [] => [(bin, f)]
  | (b, v) :: r => if b = bin then (b, max v f) :: r else (b, v) :: seeBin bin f r

/-- What a contributing stitch leaves for the cycle: peaks, the obstacle stop to its end among them; bins, teach samples of a
cycle that counts (R57, R152 to R154, R171). -/
def Image.contribute (im : Image) (a : Axis) : Image :=
  let d := axisDoor a
  let w := im.door d
  let x := im.axis a
  let m := im.axisMove a
  match w.cycle with
  | some c =>
    if m.isNone && (im.obstacleGroup d).isNone then im
    else
      let o := im.dirOpen a
      let k := axisK a
      let f := x.force.shown
      let im := im.onCycle d (fun c => { c with
        peakOpen1 := if o && k = 0 then max c.peakOpen1 f else c.peakOpen1
        peakOpen2 := if o && k = 1 then max c.peakOpen2 f else c.peakOpen2
        peakClose1 := if !o && k = 0 then max c.peakClose1 f else c.peakClose1
        peakClose2 := if !o && k = 1 then max c.peakClose2 f else c.peakClose2
        peakCurrent := max c.peakCurrent (x.plant.current.natAbs : Int) })
      if !x.force.valid || (match m with | some m => m.kind.isStop | none => true) then im
      else
        let b := im.bin a x.plant.pos
        let im := im.onAxis a (fun x => if o then { x with seenOpen := seeBin b f x.seenOpen }
          else { x with seenClose := seeBin b f x.seenClose })
        if w.teach.running && decide (w.teach.since ≤ c.accepted) then
          let force := im.motorForce a x.plant.current x.plant.torqueCurrent x.plant.angle
          im.onAxis a (fun x => { x with teach := x.teach ++
            [⟨c.accepted, o, b, force * (if o then 1 else -1), x.plant.vel, x.plant.acc⟩] })
        else im
  | none => im

/-! ## Set-points -/

/-- A set-point inside the soft limits of a referenced axis (R124). -/
def Image.inSoft (im : Image) (a : Axis) (sp : Int) : Int :=
  if (im.axis a).referenced then clampInt (256 * im.asreg a 6 4) (256 * im.asreg a 6 5) sp else sp

/-- The set-point of an axis follows its own generator while that leads it, else its group's unless it has left it. After a
pole slip it takes the estimated position once the mover is at rest, until the next move (R127). -/
def Image.follow (im : Image) (a : Axis) : Image :=
  let d := axisDoor a
  let g := axisGroup a
  let gen := im.axisGen a
  let x := im.axis a
  let alone := (im.groupMovers d g).length = 1
  let leads := match (im.groupMovers d g).head? with | some k => axisOf d k == a | none => false
  -- in Manual the shared set-point is that of the first mover
  let shared := fun (im : Image) (sp : Int) =>
    if gen.move.isNone && leads && ((im.door d).st = .manual || alone) then im.onGen d g (fun w => { w with pos := sp }) else im
  if x.solo.busy then
    let sp := im.inSoft a x.solo.pos
    let im := im.onAxis a (fun x => { x with sp := sp })
    if (im.door d).st = .manual then shared im sp else im
  else if x.resync && !im.axisMoving a then
    let sp := 256 * x.plant.pos
    shared (im.onAxis a (fun x => { x with sp := sp, resync := false, detached := x.detached || !alone, solo := { x.solo with pos := sp } })) sp
  else
    let sp := if x.detached then x.sp else im.inSoft a gen.pos
    im.onAxis a (fun x => { x with sp := sp, solo := { x.solo with pos := sp } })

/-- A target other than one of a resumption begins a move in this stitch. -/
def Gen.starting (w : Gen) (wait : Bool) (frame stitch : Nat) : Bool :=
  w.move.isNone && w.orders.any (fun p => w.dueNow wait frame stitch p &&
    (match p.2 with | .target t => t.kind != .resume | _ => false))

/-- One generator in one stitch: the profile advances (R117), then the orders that are due take effect: from the frame work at
stitch 0 (R110), from the slice itself at once. A target waits at standstill while the Belt is at level 3 or a mover is held
up by a trip (R140, R175). -/
def Image.stitchGen (im : Image) (d : Door) (g : Group) : Image :=
  let w := im.gen d g
  let wait := im.clk.stopped || im.heldUp d
  let im := if w.starting wait im.now im.clk.stitch then im.join d g else im
  let im := im.onGen d g (fun w => w.stitch im.clk.g im.clk.stopped)
  let c := im.groupTerms d g
  let r := (im.gen d g).obey c im.clk.g wait im.now im.clk.stitch
  let im := im.onGen d g (fun _ => r.1)
  let im := if r.2 then im.decelerationHeld d (im.groupMovers d g) c.limits.dec else im
  if w.move.isSome && r.1.move.isNone && r.1.obstacle.isNone then im.expectEnd d g else im

/-- The same for the generator of an axis's own moves. A jog that begins leaves nothing of an obstacle before it (R170). -/
def Image.stitchSolo (im : Image) (a : Axis) : Image :=
  let d := axisDoor a
  let w := (im.axis a).solo
  if !w.busy then im
  else
    let stopped := im.clk.stopped
    let im := if w.starting stopped im.now im.clk.stitch && (im.door d).st = .manual && (im.obstacleGroup d).isNone then
        im.obstacleDone d else im
    let im := im.onAxis a (fun x => { x with solo := x.solo.stitch im.clk.g stopped })
    let c := im.soloTerms a
    let r := (im.axis a).solo.obey c im.clk.g stopped im.now im.clk.stitch
    let im := im.onAxis a (fun x => { x with solo := r.1 })
    if r.2 then im.decelerationHeld d [axisK a] c.limits.dec else im

/-- The slow stitches after an obstacle stop (R169). -/
def Image.countSlow (im : Image) (d : Door) : Image :=
  match im.obstacleGroup d with
  | some g =>
    let slow := im.doorAtRest d && im.doorSlow d
    im.onGen d g (fun w => { w with slow := if slow then w.slow + 1 else 0 })
  | none => im

/-! ## The power stage (R101 to R103, R106, R109, R130) -/

/-- The commanded electrical angle of a position in 1/256 µm, in 1/1024 of an electrical turn: a microstep of a stepper
(R105, R106). -/
def Image.electricalAngle (im : Image) (a : Axis) (sp : Int) : Int :=
  let travel : Int := max 1 (im.areg a 0 4)
  let d := axisDoor a
  let dir := match axisK a with
    | 0 => im.dsreg d 0 5
    | 1 => im.dsreg d 0 6
    | 2 => im.asreg a 0 5
  let steps : Int := if im.areg a 0 1 = 2 then 4 * im.areg a 0 3 else im.areg a 0 2
  dir * (sp * steps / travel)

/-- The phase current reference of an axis, mA: what its condition asks for, within the limits in force, at the cap of a
grant below the demand; braking in an obstacle stop is not limited by the grant (R109, R130, R169). -/
def Image.phaseReference (im : Image) (a : Axis) : Nat :=
  let x := im.axis a
  let limit := max x.drive.limitOpen x.drive.limitClosed
  let asked := match im.axisMove a with
    | some _ => Config.currentReference a.val x.sp x.plant.pos x.plant.vel
    | none => if x.zoneHold then limit else im.restCurrent a
  let r := if im.coasting a then 0 else min limit asked
  if x.creditCapped && !(im.obstacleGroup (axisDoor a)).isSome then min r (Config.creditCurrent x.drive.grant) else r

/-- How a condition drives the half-bridges (R101, R130): the loop's duties for a motor that is worked, the low-side switches
for coils shorted, else all open. A PMSM leaves HB4 off. -/
def halves (type cond : Nat) (duty : Nat → Nat) : Vector Half 4 :=
  Vector.ofFn (fun n : Fin 4 =>
    if type = 0 || (type = 2 && n = 3) then .off
    else match cond with
      | 3 => .low
      | 4 | 5 | 6 | 7 | 10 => .driven (duty n.val)
      | _ => .off)

/-- Order 6 of R108: references, the current loop, and the duty cycles that apply in the next stitch, corrected for the motor
bus of 72 V to 120 V. -/
def Image.driveAxis (im : Image) (a : Axis) : Image :=
  let x := im.axis a
  let cond := im.axisCond a
  let pressed := cond = 5 && !x.zoneHold
  let angle := if pressed then im.electricalAngle a 0 - 256 * (if im.electricalAngle a 1024000 < 0 then -1 else 1)
    else im.electricalAngle a x.sp
  let r := im.phaseReference a
  let loop := Config.loopState x.drive.loop r x.plant.current
  let bus := min 1200 (max 720 im.belt.bus)
  im.onAxis a (fun x => { x with
    drive := { x.drive with
      angle := angle, reference := r, loop := loop
      loaded := halves (im.areg a 0 1) cond (fun n => Config.duty n loop angle bus) }
    plant := { x.plant with demand := x.plant.forecast } })

/-- The duty cycles loaded in the last stitch apply from the boundary of this one (R103); a trip has opened its bridges in
hardware (R131). -/
def Image.applyDuties (im : Image) : Image :=
  im.eachAxis (fun im a => im.onAxis a (fun x => { x with drive := { x.drive with applied := x.drive.loaded } }))

/-- Profile time that drains have used (R10). -/
def Image.drainTicks (im : Image) : Image :=
  let dt := if im.clk.stopped then 0 else im.clk.g
  let im := im.eachDoor (fun im d => im.onDoor d (fun w => { w with
    drain := w.drain.map (fun x => { x with ticks := x.ticks + dt }) }))
  im.eachAxis (fun im a => im.onAxis a (fun x => { x with drain := x.drain.map (fun y => { y with ticks := y.ticks + dt }) }))

/-- One axis after its generator has advanced: orders 4 to 7 of R108. -/
def Image.stitchAxis (im : Image) (a : Axis) : Image :=
  let im := if (im.axis a).shorted && im.axisMoving a then im.onAxis a (fun x => { x with shorted := false }) else im
  if !im.axisUsed a then im
  else
    let im := (im.follow a).integrate a
    if im.axisWorked a then ((((im.hallCheck a).compare a).contribute a).driveAxis a) else im.driveAxis a

/-- The last sample of an axis, repeated. -/
def AxisState.sample (x : AxisState) (a : Axis) : AxisSample :=
  let p := x.plant
  ⟨a, p.current, p.torqueCurrent, p.pos + x.origin.getD 0, p.vel, p.acc, p.angle, p.inRange, p.hall, p.forecast, p.bridgeTemp⟩

/-- Orders 1 and 2 of R108: the samples of every axis that a slice works; one that the stitch does not list repeats its last
sample. -/
def Image.sampleAxes (im : Image) (x : StitchSample) : Image :=
  im.eachAxis (fun im a =>
    if im.axisWorked a then im.sampleAxis a ((x.axes.find? (fun s => s.axis == a)).getD ((im.axis a).sample a)) else im.idleAxis a)

/-- Orders 4 to 7 of R108 for every axis. -/
def Image.stitchAxes (im : Image) : Image :=
  let im := im.eachDoor (fun im d => if im.fitted d then
    let im := (im.stitchGen d .leaves).stitchGen d .step
    ((allFin 3).foldl (fun (im : Image) k => im.stitchSolo (axisOf d k)) im).countSlow d
    else im)
  im.eachAxis Image.stitchAxis

/-! ## The Belt's samples (R219) -/

/-- Whether an entry condition holds in the last sample; `sagRef`: the mean V_in over the last 10 s. -/
def Image.condHolds (im : Image) : BeltCond → Bool
  | .bus1 => decide (100 * im.belt.bus < im.reg 0x2107 1 * im.reg 0x2107 4)
  | .bus2 => decide (100 * im.belt.bus < im.reg 0x2107 1 * im.reg 0x2107 5)
  | .bus3 => decide (100 * im.belt.bus < im.reg 0x2107 1 * im.reg 0x2107 6)
  | .sag =>
    let low := if im.belt.input = 1 then 850 else 770
    decide (400 ≤ im.belt.vin) && decide (im.belt.vin < max low (im.belt.vinMean * 85 / 100))
  | .loss => im.belt.lostAt.isSome
  | .thermal => im.belt.thermalHold

def allConds : List BeltCond := [.bus1, .sag, .bus2, .bus3, .loss, .thermal]

/-- The level a condition enters (R220). -/
def condLevel : BeltCond → Nat
  | .bus1 | .sag => 1
  | .bus2 => 2
  | .bus3 | .loss | .thermal => 3

/-- The supply samples of a stitch and the conditions they hold: sag is not evaluated below 40 V (R221, R222), thermal
hold begins above 75 °C and ends below 70 °C (R229). -/
def Image.sampleSupply (im : Image) (s : Option SupplySample) : Image :=
  let b := im.belt
  let im := match s, b.absentSince with
    | some x, some f => if 400 ≤ x.vin then im.setReg 0x210A 4 (im.now - f) else im
    | _, _ => im
  let im := match s with
    | some x => { im with belt := { b with
        vin := x.vin, link := x.link, bus := x.bus, ambient := x.ambient,
        absentSince := if x.vin < 400 then (match b.absentSince with | some f => some f | none => some im.now) else none,
        thermalHold := if 750 < x.ambient then true else if x.ambient < 700 then false else b.thermalHold
        recharge := decide (400 ≤ x.vin) && decide (x.link < 4000) && (b.recharge || b.absentSince.isSome) } }
    | none => im
  let im := { im with belt := { im.belt with
    busHigh := if 120 * im.reg 0x2107 1 < 100 * im.belt.bus then im.belt.busHigh + 1 else 0 } }
  let evalBus := im.belt.converter && im.belt.restWaking.isNone
  let on := fun (k : BeltCond) =>
    im.condHolds k && (evalBus || !(k = .bus1 || k = .bus2 || k = .bus3) || im.belt.busFault ≠ 0)
  { im with belt := { im.belt with
    conds := Vector.ofFn (fun i : Fin 6 =>
      let c := im.belt.conds.get i
      { c with run := if on (allConds.getD i.val .bus1) then c.run + 1 else 0 })
    clearSince := if allConds.any (fun k => on k && decide (im.belt.next ≤ condLevel k)) then none
      else im.belt.clearSince } }

/-! ## The stitch -/

/-- Advance to the next stitch: after frame work its stitch 0; the frame counter rises with stitch 0 (R6). -/
def Image.nextStitch (im : Image) : Image :=
  let c := im.clk
  if c.boundary then { im with clk := { c with boundary := false } }
  else if c.stitch < 15 then { im with clk := { c with stitch := c.stitch + 1 } }
  else { im with clk := { c with stitch := 0, frame := wrap 64 (c.frame + 1) } }

/-- The lowest g so far (0x2101:05) and in the cycles in progress (R57, R196), in 1/64. -/
def Image.noteG (im : Image) : Image :=
  let g := im.clk.g / 64
  let low := im.reg 0x2101 5
  let im := if low = 0 || g < low then im.setReg 0x2101 5 g else im
  im.eachDoor (fun im d => im.onDoor d (fun w => { w with cycle := w.cycle.map (fun c => { c with lowestG := min c.lowestG g }) }))

/-- The work of a stitch. -/
def Image.stitchWork (im : Image) (x : StitchSample) : Image :=
  let im := im.nextStitch.applyDuties
  let im := (((im.sampleInputs x).sampleEdges x).sampleChans x).sampleSupply x.supply
  (((im.sampleAxes x).credits.stitchAxes.drainTicks).slew).noteG

end Sys2Proof.Machine
end

