-- ==== Sys2Proof/Machine/Time.lean ====
section
/-! DEFINITION. The four times (R197 to R205): the advance of a frame, the wall time's slew and step, clock quality, the
save of the operating time; and the payload of the clock-set record (R397). -/

namespace Sys2Proof.Machine

/-- Least `n` with `us ≤ 4^n`, at most 15 (R205). -/
def boundOf (us : Nat) : Nat := (List.range 15).foldr (fun n r => if us ≤ 4 ^ n then n else r) 15

/-- The error bound of the wall time: 20 ppm of the time since the last synchronisation, on top of the last measured
offset still to be slewed; unknown before the first one (R205). -/
def Image.clockBound (im : Image) : Nat :=
  let c := im.clk
  if c.source = 0 && c.boundFrom = 0 then 15
  else boundOf (c.slewUs.natAbs + (im.now - c.boundFrom) / 50)

/-- The clock-quality byte (R205). -/
def Image.quality (im : Image) : Nat :=
  im.clk.source * 64 + b2n im.clk.invalid * 32 + b2n im.clk.slewing * 16 + im.clockBound

/-- Wall time as it stands in records: TAI seconds and milliseconds. -/
def taiOf (us : Nat) : Nat := wrap 40 (us / 1000000)
def msOf (us : Nat) : Nat := us / 1000 % 1000
def Image.tai (im : Image) : Nat := taiOf im.clk.wallUs
def Image.wallMs (im : Image) : Nat := msOf im.clk.wallUs

/-- Seven bytes of wall time. -/
def wallBytes (us : Nat) : Bytes := le 5 (taiOf us) ++ le 2 (msOf us)

/-- The UTC offset in force, s (0x2102:05): the one last taken from a source, else 0x2104:07 (R201). -/
def Image.utcOffset (im : Image) : Int :=
  if im.clk.utcSynced then im.sreg 0x2102 5 else im.sreg 0x2104 7

/-- Payload of the clock-set record (R397). -/
def clockSetPayload (old new : Nat) (cause : Nat) (utc : Int) (qOld qNew : Nat) : Bytes :=
  wallBytes old ++ wallBytes new ++ [cause, 0] ++ le 8 (encInt 64 (((new : Int) - old) / 1000)) ++
    le 2 (encInt 16 utc) ++ [qOld, qNew]

/-- A step of the wall time (R203): the record, EV25, the step count and 0x2103:05; the invalid bit clears (R204).
`cause`: 1 PTP, 2 SNTP, 3 write; after a loss of the backup domain it is 4. -/
def Image.stepWall (im : Image) (new cause : Nat) : Image :=
  let old := im.clk.wallUs
  let q0 := im.quality
  let cause := if im.clk.invalid then 4 else cause
  let ms := ((new : Int) - old) / 1000
  let im := { im with clk := { im.clk with
    wallUs := new, slewUs := 0, slewFrac := 0, slewing := false, invalid := false, backup := false } }
  let im := (im.bump 0x2103 4).setSreg 0x2103 5 ms
  let im := im.occur 25 modScope ⟨0, cause, ms⟩
  im.draft ⟨3, 0x06, 0, 25, 0, clockSetPayload old new cause im.utcOffset q0 im.quality⟩

/-- A measured offset of the wall time, µs, to be removed (R203): slewed below the step threshold, stepped from it on
and while the wall time is invalid (R204). `src`: 1 PTP, 2 SNTP. -/
def Image.discipline (im : Image) (src : Nat) (offsetUs : Int) : Image :=
  let im := (im.setSreg 0x2104 2 offsetUs)
  let im := { im with clk := { im.clk with source := src, boundFrom := im.now } }
  let im := im.clearEv 26 modScope Source.zero
  let threshold := im.reg 0x2104 3 * 1000
  if im.clk.invalid || decide (threshold ≤ offsetUs.natAbs) then
    im.stepWall ((im.clk.wallUs : Int) - offsetUs).toNat src
  else
    { im with clk := { im.clk with slewUs := -offsetUs, slewing := decide (offsetUs ≠ 0) } }

/-- One frame of wall time: 1,000 µs, and the slew at no more than 0x2104:04 ppm. -/
def Image.tickWall (im : Image) : Image :=
  let c := im.clk
  if c.slewUs = 0 then { im with clk := { c with wallUs := c.wallUs + 1000, slewing := false, slewFrac := 0 } }
  else
    let f := c.slewFrac + im.reg 0x2104 4
    let n := min (f / 1000) c.slewUs.natAbs
    let s : Int := if 0 ≤ c.slewUs then 1 else -1
    let left := c.slewUs - s * n
    { im with clk := { c with
      wallUs := ((c.wallUs : Int) + 1000 + s * n).toNat, slewUs := left, slewFrac := f % 1000,
      slewing := decide (left ≠ 0) } }

/-- One frame of every time (R197): the operating time runs whenever the logic is powered. -/
def Image.tickTimes (im : Image) : Image :=
  { im with clk := { im.clk with opMs := im.clk.opMs + 1 } }.tickWall

/-- PTP synchronisation is valid (R501): the port is a slave, a Sync has come within three of the master's announced
intervals, the mean path delay is below 10 ms. -/
def Image.ptpValid (im : Image) : Bool :=
  im.reg 0x290A 3 == 9 && decide (im.reg 0x290A 5 < 10000000) &&
    (match im.clk.lastPtp with | some f => decide (im.now ≤ f + 3 * im.clk.ptpInterval) | none => false)

/-- What a Sync leaves: the run of valid ones goes on, or ends with one that is not valid (R202, R501). -/
def Clock.synced (c : Clock) (valid : Bool) (now since interval : Nat) : Clock :=
  if valid then { c with lastPtp := some now, ptpRunSince := some since, ptpInterval := interval }
  else { c with ptpRunSince := none, ptpInterval := interval }

/-- Operating time is written to FRAM once per second (R198). -/
def Image.saveOp (im : Image) : Image :=
  if im.clk.opSaved + 100 ≤ im.op || im.op < im.clk.opSaved then { im with clk := { im.clk with opSaved := im.op } } else im

/-- The operating time a start resumes from: the saved value and 1 s (R198). -/
def resumeOp (saved : Nat) : Nat := wrap 40 (saved + 100)

/-- A write of 1 to 0x2103:03 (R203, R206): `none` where a source disciplines the time and 0x2104:06 is 0. -/
def Image.setWall (im : Image) : Option Image :=
  if (im.clk.source = 1 || im.clk.source = 2) && im.reg 0x2104 6 = 0 then none
  else
    let im' := im.stepWall ((im.reg 0x2103 1 * 1000 + im.reg 0x2103 2) * 1000) 3
    some { im' with clk := { im'.clk with source := 3, boundFrom := im.now } }

/-- The preferred source has been silent for 0x2104:05: SNTP takes over, and without it the time runs free with EV26
(R202). -/
def Image.sourceTimeout (im : Image) : Image :=
  let c := im.clk
  let lim := 1000 * im.reg 0x2104 5
  let ptpLate := match c.lastPtp with | some f => decide (f + lim ≤ im.now) | none => decide (im.inp.sup.since + lim ≤ im.now)
  let sntpLate := match c.lastSntp with | some f => decide (f + lim ≤ im.now) | none => decide (im.inp.sup.since + lim ≤ im.now)
  let im := if ptpLate then { im with clk := { im.clk with
      ptpRunSince := none, source := if c.source = 1 then (if sntpLate then 0 else 2) else c.source } } else im
  if ptpLate && sntpLate then
    let im := { im with clk := { im.clk with source := if im.clk.source = 3 then 3 else 0 } }
    im.raise 26 modScope Source.zero
  else im

end Sys2Proof.Machine
end

