-- ==== Sys2Proof/Machine/Supply.lean ====
section
/-! DEFINITION. The supply and the Belt in the frame (R212 to R242): level decision and effect, hold stops and their
resumption (R118, R119), g_c (R224), input loss and the power-loss commit (R222, R230), Rest mode (R232, R233), the
hold-up store, the motor bus, the backup cell. -/

namespace Sys2Proof.Machine

/-! ## Levels -/

/-- The image's condition bits (0x2105:02). -/
def Belt.condBits (b : Belt) : Nat := bitsToNat ((allFin 6).map (fun i => (b.conds.get i).confirmed))

/-- The highest level a confirmed condition enters. -/
def Belt.wanted (b : Belt) : Nat :=
  allConds.foldl (fun m c => if (b.conds.get c.idx).confirmed then max m (condLevel c) else m) 0

/-- A condition of a level or a higher one holds. -/
def Belt.holds (b : Belt) (level : Nat) : Bool :=
  allConds.any (fun c => decide (level ≤ condLevel c) && ((b.conds.get c.idx).confirmed || decide (0 < (b.conds.get c.idx).run)))

/-- The confirmation of a condition (R219); a confirmed sag that enters level 1 raises EV00 (R221). -/
def Image.confirmCond (im : Image) (c : BeltCond) : Image :=
  if (im.belt.conds.get c.idx).run < im.reg 0x2105 7 then im
  else
    let im := { im with belt := { im.belt with conds := upd im.belt.conds c.idx (fun x => { x with confirmed := true }) } }
    if c = .sag && im.belt.level = 0 && im.belt.next = 0 then im.raise 0 modScope ⟨0, 0, im.belt.vin⟩ else im

/-- The ceiling of g_c at a level, 1/64 (R220). -/
def gCeiling (level : Nat) : Nat := match level with | 0 => 64 | 1 => 48 | _ => 32

/-- The core clock of a level, MHz; Rest runs at 150 MHz (R220, R232). -/
def coreOf (level : Nat) (rest : Bool) : Nat := if rest then 150 else match level with | 0 => 600 | 1 => 300 | _ => 150

/-- Section D decides the level; it takes effect at the next frame boundary (R220). -/
def Image.decideLevel (im : Image) : Image :=
  let b := im.belt
  let want := b.wanted
  let im := { im with
    belt := { b with
      clearSince := if b.holds b.next then none
        else match b.clearSince with | some f => some f | none => some im.now } }
  let im := if b.next < want then
      (im.bump 0x2105 (2 + want)) |> fun im => { im with belt := { im.belt with next := want, clearSince := none } }
    else im
  let im := { im with
    belt := { im.belt with
      conds := Vector.ofFn (fun i : Fin 6 =>
        { im.belt.conds.get i with confirmed := (im.belt.conds.get i).confirmed && decide (0 < (im.belt.conds.get i).run) }) } }
  if im.evActive 0 modScope && (im.belt.conds.get (BeltCond.idx .sag)).run = 0 then im.clearEv 0 modScope ⟨0, 0, im.belt.vin⟩ else im

/-- Step down one level after the exit hysteresis (R223). -/
def Image.stepDown (im : Image) : Image :=
  let b := im.belt
  if b.next = b.level && decide (0 < b.level) && im.elapsed b.clearSince (im.reg 0x2105 6) then
    { im with belt := { b with next := b.level - 1, clearSince := some im.now } }
  else im

/-- Hold stops at the entry of level 3 (R118): from the present wall-time velocity and acceleration (R193), in wall time. A
retarget stop goes on to its planned end in wall time (R138), an obstacle stop too (R175). -/
def Image.holdStops (im : Image) : Image :=
  let g := im.clk.g
  let rate := im.clk.gRate
  let im := im.eachDoor (fun im d => [Group.leaves, .step].foldl (fun (im : Image) h =>
    let c := im.groupTerms d h
    im.onGen d h (fun w => w.holdStop c g rate)) im)
  im.eachAxis (fun im a =>
    let c := im.soloTerms a
    im.onAxis a (fun x => { x with solo := x.solo.holdStop c g rate }))

/-- A move that a hold stop interrupted is replanned from standstill with the remaining duration (R119). -/
def Gen.leaveHold (w : Gen) (c : Terms) : Gen :=
  match w.held with
  | some h => if h.cause = .belt && w.atRest && !w.reactionDue then w.resume c h.aim else w
  | none => w

/-- Below level 3, once a hold stop has come to rest, the move it interrupted goes on; a target that waited for the stop is
planned in its place (R119, R138). -/
def Image.resumeHeld (im : Image) : Image :=
  let im := im.eachDoor (fun im d =>
    if im.heldUp d then im
    else [Group.leaves, .step].foldl (fun (im : Image) h =>
      let im := im.retargetDone d h
      let c := im.groupTerms d h
      im.onGen d h (fun w => w.leaveHold c)) im)
  im.eachAxis (fun im a =>
    let c := im.soloTerms a
    im.onAxis a (fun x => { x with solo := x.solo.leaveHold c }))

/-- The channels to be shed at a level: classes shed (R228), bit 1 class 1, bit 2 class 2. -/
def classesShed (level : Nat) : Nat := match level with | 3 => 6 | 2 => 4 | _ => 0

/-- The frame boundary: the decided level, core clock and profile clock take effect (R188, R194, R220, R228). -/
def Image.levelEffect (im : Image) : Image :=
  let b := im.belt
  let old := b.level
  let new := b.next
  let gc := min im.clk.gc (gCeiling new)
  let im := { im with clk := { im.clk with core := coreOf new b.rest }, belt := { b with level := new } }
  let im := if new = old then im
    else if new = 3 then
      let im := { im with clk := { im.clk with gc := gc } }.holdStops
      { im with clk := { im.clk with stopped := true, gFine := gc * 64 * gUnit, gRate := 0 } }
    else if old = 3 then
      { im with clk := { im.clk with stopped := false, gc := gc, gFine := gc * 64 * gUnit, gRate := 0 } }
    else { im with clk := { im.clk with gc := gc } }
  let im := if new < 3 then im.resumeHeld else im
  im.setReg 0x2109 1 (classesShed new)

/-- The commanded g follows the credit pressure, by at most one step at a frame boundary; what was gathered at level 3
(`held`) counts for nothing (R224). -/
def Image.adjustG (im : Image) (held : Bool) : Image :=
  let b := im.belt
  let im := { im with belt := { b with
    lowerDue := false, unmetSeen := false, calm := if b.unmetSeen then 0 else b.calm + 1 } }
  if b.level = 3 || held then im
  else if b.lowerDue then { im with clk := { im.clk with gc := max 16 (im.clk.gc - 1) } }
  else if 64 ≤ im.belt.calm && im.clk.gc < gCeiling b.level then { im with clk := { im.clk with gc := im.clk.gc + 1 } }
  else im

/-- The supply figures of a frame: the budgets are held below 40 V (R213); the mean V_in over the last 10 s (R221); the
derating factor and the temperature events (R229); the credit totals (R227). -/
def Image.supplyFrame (im : Image) : Image :=
  let b := im.belt
  let log := (b.vin :: b.vinLog).take 10000
  let sum := b.vinSum + b.vin - (if b.vinLog.length < 10000 then 0 else b.vinLog.getLastD 0)
  let live := decide (400 ≤ b.vin)
  let im := { im with belt := { b with
    pIn := if live then inputBudget b.vin else b.pIn, kT := derating b.ambient,
    vinSum := sum, vinLog := log, vinMean := sum / log.length,
    issued := 0, granted := 0, unclaimed := 0, totals := ((im.now, b.issued, b.granted, b.unclaimed) :: b.totals).take 8
    busLowSince := if 100 * b.bus < 80 * im.reg 0x2107 1 && b.converter && b.restWaking.isNone && live then
      (match b.busLowSince with | some f => some f | none => some im.now) else none } }
  let im := if live then { im with belt := { im.belt with pm := im.motionBudget, pk := im.peakBudget } } else im
  let im := ((im.bumpBy 0x2108 2 b.issued).bumpBy 0x2108 3 b.granted).bumpBy 0x2108 4 b.unclaimed
  let im := if im.sreg 0x210B 3 < b.ambient then im.setSreg 0x210B 3 b.ambient else im
  if 700 < b.ambient then im.raise 4 modScope ⟨0, 0, b.ambient⟩ else im.clearEv 4 modScope ⟨0, 0, b.ambient⟩

/-! ## Input loss -/

/-- Axes in motion. -/
def Image.axesMoving (im : Image) : Nat := ((allFin 36).filter im.axisMoving).length

/-- Input loss is declared (R222): V_in below 40 V for the ride-through time, or the link below 360 V with it. -/
def Image.declareLoss (im : Image) : Image :=
  let b := im.belt
  if b.lostAt.isNone && decide (b.vin < 400) && (im.elapsed b.absentSince (im.reg 0x2106 7) || decide (b.link < 3600)) then
    let im := (im.bump 0x2106 8).raise 1 modScope ⟨0, 0, b.vin⟩
    { im with belt := { im.belt with
      lostAt := some im.now, lossVin := b.vin, lossLevel := b.level, lossMoving := im.axesMoving,
      conds := upd im.belt.conds (BeltCond.idx .loss) (fun x => { x with confirmed := true, run := x.run + 1 }) } }
  else im

/-- Why the power-loss commit starts now (R230, R396): 1 after 0x210A:03, 2 link below 300 V, 3 EV03 active; 0: not yet. -/
def Image.lossCommitCause (im : Image) : Nat :=
  let b := im.belt
  match b.lostAt with
  | none => 0
  | some f =>
    if b.commitDone then 0
    else if b.link < 3000 then 2
    else if im.evActive 3 modScope && decide (f + 500 ≤ im.now) then 3
    else if f + im.reg 0x210A 3 ≤ im.now then 1
    else 0

/-- Payload of the power-loss record (R396). -/
def Image.powerLossPayload (im : Image) (cause : Nat) (abandoned : Nat) : Bytes :=
  let b := im.belt
  let f := b.lostAt.getD im.now
  [cause, b.lossLevel] ++ le 2 b.lossVin ++ le 2 b.link ++ le 2 b.holdup ++ le 2 (im.now - f) ++ le 2 abandoned ++
    [b.lossMoving, 0, 0, 0] ++ le 8 f ++ wallBytes im.clk.wallUs ++ le 5 im.op

/-- The image's part of the power-loss commit (R230): cycles abandoned with outcome 5, teaches ended with result 6
(R180), the record, operating and wall time saved; bridges off, channels in their safe states. -/
def Image.lossCommit (im : Image) (cause : Nat) : Image :=
  let open_ := bitsToNat ((allFin 12).map im.inProgress)
  let im := im.eachDoor (fun im d => (((im.brakeDoor d none false).abandon d 5).endTeach d 6).endWindow d false)
  let im := im.draft ⟨1, 0x05, 0, 1, 0, im.powerLossPayload cause open_⟩
  let im := { im with clk := { im.clk with opSaved := im.op, wallSaved := im.clk.wallUs }, belt := { im.belt with commitDone := true } }
  let im := im.eachDoor (fun im d => im.lockOff d)
  im.eachChan (fun im c => im.onChan c (fun x => { x with out := decide (im.creg c 0 2 = 1) }))

/-- The input returns (R236, R216): before the commit EV01 clears and nothing is abandoned. The ride-through's length is
shown in 0x210A:04, and the link is recharged. A confirmed loss stays so until the image has taken it (R219). -/
def Image.inputBack (im : Image) (vin : Nat) : Image :=
  let b := im.belt
  let im := match b.absentSince with | some f => im.setReg 0x210A 4 (im.now - f) | none => im
  let im := im.clearEv 1 modScope ⟨0, 0, vin⟩
  { im with belt := { im.belt with
    vin := vin, absentSince := none, lostAt := none, recharge := b.recharge || (b.absentSince.isSome && decide (b.link < 4000))
    conds := upd im.belt.conds (BeltCond.idx .loss) (fun x => { x with run := 0 }) } }

/-- A measurement of the hold-up store (R215). -/
def Image.measureHoldup (im : Image) (joules : Nat) : Image :=
  let im := { im with belt := { im.belt with holdup := joules } }.setReg 0x210A 1 joules
  if joules < 450 then im.raise 3 modScope ⟨0, 0, joules⟩ else im.clearEv 3 modScope ⟨0, 0, joules⟩

/-- The converter shuts down (R217): over 120 % for 2 stitches (cause 1), below 80 % for 100 ms (cause 2). The bus then
enters level 3 by its own condition (R220). -/
def Image.busFault (im : Image) (excess : Bool) : Image :=
  let b := im.belt
  let ok := if excess then decide (2 ≤ b.busHigh) else im.elapsed b.busLowSince 100
  if ok && b.converter then
    let im := { im with belt := { b with converter := false, busFault := if excess then 1 else 2 } }
    (im.bump 0x2107 8).latch 2 modScope ⟨0, if excess then 1 else 2, b.bus⟩ false
  else im

/-- The clear of EV02 restarts the converter (R581). -/
def Image.clearModule (im : Image) : Image :=
  let had := bitOf (im.ev.scopes.get modScope).latched 2
  let im := im.release 2 modScope
  if had then { im with belt := { im.belt with converter := true, busFault := 0 } } else im

/-! ## Rest mode -/

/-- The conditions of R232. -/
def Image.mayRest (im : Image) : Bool :=
  (allFin 12).all (fun d => !im.fitted d || (im.door d).st = .locked || (im.door d).st = .isolated ||
    (im.door d).st = .faultHeld) &&
  !im.token .a && !im.token .b

/-- A Rest-inhibit input function is on (R293, function 2). -/
def Image.restInhibit (im : Image) : Bool :=
  (allFin 5).any (fun n => im.tiFunction n == 2 && im.ti ⟨n.val + 11, by omega⟩)

/-- Enter Rest mode (R232): the motor bus and the bridges off, both lanes at 150 MHz. -/
def Image.enterRest (im : Image) : Image :=
  let im := { im with
    belt := { im.belt with rest := true, restWaking := none, restSince := none, converter := false } }
  (im.setReg 0x210C 3 1).bump 0x210C 4

/-- Entry by the Rest delay: TI11 false for 0x210C:02 (R232). -/
def Image.restByDelay (im : Image) : Image :=
  let delay := im.reg 0x210C 2
  if !im.belt.rest && delay != 0 && im.elapsed im.belt.restSince (1000 * delay) && im.mayRest && !im.restInhibit then
    im.enterRest else im

/-- Leave Rest mode (R233): the bus and bridges will be ready within 200 ms. -/
def Image.leaveRest (im : Image) : Image :=
  if im.belt.rest then
    { im with belt := { im.belt with rest := false, restWaking := some im.now, converter := im.belt.busFault = 0 } }.setReg
      0x210C 3 0
  else im

/-- The wake conditions that show in the image: TI11, a release pair; a change of a doorway's state (R233). -/
def Image.restMustEnd (im : Image) : Bool :=
  im.ti 10 || im.permits.relA.reading || im.permits.relB.reading || (allFin 12).any (fun d => (im.door d).moved)

/-- The bus and the bridges are ready (R233). -/
def Image.restReady (im : Image) : Image := { im with belt := { im.belt with restWaking := none } }

/-- A measurement of the backup cell (R234). -/
def Image.measureCell (im : Image) (mv : Nat) : Image :=
  let im := { im with belt := { im.belt with cellMv := mv } }.setReg 0x210D 1 mv
  if mv < 2600 then im.raise 5 modScope ⟨0, 0, mv⟩ else im.clearEv 5 modScope ⟨0, 0, mv⟩

/-- The Rest delay runs while TI11 reads false in the image (R232). -/
def Image.restTimer (im : Image) : Image :=
  { im with
    belt := { im.belt with
      restSince := if im.ti 10 then none else match im.belt.restSince with | some f => some f | none => some im.now } }

end Sys2Proof.Machine
end

