-- ==== Sys2Proof/Machine/Channels.lean ====
section
/-! DEFINITION. The load channels (R243 to R275): what commands a channel (R60, R262), flashing (R261), switching (R246),
shedding (R228), trips, retries and latches (R246 to R253), measurement (R254 to R258), disabling (R265), the bank
supplies (R244, R270) and the train outputs (R100, R606). -/

namespace Sys2Proof.Machine

/-- The role of a channel (R60). -/
def Image.chanRole (im : Image) (c : Chan) : Nat := im.dreg (chanDoor c) 8 (chanN c + 1)

/-- A channel in service: its bank's doorway is fitted and not Isolated; CH13 to CH16 are unavailable in Overlay mode
(R264). -/
def Image.chanServes (im : Image) (c : Chan) : Bool :=
  im.fitted (chanDoor c) && (im.door (chanDoor c)).st != .isolated &&
    !(im.reg 0x2FF0 1 == 1 && decide (12 ≤ chanN c))

/-- The warning outputs run (R28). -/
def Image.warning (im : Image) (d : Door) : Bool :=
  match (im.door d).st with
  | .warning | .reversing => true
  | .stepExtending | .opening => im.dreg d 7 7 == 1
  | .closing => im.dreg d 7 6 == 1
  | .manual => (allFin 3).any (fun k => (im.axis (axisOf d k)).solo.move.isSome)
  | _ => false

/-- An event whose reaction byte has bit 2 set is active or latched for the doorway (R580). -/
def Image.lampEvent (im : Image) (d : Door) : Bool :=
  (List.range 64).any (fun n => bitOf (im.reaction n) 2 && im.evSet n (doorScope d))

/-- What a channel is told: off, on, or flash with its on and off times in frames. -/
inductive Drive | off | on | flash (onMs offMs : Nat)
deriving DecidableEq, Repr

/-- What commands a channel (R60, R262, R295). -/
def Image.drive (im : Image) (c : Chan) : Drive :=
  let d := chanDoor c
  let st := (im.door d).st
  let lamp := fun (b : Bool) => if b then Drive.on else Drive.off
  match im.chanRole c with
  | 0 => match im.creg c 1 1 with
    | 1 => .on
    | 2 => .flash (im.creg c 0 0x0B) (im.creg c 0 0x0C)
    | _ => .off
  | 1 | 2 | 3 => lamp (im.door d).lockOn
  | 4 => if im.warning d then .flash (im.dreg d 7 2) (im.dreg d 7 3) else .off
  | 5 | 9 => if im.warning d then .flash (im.dreg d 7 4) (im.dreg d 7 5) else .off
  | 6 | 7 => lamp (st = .released || st = .opened)
  | 8 => lamp (im.selective && !im.member d && im.dreg d 0x0D 2 == 1)
  | 10 => lamp (st = .faultHeld || st = .emergency || im.lampEvent d)
  | _ => .off

/-- The commanded state at a frame boundary, with the flash phase (R261): every phase lasts at least 2 frames. -/
def Channel.command (x : Channel) (dr : Drive) (now : Nat) : Channel :=
  let age := now - x.phaseSince
  let toggle := fun (x : Channel) => { x with
    cmd := !x.cmd, phaseOn := !x.cmd, phaseSince := now, cmdOffSince := if x.cmd then now else x.cmdOffSince }
  let settle := fun (x : Channel) (b : Bool) =>
    if x.flashing && decide (age < 2) then x
    else
      { x with
        cmd := b, phaseOn := b, flashing := false,
        phaseSince := if b = x.cmd then x.phaseSince else now,
        cmdOffSince := if !b && x.cmd then now else x.cmdOffSince }
  match dr with
  | .off => settle x false
  | .on => settle x true
  | .flash a b =>
    if !x.flashing then { x with flashing := true, cmd := true, phaseOn := true, phaseSince := now }
    else if (if x.cmd then max 2 a else max 2 b) ≤ age then toggle x
    else x

/-- A switch-on (R246): the inrush window starts; it counts, and a pending retry that it makes good is used up (R267). -/
def Image.switchOn (im : Image) (c : Chan) : Image :=
  let x := im.chan c
  let retry := x.retryDue.isSome
  let im := im.bumpC c 3 1
  let im := if retry then (im.setCreg c 1 7 (im.creg c 1 7 - 1)).bumpC c 3 5 else im
  im.onChan c (fun x => { x with
    out := true, inrushEnd := im.now + im.creg c 0 4, onSince := im.now, retryDue := none, retryBehind := false, peak := 0,
    oc := false })

/-- CH13 to CH16 are forced to disabled in Overlay mode (R530). -/
def Image.chanForced (im : Image) (c : Chan) : Bool := im.overlay && decide (12 ≤ chanN c)

/-- A channel holds its safe state: it is disabled, out of service, or forced to disabled by Overlay mode (R263, R530). -/
def Image.chanSafe (im : Image) (c : Chan) : Bool := (im.chan c).disabled || !im.chanServes c || im.chanForced c

/-- The state a channel is told to take: its safe state, or its commanded state (R262, R263). -/
def Image.chanTold (im : Image) (c : Chan) : Bool :=
  if im.chanSafe c then im.creg c 0 2 == 1 else (im.chan c).cmd

/-- A channel may be on at this boundary: it is supplied, and neither latched nor shed (R228, R248, R252, R270). -/
def Image.mayConduct (im : Image) (c : Chan) : Bool :=
  let x := im.chan c
  !x.ocLatched && !x.thDT && !x.thTJ && !x.shed && (im.door (chanDoor c)).bankPresent

/-- What the switch does at a frame boundary: the state it is told where nothing holds it off. A draining channel takes no
new work, but goes off where it must (R9, R228). A retry that is due but held back is made good by the next switch-on
(R267); one not yet due waits for its time. -/
def Image.switchChan (im : Image) (c : Chan) : Image :=
  let x := im.chan c
  let waiting := match x.retryDue with | some f => decide (im.now < f) || !x.retryBehind | none => false
  let asked := if x.drain.isSome then x.out else im.chanTold c && !waiting
  let want := asked && im.mayConduct c
  if want && !x.out then im.switchOn c
  else if !want && x.out then im.onChan c (fun x => { x with out := false })
  else im

/-- The classes shed at the level in force, and the channels restored, at most 0x2109:03 at a boundary, in ascending
order (R228). -/
def Image.shedding (im : Image) : Image :=
  let classes := im.reg 0x2109 1
  let r := (allFin 192).foldl (fun (p : Image × Nat) c =>
    let im := p.1
    let x := im.chan c
    let cls := im.creg c 0 3
    let must := decide (cls ≠ 0) && bitOf classes cls && im.fitted (chanDoor c)
    if must then (im.onChan c (fun x => { x with shed := true }), p.2)
    else if x.shed && decide (0 < p.2) then (im.onChan c (fun x => { x with shed := false }), p.2 - 1)
    else p) (im, im.reg 0x2109 3)
  r.1.setReg 0x2109 2 (((allFin 192).filter (fun c => (r.1.chan c).shed)).length)

/-- The frame mean and the flags it decides (R254, R255, R258): stuck on, open-load counts. -/
def Image.measureChan (im : Image) (c : Chan) : Image :=
  let x := im.chan c
  let d := chanDoor c
  let mean : Int := if x.samples = 0 then x.mean else x.sum / x.samples
  let shownMean : Int := if 3840 ≤ x.code then 32767 else mean
  let im := im.onChan c (fun x => { x with
    mean := mean, sum := 0, samples := 0, onMs := if x.out then x.onMs + 1 else x.onMs })
  let im := (im.setCreg c 2 2 (encInt 16 shownMean)).setCreg c 2 6 (encInt 16 x.peak)
  let im := if x.out && (x.onMs + 1) % 1000 = 0 then im.bumpC c 3 8 else im
  let off := !x.out && !x.senseFault && (im.door d).bankPresent
  let run := if off && decide (100 < mean) then x.stuckRun + 1 else 0
  let low := if im.creg c 0 1 = 1 then decide (x.fine < im.creg c 0 7) else decide (mean < im.creg c 0 6)
  let armed := x.out && decide (x.inrushEnd ≤ im.now) && !x.senseFault &&
    (if im.creg c 0 1 = 1 then im.creg c 0 7 != 0 else im.creg c 0 6 != 0)
  let im := im.onChan c (fun x => { x with
    stuckRun := run
    stuckClear := if mean < 100 then x.stuckClear + 1 else 0
    openRun := if !armed then x.openRun else if low then x.openRun + 1 else 0
    openClear := if !armed then x.openClear else if low then 0 else x.openClear + 1
    cleanCodes := if x.forbRun = 0 then x.cleanCodes + 1 else 0
    coolSince := if (x.thDT || x.thTJ) && decide (x.deltaT ≤ 10 * (im.creg c 0 5 : Int) - 100) && decide (x.junction ≤ 1500)
      then (match x.coolSince with | some f => some f | none => some im.now) else none })
  let im := if 2 ≤ run && !x.stuck then
      (im.onChan c (fun x => { x with stuck := true })).occur 55 (doorScope d) ⟨c.val + 1, 4, mean⟩
    else im
  let im := if x.senseFault && decide (1000 ≤ x.cleanCodes) then
      im.onChan c (fun x => { x with senseFault := false, cleanCodes := 0 })
    else im
  if x.stuck && decide (1000 ≤ x.stuckClear) then
    im.onChan c (fun x => { x with stuck := false })
  else im

/-- The channel work of a frame boundary (R56, R260); a draining channel keeps its present dwell (R10). -/
def Image.frameChan (im : Image) (c : Chan) : Image :=
  let dr := im.drive c
  ((im.measureChan c).onChan c (fun x => if x.drain.isSome then x else x.command dr im.now)).switchChan c

/-- The switch-on of the lock channels of an unlock takes effect with its ledger action, in that stitch (R22, R260). -/
def Image.unlockChans (im : Image) (as : List LedgerAction) : Image :=
  as.foldl (fun (im : Image) a => match a with
    | .unlock d => (allFin 16).foldl (fun (im : Image) n =>
        let c := chanOf d n
        if (im.door d).lockOn && 1 ≤ im.chanRole c && decide (im.chanRole c ≤ 3) then
          (im.onChan c (fun x => x.command .on im.now)).switchChan c
        else im) im
    | _ => im) im

/-! ## Trips and latches -/

/-- What a lane does about a trip (R250): it counts, EV55, and a retry falls due or the latch sets. -/
def Image.tripSeen (im : Image) (c : Chan) : Image :=
  let x := im.chan c
  let d := chanDoor c
  let im := im.bumpC c 3 2
  let im := if x.short then im.bumpC c 3 3 else im
  let im := im.occur 55 (doorScope d) ⟨c.val + 1, if x.short then 2 else 1, x.mean⟩
  if im.creg c 1 7 = 0 then
    (im.onChan c (fun x => { x with ocLatched := true })).occur 55 (doorScope d) ⟨c.val + 1, 3, x.mean⟩
  else im.onChan c (fun x => { x with retryDue := some (im.now + im.creg c 0 0x0A) })

/-- An over-current or short-circuit trip (R246, R247): off in hardware; a lane that runs takes account of it (R249). -/
def Image.tripChan (im : Image) (c : Chan) (short running : Bool) : Image :=
  let x := im.chan c
  if !x.out then im
  else
    let im := im.onChan c (fun x => { x with
      out := false, oc := true, lastTrip := im.now, limiting := false, short := short, unseen := !running })
    if running then im.tripSeen c else im

/-- A fourth thermal latch within 60 s latches over-current as well (R248); it counts, EV56. -/
def Image.thermalSeen (im : Image) (c : Chan) : Image :=
  let x := im.chan c
  let times := (x.latchTimes.filter (fun t => decide (im.now < t + 60000))) ++ [im.now]
  let fourth := decide (4 ≤ times.length)
  let im := (im.bumpC c 3 4).onChan c (fun x => { x with
    latchTimes := times, ocLatched := x.ocLatched || fourth, retryDue := if fourth then none else x.retryDue })
  im.raise 56 (doorScope (chanDoor c)) ⟨c.val + 1, if x.thDT then 1 else 2, if x.thDT then x.deltaT else x.junction⟩

/-- The thermal latch sets (R248), in hardware: cause 1 ΔT, cause 2 junction; a lane that runs takes account of it. -/
def Image.thermalChan (im : Image) (c : Chan) (dt tj : Int) (running : Bool) : Image :=
  let x := im.chan c
  let im := im.onChan c (fun x => { x with deltaT := dt, junction := tj })
  let hotD := decide (10 * (im.creg c 0 5 : Int) < dt)
  let hotJ := decide (1750 < tj)
  if x.thDT || x.thTJ || !(hotD || hotJ) then im
  else
    let im := im.onChan c (fun x => { x with
      out := false, thDT := hotD, thTJ := hotJ, coolSince := none, unseen := x.unseen || !running })
    if running then im.thermalSeen c else im

/-- What tripped or latched while no lane ran is taken account of once a lane's first commit has taken effect (R268). -/
def Image.seeChan (im : Image) (c : Chan) : Image :=
  let x := im.chan c
  if !x.unseen then im
  else
    let im := im.onChan c (fun x => { x with unseen := false })
    let im := if x.oc then im.tripSeen c else im
    if x.thDT || x.thTJ then im.thermalSeen c else im

/-- The thermal latch clears after 1 s below its clearance thresholds (R248, R251); with no lane running the hardware
alone judges it (R249). -/
def Image.thermalChanClear (im : Image) (c : Chan) (running : Bool) : Image :=
  let x := im.chan c
  if (x.thDT || x.thTJ) && (!running || im.elapsed x.coolSince 1000) then
    let d := chanDoor c
    let due := match x.retryDue with
      | some f => if f ≤ im.now then some (im.now + im.creg c 0 0x0A) else some f
      | none => none
    let im := im.onChan c (fun x => { x with thDT := false, thTJ := false, coolSince := none, retryDue := due, retryBehind := false })
    let still := (allFin 16).any (fun n => let y := im.chan (chanOf d n); y.thDT || y.thTJ)
    if im.evActive 56 (doorScope d) then im.clearItem 56 (doorScope d) ⟨c.val + 1, 0, x.deltaT⟩ still else im
  else im

/-- A retry falls due (R250, R251, R267): attempted at this boundary; behind the thermal latch, while shed or while the
command is off it is held. -/
def Image.retryChan (im : Image) (c : Chan) : Image :=
  let x := im.chan c
  match x.retryDue with
  | none => im
  | some f =>
    if im.now < f || x.ocLatched then im
    else if x.thDT || x.thTJ then im
    else if !im.chanTold c || x.shed then im.onChan c (fun x => { x with retryBehind := true })
    else if im.mayConduct c && decide (0 < im.creg c 1 7) then im.switchOn c
    else im

/-- The retries return to the limit after 10 s on without a trip (R250). -/
def Image.restoreRetries (im : Image) (c : Chan) : Image :=
  let x := im.chan c
  if x.out && decide (x.onSince + 10000 ≤ im.now) && decide (x.lastTrip + 10000 ≤ im.now) then
    im.setCreg c 1 7 (im.creg c 0 9)
  else im

/-- The over-current latch clears, and the retries return (R252). -/
def Image.clearChanLatch (im : Image) (c : Chan) : Image :=
  (im.onChan c (fun x => { x with ocLatched := false, oc := false, retryDue := none, retryBehind := false })).setCreg c 1 7
    (im.creg c 0 9)

/-- It clears once the commanded state has been off for 1 s (R252). -/
def Image.latchOffClear (im : Image) (c : Chan) : Image :=
  let x := im.chan c
  if x.ocLatched && !x.cmd && decide (x.cmdOffSince + 1000 ≤ im.now) then im.clearChanLatch c else im

/-- Open load (R258): the threshold undercut for the delay, over on-frames. -/
def Image.openLoadSeen (im : Image) (c : Chan) : Image :=
  let x := im.chan c
  if x.out && !x.openLoad && decide (im.creg c 0 8 ≤ x.openRun) && decide (0 < x.openRun) then
    ((im.onChan c (fun x => { x with openLoad := true })).bumpC c 3 7).raise 57 (doorScope (chanDoor c))
      ⟨c.val + 1, 0, x.mean⟩
  else im

/-- The flag clears after the same delay above the threshold. -/
def Image.openLoadGone (im : Image) (c : Chan) : Image :=
  let x := im.chan c
  let d := chanDoor c
  if x.openLoad && decide (im.creg c 0 8 ≤ x.openClear) && decide (0 < x.openClear) then
    let im := im.onChan c (fun x => { x with openLoad := false })
    im.clearItem 57 (doorScope d) ⟨c.val + 1, 0, x.mean⟩ ((allFin 16).any (fun n => (im.chan (chanOf d n)).openLoad))
  else im

/-! ## Disabling -/

/-- The states in which a lock channel may be disabled (R266). -/
def Image.lockMayStop (im : Image) (c : Chan) : Bool :=
  !(decide (1 ≤ im.chanRole c ∧ im.chanRole c ≤ 3)) || (im.door (chanDoor c)).st.axisMayStop

/-- The drain of a channel (R10): the flash dwell completes; a pending retry is cancelled and counted (R272). -/
def Image.drainChan (im : Image) (c : Chan) : Image :=
  let x := im.chan c
  if x.disabled || x.drain.isSome then im
  else
    let im := if x.retryDue.isSome then im.bumpC c 3 6 else im
    im.onChan c (fun x => { x with drain := some im.now, retryDue := none, retryBehind := false })

/-- The channel is out of service: the next frame boundary puts it into its safe state. -/
def Image.chanDisabled (im : Image) (c : Chan) : Image :=
  im.onChan c (fun x => { x with disabled := true, drain := none, flashing := false })

/-- The present flash dwell is complete: the channel does not flash, the time of its phase is over, or the bound of 2
frames is reached (R10, R261; log entry 140). -/
def Image.dwellOver (im : Image) (c : Chan) (asked : Nat) : Bool :=
  let x := im.chan c
  let phase := match im.drive c with
    | .flash a b => if x.cmd then max 2 a else max 2 b
    | _ => 2
  !x.flashing || decide (x.phaseSince + phase ≤ im.now) || decide (asked + 2 ≤ im.now)

/-- The drain is over: the dwell has completed, and the records that concern the doorway are committed (R9, R10). -/
def Image.chanDrainOver (im : Image) (c : Chan) : Image :=
  match (im.chan c).drain with
  | some f => if im.dwellOver c f && !im.recordsPending (doorScope (chanDoor c)) then im.chanDisabled c else im
  | none => im

/-- A forced disable (R11): the dwell and a pending retry cut short count one each; EV49 cause 5. -/
def Image.forceChan (im : Image) (c : Chan) : Image :=
  let x := im.chan c
  let n := b2n x.flashing + b2n x.retryDue.isSome
  let im := im.setCreg c 3 9 (im.creg c 3 9 + n)
  let im := (im.onChan c (fun x => { x with retryDue := none, retryBehind := false })).chanDisabled c
  im.ev49 (doorScope (chanDoor c)) (c.val + 1) 5 n

/-- The channel has still to reach its safe state before it reports that it is disabled (R9). -/
def Image.chanDraining (im : Image) (c : Chan) : Bool :=
  let x := im.chan c
  x.drain.isSome || (x.disabled && x.out && im.creg c 0 2 != 1)

/-- An enable after the drain (R265): the retries at their limit, the latches as the hardware holds them. -/
def Image.enableChan (im : Image) (c : Chan) : Image :=
  (im.onChan c (fun x => { x with disabled := false })).setCreg c 1 7 (im.creg c 0 9)

/-! ## Banks -/

/-- A reading of a bank supply (R244, R270): present at 18.0 V and above; its return restarts the inrush window of every
channel commanded on, its loss switches the bank's outputs off without a trip. -/
def Image.bankReading (im : Image) (d : Door) (v : Nat) : Image :=
  let was := (im.door d).bankPresent
  let now := decide (180 ≤ v)
  let im := (im.onDoor d (fun w => { w with bankVolts := v, bankPresent := now })).setDreg d 0x16 6 v
  let im := im.setDreg d 0x11 4 (b2n now)
  if was && !now then
    (allFin 16).foldl (fun im n => im.onChan (chanOf d n) (fun x => { x with out := false })) im
  else if !was && now then (allFin 16).foldl (fun im n => im.switchChan (chanOf d n)) im
  else im

/-- The bank's current, mA: the sum of its channels' frame means, without those in sense fault (R256). -/
def Image.bankCurrent (im : Image) (d : Door) : Nat :=
  ((allFin 16).foldl (fun (s : Int) n =>
    let x := im.chan (chanOf d n)
    if x.senseFault then s else s + x.mean) 0).toNat

/-- The bank checks of a frame: how long each cause has held (R244). -/
def Image.bankFrame (im : Image) (d : Door) : Image :=
  let a := im.bankCurrent d
  let im := im.setDreg d 0x16 7 (a / 100)
  let w := im.door d
  let on := fun (b : Bool) (n : Nat) => if b then n + 1 else 0
  let low := on (decide (w.bankVolts < 200)) w.bankLow
  let high := on (decide (1450 < w.bankVolts)) w.bankHigh
  let excess := on (decide (20000 < a)) w.bankOver
  let present := match w.bankFault with | 1 => low | 2 => high | 3 => excess | _ => 0
  im.onDoor d (fun w => { w with
    bankLow := low, bankHigh := high, bankOver := excess,
    bankAbsent := if present = 0 then (match w.bankAbsent with | some f => some f | none => some im.now) else none })

/-- EV58 (R244): cause 1 low, 2 high, 3 overload, once confirmed, while the doorway is not Isolated. -/
def Image.bankFault (im : Image) (d : Door) (cause : Fin 3) : Image :=
  let w := im.door d
  let ok := match cause with
    | 0 => decide (10 ≤ w.bankLow)
    | 1 => decide (10 ≤ w.bankHigh)
    | 2 => decide (1000 ≤ w.bankOver)
  if ok && im.fitted d && w.st != .isolated && w.bankFault = 0 then
    let im := (im.onDoor d (fun w => { w with bankFault := cause.val + 1, bankAbsent := none })).setDreg d 0x16 8 (cause.val + 1)
    im.raise 58 (doorScope d) ⟨0, cause.val + 1, w.bankVolts⟩
  else im

/-- EV58 clears once its cause has been absent for 1 s. -/
def Image.bankFaultGone (im : Image) (d : Door) : Image :=
  let w := im.door d
  if w.bankFault ≠ 0 && im.elapsed w.bankAbsent 1000 then
    ((im.onDoor d (fun w => { w with bankFault := 0, bankAbsent := none })).setDreg d 0x16 8 0).clearEv 58 (doorScope d)
      ⟨0, 0, w.bankVolts⟩
  else im

/-! ## What a channel reports -/

/-- The channel state of C+1:04. -/
def Image.chanState (im : Image) (c : Chan) : Nat :=
  let x := im.chan c
  if x.held then 9
  else if im.chanDraining c then 11
  else if x.disabled || im.chanForced c then 10
  else if x.thDT || x.thTJ then 6
  else if x.ocLatched then 5
  else if x.retryDue.isSome then 4
  else if x.shed then 7
  else if im.chanTold c && !(im.door (chanDoor c)).bankPresent then 8
  else if !x.out then 0
  else if im.now < x.inrushEnd then 2
  else if x.limiting then 3
  else 1

/-- The status flags of C+1:05 (R275). -/
def Image.chanFlags (im : Image) (c : Chan) : Nat :=
  let x := im.chan c
  bitsToNat [x.out, x.shed, x.out && decide (im.now < x.inrushEnd), x.limiting, x.retryDue.isSome, x.ocLatched, x.short,
    x.thDT, x.thTJ, x.openLoad, x.senseFault, x.stuck]

end Sys2Proof.Machine
end

