-- ==== Sys2Proof/Machine/InputOps.lean ====
section
/-! DEFINITION. The conditioned inputs in the frame (R276 to R300): the input image, faults and the values they read
(R281 to R284, R292), plausibility (R285), expectations (R286, R287), the comparison of the lanes (R288), thermistors
(R290, R291), the supervision of command sources and of the network permit (R294 to R296). -/

namespace Sys2Proof.Machine

/-! ## Fault values -/

/-- What a faulted doorway input reads, by its role (R282); `last`: the last valid value. -/
def roleFaultValue (role : Nat) (last : Bool) : Bool :=
  match role with
  | 7 | 13 => true
  | 8 => last
  | _ => false

/-- What a faulted train input reads (R292, R293). -/
def Image.tiFaultValue (im : Image) (n : Fin 16) : Bool :=
  if n.val = 8 || n.val = 9 || n.val = 10 then true
  else (allFin 5).any (fun k => k.val + 11 == n.val && im.tiFunction k == 2)

/-- The value a faulted input reads. -/
def Image.faultValue (im : Image) (i : InputId) : Bool :=
  match i with
  | .di d n => roleFaultValue (im.role d n) (im.input i).img
  | .ti n => im.tiFaultValue n

/-- A digital input enters the image (R16, R282): its fault value while in fault with causes 1 to 6. -/
def Image.latchInput (im : Image) (i : InputId) : Image :=
  let x := im.input i
  let v := if 1 ≤ x.fault && decide (x.fault ≤ 6) then im.faultValue i else x.filt
  im.onInput i (fun x => { x with img := v, latched := x.filt })

/-- The input image of a frame (R280). -/
def Image.latchImage (im : Image) : Image := allInputs.foldl Image.latchInput im

/-! ## Faults -/

/-- The cause codes of R281. -/
def causeCode : InputCause → Nat
  | .overRange => 1
  | .reverse => 2
  | .indeterminate => 3
  | .freshness => 4
  | .lanesDisagree => 5
  | .plausibility => 6
  | .expectation => 7
  | .hallCode => 8

/-- The event of a cause: EV60 for freshness and expectation, else EV59. -/
def causeEvent (c : Nat) : Nat := if c = 4 || c = 7 then 60 else 59

/-- The object of 0x2406 a cause counts in. -/
def causeCounter (c : Nat) : Nat := match c with | 4 => 5 | 5 => 4 | 6 => 3 | 7 => 2 | _ => 1

/-- An input fault in a doorway: latched; on an isolated doorway recorded only (R42, R281). On an unfitted one nothing is
raised (R15). -/
def Image.doorFault (im : Image) (d : Door) (item cause : Nat) (value : Int) : Image :=
  let im := im.setDreg d 9 0x20 cause
  if !im.fitted d then im
  else if (im.door d).st = .isolated then im.note (causeEvent cause) (doorScope d) .occurrence ⟨item, cause, value⟩
  else im.latch (causeEvent cause) (doorScope d) ⟨item, cause, value⟩ true

/-- A proof input (R283): roles 1, 2, 3, 9, 10, and 4 in lock-proving mode 1. -/
def Image.proofInput (im : Image) (d : Door) (n : Fin 12) : Bool :=
  match im.role d n with
  | 1 | 2 | 3 | 9 | 10 => true
  | 4 => im.dreg d 0x0B 1 == 1
  | _ => false

/-- T26 for a faulted proof input while Locked or Released (R283). -/
def Image.proofFault (im : Image) (d : Door) : Image :=
  let w := im.door d
  if (w.st = .locked || w.st = .released) && !w.moved then im.faultHold d 8 else im

/-- The mask of inputs in fault (B+0x09:1F, 0x2400:03). -/
def Image.faultMask (im : Image) : Option Door → Nat
  | some d => bitsToNat ((allFin 12).map (fun n => decide (((im.door d).dis.get n).fault ≠ 0)))
  | none => bitsToNat ((allFin 16).map (fun n => decide ((im.inp.tis.get n).fault ≠ 0)))

/-- A digital input goes into fault (R281); `item`, `value`: its source data. Role 0 is not evaluated (R282). -/
def Image.faultInput (im : Image) (i : InputId) (cause item : Nat) (report : Bool) : Image :=
  let x := im.input i
  match i with
  | .di d n =>
    if im.role d n = 0 || x.fault ≠ 0 then im
    else
      let im := im.onInput i (fun x => { x with fault := cause, absentSince := none })
      let im := im.setDreg d 9 0x1F (im.faultMask (some d))
      let im := if report then (im.bump 0x2406 (causeCounter cause)).doorFault d item cause x.volts else im
      if im.proofInput d n && cause != 7 then im.proofFault d else im
  | .ti n =>
    if x.fault ≠ 0 then im
    else
      let im := im.onInput i (fun x => { x with fault := cause, absentSince := none })
      let im := (im.setReg 0x2400 3 (im.faultMask none)).setReg 0x2400 5 cause
      let _ := n
      if report then (im.bump 0x2406 (causeCounter cause)).raise (causeEvent cause) modScope ⟨item, cause, x.volts⟩ else im

/-- The item number of a digital input. -/
def inputItem : InputId → Nat
  | .di _ n => n.val + 1
  | .ti n => n.val + 1

/-- The confirmation of a range fault (R278). -/
def Image.rangeConfirmed (im : Image) (i : InputId) : InputCause → Bool
  | .overRange => decide (16 ≤ (im.input i).excess)
  | .reverse => decide (16 ≤ (im.input i).rev)
  | .indeterminate => decide (im.debounce i + 800 ≤ (im.input i).indet)
  | _ => false

/-- Index of a measured module quantity: input, link, bus voltage, ambient. -/
def measIdx : Measured → Option (Fin 4)
  | .inputVoltage => some 0
  | .linkVoltage => some 1
  | .busVoltage => some 2
  | .ambient => some 3
  | _ => none

/-- The last reading of a measured module quantity. -/
def Image.measValue (im : Image) : Fin 4 → Int
  | 0 => im.belt.vin
  | 1 => im.belt.link
  | 2 => im.belt.bus
  | 3 => im.belt.ambient

/-- A range fault of any conditioned input is confirmed (R278, R290). -/
def Image.rangeFault (im : Image) (m : Measured) (c : InputCause) : Image :=
  match m with
  | .input i => if im.rangeConfirmed i c then im.faultInput i (causeCode c) (inputItem i) true else im
  | .thermistor a =>
    let x := im.axis a
    let d := axisDoor a
    if 100 ≤ x.thermOut && x.thermFault = 0 && im.dreg d 0x16 (9 + (axisK a).val) != 0 then
      let im := im.onAxis a (fun x => { x with thermFault := 1, thermAbsent := none })
      (im.bump 0x2406 1).doorFault d (15 + (axisK a).val) 1 x.therm
    else im
  | .hall a =>
    let x := im.axis a
    if 2 ≤ x.force.hallRun && !x.hallFault then
      let im := im.onAxis a (fun x => { x with hallFault := true, hallFallback := true })
      (im.bump 0x2406 1).doorFault (axisDoor a) (18 + (axisK a).val) 8 x.plant.hall
    else im
  | .bank d =>
    if (im.door d).bankDiffers then im
    else ((im.onDoor d (fun w => { w with bankDiffers := true })).bump 0x2406 4).doorFault d 21 5 (im.door d).bankVolts
  | m =>
    match measIdx m with
    | none => im
    | some k =>
      if im.inp.meas.get k ≠ 0 then im
      else
        let im := { im with inp := { im.inp with meas := im.inp.meas.set k 5 } }
        (im.bump 0x2406 4).raise 59 modScope ⟨17 + k.val, 5, im.measValue k⟩

/-- A receiver group has delivered no fresh sample for 8 stitches (R277): its inputs are in timeout; the record names the
group's first input (R616); edges read fault, thermistors and Hall lines are in fault (R290). -/
def Image.freshnessTimeout (im : Image) (g : RxGroup) : Image :=
  if im.inp.stale.get g.idx < 8 then im
  else match g with
    | .door d =>
      let im := (im.bump 0x2406 5).doorFault d 1 4 ((im.door d).dis.get 0).volts
      let im := (allFin 12).foldl (fun im n => im.faultInput (.di d n) 4 1 false) im
      let im := (allFin 3).foldl (fun (im : Image) k =>
        let a := axisOf d k
        let hall := im.areg a 0 1 == 2 && im.areg a 0 6 == 1
        im.onAxis a (fun x => { x with
          thermFault := if x.thermFault = 0 && im.dreg d 0x16 (9 + k.val) != 0 then 4 else x.thermFault
          thermAbsent := none, hallFault := x.hallFault || hall, hallFallback := x.hallFallback || hall
          hallAbsent := none })) im
      [Edge.ea, Edge.eb].foldl (fun im e => (im.onEdge d e (fun x => { x with reading := 3, lastBand := 4 })).edgeFault d e) im
    | .train =>
      let im := (im.bump 0x2406 5).raise 60 modScope ⟨1, 4, (im.inp.tis.get 0).volts⟩
      (allFin 16).foldl (fun im n => im.faultInput (.ti n) 4 1 false) im

/-! ## Plausibility (R285) -/

/-- What a role reads for the checks: the states kept behind a plausibility fault (R284). -/
def Image.kept (im : Image) (d : Door) (r : Nat) : Bool :=
  (allFin 12).any (fun n => im.role d n == r &&
    (let x := (im.door d).dis.get n; if x.fault = 6 then x.filt else x.img))

/-- The checks are suspended in Isolated and Manual. -/
def Image.checksRun (im : Image) (d : Door) : Bool :=
  im.fitted d && (im.door d).st != .isolated && (im.door d).st != .manual

/-- The leaf or step an edge is assigned to. -/
def Image.edgeMovers (im : Image) (d : Door) (e : Edge) : List (Fin 3) :=
  let all : List (Fin 3) := match im.edgeAssigned d e with
    | 1 => [0]
    | 2 => [1]
    | 3 => [0, 1]
    | 4 => [2]
    | _ => []
  all.filter (im.moverFitted d)

/-- The condition of a check. -/
def Image.checkHolds (im : Image) (d : Door) : Check → Bool
  | .p1 => im.kept d 1 && ((1 ≤ im.leafCount d && !im.kept d 2) || (im.leafCount d == 2 && !im.kept d 3))
  | .p2 => im.dreg d 0x0B 1 == 1 && im.kept d 1 && im.kept d 4
  | .p3 => im.kept d 9 && im.kept d 10
  | .p4 e =>
    let ms := im.edgeMovers d e
    (edgeBand ((im.door d).edge e).ohms == 1) && !ms.isEmpty &&
      ms.all (fun k => !im.axisMoving (axisOf d k) && !im.roleTrue d (closedRole k))

/-- The roles a check names, the first of them first (R285, R616). -/
def checkRoles : Check → List Nat
  | .p1 => [1, 2, 3]
  | .p2 => [1, 4]
  | .p3 => [9, 10]
  | .p4 _ => []

/-- How long the condition of each check has held. -/
def Image.checkTimers (im : Image) (d : Door) : Image :=
  let run := fun (c : Check) (t : Option Nat) =>
    if im.checksRun d && im.checkHolds d c then (match t with | some f => some f | none => some im.now) else none
  im.onDoor d (fun w => { w with
    timers := { w.timers with p1 := run .p1 w.timers.p1, p2 := run .p2 w.timers.p2, p3 := run .p3 w.timers.p3 }
    ea := { w.ea with pressedSince := run (.p4 .ea) w.ea.pressedSince }
    eb := { w.eb with pressedSince := run (.p4 .eb) w.eb.pressedSince } })

def Image.checkTimer (im : Image) (d : Door) : Check → Option Nat
  | .p1 => (im.door d).timers.p1
  | .p2 => (im.door d).timers.p2
  | .p3 => (im.door d).timers.p3
  | .p4 e => ((im.door d).edge e).pressedSince

def Image.checkTime (im : Image) (d : Door) : Check → Nat
  | .p4 _ => 1000 * im.dreg d 0x0A 7
  | _ => im.dreg d 9 0x1C

/-- The first input that holds a role. -/
def Image.firstWithRole (im : Image) (d : Door) (r : Nat) : Nat :=
  match (allFin 12).find? (fun n => im.role d n == r) with
  | some n => n.val + 1
  | none => 0

/-- A check is confirmed: every input it names is in fault with cause 6; the edge check forces the edge to fault
(R285). -/
def Image.plausibility (im : Image) (d : Door) (c : Check) : Image :=
  if !(im.checksRun d && im.elapsed (im.checkTimer d c) (im.checkTime d c)) then im
  else match c with
    | .p4 e =>
      let x := (im.door d).edge e
      if x.forced then im
      else
        let im := (im.bump 0x2406 3).doorFault d e.item 6 x.ohms
        (im.onEdge d e (fun x => { x with forced := true, reading := 3 })).edgeFault d e
    | _ =>
      let roles := checkRoles c
      let fresh := (allFin 12).filter (fun n => roles.contains (im.role d n) && ((im.door d).dis.get n).fault = 0)
      if fresh.isEmpty then im
      else
        let item := im.firstWithRole d (roles.headD 0)
        let im := (im.bump 0x2406 3).doorFault d item 6 ((im.door d).dis.get 0).volts
        fresh.foldl (fun im n => im.faultInput (.di d n) 6 item false) im

/-! ## Expectations (R286, R287) -/

/-- The time an expected change has: make time for true, release time for false. -/
def Image.expectTime (im : Image) (d : Door) (want : Bool) : Nat := im.dreg d 9 (if want then 0x1A else 0x1B)

/-- An expected change has not come (R287): EV60 cause 7, T25 with cause 8, or T26 for a proof input (R283); the input
keeps its filtered value. -/
def Image.expectMissed (im : Image) (d : Door) (n : Fin 12) : Image :=
  let x := (im.door d).dis.get n
  if im.elapsed x.expect (im.expectTime d x.want) && x.img != x.want && im.role d n != 0 then
    let im := im.onInput (.di d n) (fun x => { x with expect := none, fault := 7, absentSince := none })
    let im := im.setDreg d 9 0x1F (im.faultMask (some d))
    let im := (im.bump 0x2406 2).doorFault d (n.val + 1) 7 x.volts
    if (im.door d).st.moving && !(im.door d).moved then im.faultHold d 8
    else if im.proofInput d n then im.proofFault d
    else im
  else im

/-! ## The end of a fault (R284) -/

/-- The condition of an input's fault is present. -/
def Image.causePresent (im : Image) (i : InputId) : Bool :=
  let x := im.input i
  match x.fault with
  | 1 => decide (0 < x.excess)
  | 2 => decide (0 < x.rev)
  | 3 => decide (0 < x.indet)
  | 4 => !im.fresh i.group
  | 5 => decide (0 < x.differ)
  | 6 => match i with
    | .di d n => [Check.p1, .p2, .p3].any (fun c => (checkRoles c).contains (im.role d n) && im.checkHolds d c)
    | .ti _ => false
  | 7 => x.img != x.want
  | _ => false

/-- Some input of a doorway still holds an event's condition. -/
def Image.doorFaultLeft (im : Image) (d : Door) (ev : Nat) : Bool :=
  (allFin 12).any (fun n => let f := ((im.door d).dis.get n).fault; decide (f ≠ 0) && causeEvent f == ev) ||
  (allFin 3).any (fun k => let f := (im.axis (axisOf d k)).thermFault; decide (f ≠ 0) && causeEvent f == ev) ||
  (ev == 59 && ((im.door d).bankDiffers || (allFin 3).any (fun k => (im.axis (axisOf d k)).hallFault) ||
    (allFin 16).any (fun n => (im.chan (chanOf d n)).senseFault)))

def Image.trainFaultLeft (im : Image) (ev : Nat) : Bool :=
  (allFin 16).any (fun n => let f := (im.inp.tis.get n).fault; decide (f ≠ 0) && causeEvent f == ev) ||
  (ev == 59 && (allFin 4).any (fun k => im.inp.meas.get k != 0))

/-- The condition of a doorway's latched event ends with the last input that held it. -/
def Image.settleDoorFault (im : Image) (d : Door) : Image :=
  [59, 60].foldl (fun im ev => if im.doorFaultLeft d ev then im else im.endCondition ev (doorScope d)) im

/-- A fault ends: the filter restarts from the fault value with a count of 0. -/
def Image.endFault (im : Image) (i : InputId) : Image :=
  let x := im.input i
  let v := if x.fault = 7 then x.filt else im.faultValue i
  let im := im.onInput i (fun x => { x with fault := 0, absentSince := none, filt := v, run := 0 })
  match i with
  | .di d _ => (im.setDreg d 9 0x1F (im.faultMask (some d))).settleDoorFault d
  | .ti n =>
    let im := im.setReg 0x2400 3 (im.faultMask none)
    let ev := causeEvent x.fault
    im.clearItem ev modScope ⟨n.val + 1, x.fault, x.volts⟩ (im.trainFaultLeft ev)

/-- An input fault clears once its cause has been absent for 1 s; cause 7 as soon as the input reads what was expected
(R284). -/
def Image.faultGone (im : Image) (m : Measured) : Image :=
  match m with
  | .input i =>
    let x := im.input i
    if x.fault ≠ 0 && !im.causePresent i && (x.fault = 7 || im.elapsed x.absentSince 1000) then im.endFault i else im
  | .thermistor a =>
    if (im.axis a).thermFault ≠ 0 && im.elapsed (im.axis a).thermAbsent 1000 then
      (im.onAxis a (fun x => { x with thermFault := 0, thermAbsent := none })).settleDoorFault (axisDoor a)
    else im
  | .hall a =>
    if (im.axis a).hallFault && im.elapsed (im.axis a).hallAbsent 1000 then
      (im.onAxis a (fun x => { x with hallFault := false })).settleDoorFault (axisDoor a)
    else im
  | .bank d => (im.onDoor d (fun w => { w with bankDiffers := false })).settleDoorFault d
  | m =>
    match measIdx m with
    | none => im
    | some k =>
      if im.inp.meas.get k = 0 then im
      else
        let im := { im with inp := { im.inp with meas := im.inp.meas.set k 0 } }
        im.clearItem 59 modScope ⟨17 + k.val, 5, im.measValue k⟩ (im.trainFaultLeft 59)

/-- Faults of cause 7 clear at T30 and T32 (R284). -/
def Image.dropExpectations (im : Image) (d : Door) : Image :=
  ((allFin 12).foldl (fun im n =>
    if ((im.door d).dis.get n).fault = 7 then im.endFault (.di d n) else im) im).onDoor d (fun w => { w with
      dis := w.dis.map (fun x => { x with expect := none }) })

/-! ## One frame of the inputs -/

/-- A fault reset of a doorway: at T30 the faults of cause 7 clear, so that their latches are released too (R284, R618). -/
def Image.resetDoor (im : Image) (d : Door) : Image :=
  let w := im.door d
  (if w.st = .faultHeld && !w.moved && im.lockedProven d then im.dropExpectations d else im).faultReset d

/-- How long each fault's condition has been absent; expectations that have been met end. -/
def Image.watchInput (im : Image) (i : InputId) : Image :=
  let x := im.input i
  let met := x.expect.isSome && x.img = x.want
  if x.fault = 0 then (if met then im.onInput i (fun x => { x with expect := none }) else im)
  else
    let absent := if im.causePresent i then none else match x.absentSince with | some f => some f | none => some im.now
    im.onInput i (fun x => { x with absentSince := absent, expect := if met then none else x.expect })

/-- The comparison of the lanes' filtered images (R288, R289): 20 differing comparisons in a row are a fault of cause 5. -/
def Image.compareLanes (im : Image) : Image :=
  match im.inp.other with
  | none => im.eachDoor (fun im d => im.onDoor d (fun w => { w with
      dis := w.dis.map (fun x => if x.fault = 5 then { x with differ := 0 } else x) }))
  | some (di, ti) =>
    let im := allInputs.foldl (fun im i =>
      let theirs := match i with
        | .di d n => bitOf (di.getD d.val 0) n.val
        | .ti n => bitOf ti n.val
      let x := im.input i
      let used := match i with
        | .di d n => im.role d n != 0
        | .ti _ => true
      let diff := used && x.latched != theirs
      let im := im.onInput i (fun x => { x with differ := if diff then x.differ + 1 else 0 })
      let im := if diff then (match i with
        | .di d _ => (im.bumpD d 9 0x21).bump 0x2406 4
        | .ti _ => im.bump 0x2406 4) else im
      if 20 ≤ x.differ + 1 && diff && x.fault = 0 then im.faultInput i 5 (inputItem i) true else im) im
    let im := im.setReg 0x2400 4 (bitsToNat ((allFin 16).map (fun n => decide ((im.inp.tis.get n).differ ≠ 0))))
    { im with inp := { im.inp with other := none } }

/-- A thermistor's frame mean: first-order low-pass of 1 s, and the range check of its type (R290). -/
def Image.thermFrame (im : Image) (a : Axis) (mean : Int) : Image :=
  let d := axisDoor a
  let ty := im.dreg d 0x16 (9 + (axisK a).val)
  let top : Int := if ty = 2 then 2500 else 2000
  let bad := decide (mean < -550) || decide (top < mean)
  let x := im.axis a
  let fine := if bad then x.thermFine else x.thermFine + (1000 * mean - x.thermFine) / 1000
  im.onAxis a (fun x => { x with
    therm := fine / 1000
    thermFine := fine
    thermOut := if bad then x.thermOut + 1 else 0
    thermAbsent := if bad then none else match x.thermAbsent with | some f => some f | none => some im.now })

/-- The cooling timers of the thermal latches (R133). -/
def Image.coolFrame (im : Image) (a : Axis) : Image :=
  let x := im.axis a
  let lim := im.asreg a 5 0x0A - 10 * (im.areg a 5 0x0B : Int)
  let cool := decide (x.therm < lim) && decide (x.plant.bridgeTemp < 1300) &&
    !(x.thermFault ≠ 0 && im.dreg (axisDoor a) 0x16 0x0C == 1)
  im.onAxis a (fun x => { x with guard := { x.guard with
    coolSince := if !cool then none else match x.guard.coolSince with | some f => some f | none => some im.now } })

/-! ## Command sources (R294 to R296) -/

/-- An object that makes an RPDO a command source. -/
def isCommandObject (idx sub : Nat) : Bool :=
  match nativePlace idx with
  | .door _ 2 => sub == 1
  | .door _ 0x0D => sub == 1
  | .chan _ 1 => sub == 1
  | .axis _ 1 => decide (8 ≤ sub ∧ sub ≤ 0x0A)
  | .module 0x230E => sub == 2
  | _ => false

/-- The mapped objects of RPDO n, in order: index, sub, bits. -/
def Image.rpdoMap (im : Image) (n : Fin 32) : List (Nat × Nat × Nat) :=
  (List.range (min 64 (im.reg (0x1600 + n.val) 0))).map (fun i =>
    let e := im.reg (0x1600 + n.val) (i + 1)
    (e / 0x10000, e / 0x100 % 0x100, e % 0x100))

/-- The native sub-entry a mapped object stands for: in Overlay mode the legacy commands name native ones (R538). -/
def Image.mapTarget (im : Image) (idx sub : Nat) : Nat × Nat :=
  if !im.overlay then (idx, sub)
  else match legacyPlace idx with
    | .legacyDoor d 2 => (bBase d + 2, sub)
    | .legacyBank d => (cBase (16 * d + sub - 1) + 1, 1)
    | _ => (idx, sub)

/-- The native sub-entries RPDO n is mapped to. -/
def Image.rpdoTargets (im : Image) (n : Fin 32) : List (Nat × Nat) := (im.rpdoMap n).map (fun e => im.mapTarget e.1 e.2.1)

/-- RPDO n is valid: bit 31 of its COB-ID is clear. -/
def Image.rpdoValid (im : Image) (n : Fin 32) : Bool := !bitOf (im.reg (0x1400 + n.val) 1) 31

/-- RPDO n is a command source (R294). -/
def Image.rpdoSource (im : Image) (n : Fin 32) : Bool :=
  im.rpdoValid n && (im.rpdoTargets n).any (fun e => isCommandObject e.1 e.2)

/-- The TRDP command telegram is a command source. -/
def Image.trdpSource (im : Image) : Bool := im.reg 0x2908 4 != 0

/-- RPDO n carries the command byte of a doorway. -/
def Image.rpdoCarries (im : Image) (n : Fin 32) (d : Door) : Bool :=
  (im.rpdoTargets n).any (fun e => e.1 == bBase d.val + 2 && e.2 == 1)

/-- A network open of the doorway is refused with result 5 (R295). -/
def Image.openTimedOut (im : Image) (d : Door) : Bool :=
  (allFin 32).any (fun n => bitOf im.inp.sup.rpdoOut n.val && im.rpdoCarries n d) ||
    (im.inp.sup.trdpOut && im.trdpSource)

/-- An object falls to its reaction when its source times out (R295). -/
def Image.dropObject (im : Image) (idx sub : Nat) : Image :=
  match nativePlace idx with
  | .chan c 1 => if h : c < 192 then
      (if im.chanRole ⟨c, h⟩ = 0 then im.setReg idx 1 (im.creg ⟨c, h⟩ 0 2) else im) else im
  | .module 0x230E => im.setReg 0x230E 2 0
  | .axis a 1 =>
    if h : a < 36 then
      if 8 ≤ sub then (im.setReg idx sub 0).limitsChanged im ⟨a, h⟩ else im
    else im
  | _ => im

/-- A command source or the permit source times out: its event is raised, and counted in its object of 0x2405 as it is
raised (R294). -/
def Image.raiseSource (im : Image) (n ctr : Nat) (src : Source) : Image :=
  if im.evActive n modScope then im else (im.bump 0x2405 ctr).raise n modScope src

/-- RPDO n counts as timed out (R295). -/
def Image.loseRpdo (im : Image) (n : Fin 32) : Image :=
  let sup := im.inp.sup
  if im.rpdoSource n && !bitOf sup.rpdoOut n.val then
    let im := { im with inp := { im.inp with sup := { sup with rpdoOut := setBit sup.rpdoOut n.val true } } }
    let im := (im.setReg 0x2405 3 im.inp.sup.rpdoOut).raiseSource 31 5 ⟨n.val + 1, 1, im.reg 0x2405 1⟩
    (im.rpdoTargets n).foldl (fun im e => im.dropObject e.1 e.2) im
  else im

/-- A command source times out (R294, R295). -/
def Image.sourceLost (im : Image) (s : CmdSource) : Image :=
  let sup := im.inp.sup
  match s with
  | .rpdo n =>
    let lim := im.reg 0x2405 1
    if decide ((sup.rpdo.get n).getD sup.since + lim ≤ im.now) then im.loseRpdo n else im
  | .trdp =>
    let lim := im.reg 0x2405 2
    if im.trdpSource && !sup.trdpOut && decide (sup.trdp.getD sup.since + lim ≤ im.now) then
      let im := { im with inp := { im.inp with sup := { sup with trdpOut := true } } }
      let im := (im.setReg 0x2405 4 1).raiseSource 33 6 ⟨0, 1, lim⟩
      im.setReg 0x230E 2 0
    else im

/-- A side requires the network permit (R294). -/
def Image.permitRequired (im : Image) : Bool := im.reg 0x2306 3 == 1 || im.reg 0x2307 3 == 1

/-- The permit source's timeout (R87, R294): 0x2305:05 and the events of the source selected. -/
def Image.permitLost (im : Image) : Image :=
  let sup := im.inp.sup
  let lim := im.reg 0x2305 4
  let from_ := max (sup.permit.getD 0) (max (sup.permitReq.getD im.now) sup.since)
  if im.permitRequired && !sup.permitOut && decide (from_ + lim ≤ im.now) then
    let im := ({ im with inp := { im.inp with sup := { sup with permitOut := true } } }).setReg 0x2305 5 1
    let src := im.reg 0x2305 3
    let im := if src = 0 || src = 2 then im.raiseSource 31 5 ⟨0, 2, lim⟩ else im
    if src = 1 || src = 2 then im.raiseSource 33 6 ⟨0, 2, lim⟩ else im
  else im

/-- EV31 and EV33 clear once no source holds them (R294, R296); `src`: what the last of them fills in (R616). -/
def Image.settleSources (im : Image) (src : Source) : Image :=
  let sup := im.inp.sup
  let from_ := im.reg 0x2305 3
  let hold31 := sup.rpdoOut != 0 || (sup.permitOut && (from_ = 0 || from_ = 2))
  let hold33 := sup.trdpOut || (sup.permitOut && (from_ = 1 || from_ = 2))
  let im := if hold31 then im else im.clearEv 31 modScope src
  if hold33 then im else im.clearEv 33 modScope src

/-- A valid reception of RPDO n (R296). -/
def Image.rpdoSeen (im : Image) (n : Fin 32) : Image :=
  let sup := im.inp.sup
  let im := { im with inp := { im.inp with sup := { sup with
    rpdo := sup.rpdo.set n (some im.now), rpdoOut := setBit sup.rpdoOut n.val false } } }
  (im.setReg 0x2405 3 im.inp.sup.rpdoOut).settleSources ⟨n.val + 1, 1, im.reg 0x2405 1⟩

/-- A valid command telegram. -/
def Image.trdpSeen (im : Image) : Image :=
  let sup := im.inp.sup
  let im := { im with inp := { im.inp with sup := { sup with trdp := some im.now, trdpOut := false } } }
  (im.setReg 0x2405 4 0).settleSources ⟨0, 1, im.reg 0x2405 2⟩

/-- The selected permit source has delivered. -/
def Image.permitSeen (im : Image) : Image :=
  let im := { im with inp := { im.inp with sup := { im.inp.sup with permit := some im.now, permitOut := false } } }
  (im.setReg 0x2305 5 0).settleSources ⟨0, 2, im.reg 0x2305 4⟩

/-- One frame of the permit supervision: it runs only while a side requires the permit. -/
def Image.permitFrame (im : Image) : Image :=
  let sup := im.inp.sup
  if im.permitRequired then
    { im with inp := { im.inp with sup := { sup with
      permitReq := match sup.permitReq with | some f => some f | none => some im.now } } }
  else
    let im := { im with inp := { im.inp with sup := { sup with permitReq := none, permitOut := false } } }
    (im.setReg 0x2305 5 0).settleSources ⟨0, 2, im.reg 0x2305 4⟩

/-- Auto-close suspension by a TI function (R293): the dwells are held while true and restart when it falls. -/
def Image.suspendDwells (im : Image) (on : Bool) : Image :=
  let was := im.inp.suspend
  let im := { im with inp := { im.inp with suspend := on } }
  if was && !on then
    im.eachDoor (fun im d => if (im.door d).st = .opened && !(im.door d).dwellSuspended && im.dreg d 3 9 != 0 then
      im.onTimers d (fun t => { t with dwell := some im.now }) else im)
  else im

/-- The auto-close dwell restarts at each end of a light-curtain interruption (R29); `old`: the image before. -/
def Image.curtainDwell (im : Image) (old : Image) : Image :=
  im.eachDoor (fun im d =>
    let w := im.door d
    if old.roleTrue d 11 && !im.roleTrue d 11 && im.dreg d 5 4 == 1 && w.st = .opened && !w.dwellSuspended &&
        !im.inp.suspend && im.dreg d 3 9 != 0 then
      im.onTimers d (fun t => { t with dwell := some im.now })
    else im)

/-- The open buttons of a doorway that have become active in the image, where their source is enabled (R21); `old`: the
image before. -/
def Image.pressedButtons (im : Image) (old : Image) : Image :=
  im.eachDoor (fun im d =>
    let now := [(OpenSource.inside, 5, 0), (.outside, 6, 1)].filter (fun (p : OpenSource × Nat × Nat) =>
      im.roleTrue d p.2.1 && !old.roleTrue d p.2.1 && bitOf (im.dreg d 2 3) p.2.2)
    if now.isEmpty then im else im.onDoor d (fun w => { w with
      pressed := w.pressed ++ (now.map (·.1)).filter (fun p => !w.pressed.contains p) }))

/-- The input work of a frame: the comparison of the last frame's images, then the new image and its watches. -/
def Image.inputsFrame (im : Image) (x : FrameSample) : Image :=
  let im := im.compareLanes
  let im := (im.latchImage.curtainDwell im).pressedButtons im
  let im := allInputs.foldl Image.watchInput im
  let im := im.eachDoor Image.checkTimers
  let im := x.therms.foldl (fun im p => im.thermFrame p.1 p.2) im
  let im := (im.eachAxis Image.coolFrame).eachDoor Image.settleDoorFault
  im.permitFrame

end Sys2Proof.Machine
end

