-- ==== Sys2Proof/Machine/DoorFrame.lean ====
section
/-! DEFINITION. The transitions of a doorway in the frame work, in the order of R18, and those of Manual (R16 to R18, R41).
`evalHigh` comes before the commands of the frame are applied, `evalLow` after. -/

namespace Sys2Proof.Machine

/-! ## Manual (R41) -/

/-- T33: Manual is entered, from Fault-held or Isolated. -/
def Image.enterManual (im : Image) (d : Door) : Image :=
  let w := im.door d
  let im := ((im.enter d .manual).onDoor d (fun x => { x with
    manualFromIsolated := w.st = .isolated, jogBlocked := false, jogFrame := im.now, homing := false }))
  let im := (im.setDreg d 0x12 1 1).setDreg d 0x12 2 0
  im.raise 63 (doorScope d) Source.zero

/-- The jogs of a doorway stop under braking. -/
def Image.stopJog (im : Image) (d : Door) : Image := (im.jog d 0).brakeDoor d im.nextFrame false

/-- A manual unlock ends: the lock channels go off, and a cycle it opened is abandoned (DESIGN CHOICE: outcome 2 where
the doorway is to be Isolated, else 3). -/
def Image.endManualUnlock (im : Image) (d : Door) : Image :=
  let im := im.setDreg d 0x12 5 0
  let im := im.lockOff d
  if im.inProgress d || im.doorPending d then im.abandon d (if (im.door d).manualFromIsolated then 2 else 3) else im

/-- T34: Manual is left. -/
def Image.leaveManual (im : Image) (d : Door) : Image :=
  let w := im.door d
  if w.st != .manual then im
  else
    let im := ((im.stopJog d).endManualUnlock d).setDreg d 0x12 1 0
    let im := if w.manualFromIsolated then im.enter d .isolated
      else if im.lockedProven d && im.closedProven d then im.enterLocked d
      else (im.enter d .faultHeld).setDreg d 0x10 3 1
    im.clearEv 63 (doorScope d) Source.zero

/-- The lock release of Manual is an unlock under R22 (R41): a ledger action, effective with its commit. -/
def Image.manualUnlock (im : Image) (d : Door) (on : Bool) : Image :=
  if !on then im.endManualUnlock d
  else
    let im := im.setDreg d 0x12 5 1
    if im.doorPending d || (im.door d).lockOn then im else im.decideAction (.unlock d)

/-! ## Commands whose transition may have to wait (R16) -/

/-- A command takes its transition, if its condition still holds. -/
def Image.grantWish (im : Image) (d : Door) : Wish → Image
  | .forced src => im.forceIsolate d src
  | .emergencyReset => if (im.door d).st = .emergency && !im.handle d then im.emergencyEnd d else im
  | .faultReset => if (im.door d).st = .faultHeld && im.lockedProven d then im.enterLocked d else im
  | .close src => im.closeRequest d src
  | .serve => if (im.door d).st = .isolated && im.fitted d then (im.dropExpectations d).returnToService d else im
  | .enterManual =>
    if ((im.door d).st = .faultHeld || (im.door d).st = .isolated) && im.fitted d then im.enterManual d else im
  | .leaveManual => im.leaveManual d

/-- A command asks for a transition: taken now, or in the next frame where one has been taken in this. -/
def Image.wish (im : Image) (d : Door) (k : Wish) : Image :=
  if (im.door d).moved then im.keepWish d k else im.grantWish d k

/-- The waiting commands that a test picks, in the order they came. -/
def Image.takeWishes (im : Image) (d : Door) (p : Wish → Bool) : Image :=
  let ks := (im.door d).wishes.filter p
  let im := im.onDoor d (fun w => { w with wishes := w.wishes.filter (fun k => !p k) })
  ks.foldl (fun (im : Image) k => im.wish d k) im

def Wish.isForced : Wish → Bool
  | .forced _ => true
  | _ => false

/-! ## Handle, faults, obstacles, token (R18) -/

/-- The step has been proven extended, and the unlock has been proven: both are timed (R23, R57). -/
def Image.noteOpening (im : Image) (d : Door) : Image :=
  let w := im.door d
  if w.st != .opening then im
  else
    let im := if im.roleTrue d 9 then im.onCycle d (fun c => { c with
      stepExtended := match c.stepExtended with | some f => some f | none => some im.now }) else im
    let fresh := match w.cycle with | some c => c.unlockProven.isNone && c.unlockCommitted.isSome | none => false
    if fresh && im.unlockProven d then im.unlockSeen d else im

/-- T25 by an axis latch (R132, R133). -/
def Image.axisLatched (im : Image) (d : Door) : Image :=
  let on := fun (p : AxisGuard → Bool) => (allFin 3).any (fun k => im.axisUsed (axisOf d k) && p (im.axis (axisOf d k)).guard)
  if on AxisGuard.latched then im.faultNow d 6
  else if on AxisGuard.thermal then im.faultNow d 7
  else im

/-- T26: DI1 reads false without an unlock commanded. -/
def Image.unexpectedUnlock (im : Image) (d : Door) : Image :=
  let w := im.door d
  if (w.st = .locked || w.st = .released) && !w.moved && !im.di d 0 && !w.lockOn && !im.doorPending d then
    (im.latch 47 (doorScope d) ⟨0, 3, 0⟩ true).faultHold d 3
  else im

/-- The faults: T10, T22, T24, T25, T26. -/
def Image.faultStep (im : Image) (d : Door) : Image :=
  let im := ((im.lockProvingElapsed d).lockElapsed d).reliefEnd d
  let im := (((im.strokeExpired d .leaves).strokeExpired d .step).homingExpired d).axisLatched d
  im.unexpectedUnlock d

/-- A light curtain interrupted while a leaf moves toward closed outside the lock zone (R166). -/
def Image.curtainObstacle (im : Image) (d : Door) : Image :=
  match (im.groupMovers d .leaves).find? (fun k => im.curtainActs (axisOf d k)) with
  | some k => im.obstacleFrom (axisOf d k) .curtain
  | none => im

/-- T14 and T15; and a reaction that has waited for a transition. An obstacle met in a drain has its own (R52). -/
def Image.obstacleStep (im : Image) (d : Door) : Image :=
  let w := im.door d
  let met := match w.leaves.obstacle with | some (_, f, _) => f | none => 0
  let im := if w.st = .closing && !w.moved && w.leaves.obstacleSince w.since && !w.homing && !w.drainMet met then
      im.reverseForObstacle d else im
  let im := if (im.gen d .leaves).stopEnded then im.obstacleReaction d .leaves else im
  if (im.gen d .step).stopEnded then im.obstacleReaction d .step else im

/-- The withdrawal of the token of the doorway's side, and T2 by the selective enable (R24, R72). -/
def Image.tokenStep (im : Image) (d : Door) : Image :=
  let tok := im.doorToken d
  let im := if (im.door d).keptOpen && tok then im.onDoor d (fun w => { w with keptOpen := false }) else im
  let w := im.door d
  if w.moved then im
  else if !tok && (w.st = .released || w.st = .stepExtending || w.st = .opening || (w.st = .opened && !w.keptOpen)) &&
      w.drain.isNone then im.tokenLost d
  else if w.st = .released && im.selective && !im.member d then im.enter d .locked
  else im

/-- What comes before the commands of the frame: forced isolation that waited, the handle, faults, obstacles, the token. -/
def Image.evalHigh (im : Image) (d : Door) : Image :=
  if !im.fitted d then im
  else
    let im := im.takeWishes d Wish.isForced
    let im := ((if im.handle d then im.emergency d else im.handleNormal d).noteOpening d).faultStep d
    let im := (allFin 3).foldl (fun (im : Image) k => im.homingJudge (axisOf d k)) im
    ((im.curtainObstacle d).obstacleStep d).tokenStep d

/-! ## Isolation, close, open, timers -/

/-- The isolation switch: while it reads true it requests isolation, and a doorway that it isolated returns to service when
it is released (R42, R45). -/
def Image.switchStep (im : Image) (d : Door) : Image :=
  let w := im.door d
  if im.roleTrue d 8 then (if w.st = .isolated then im else im.startDrain d .switch)
  else if w.st = .isolated && im.roleHeld d 8 && im.dreg d 0x11 3 == 2 && !w.moved then
    (im.dropExpectations d).returnToService d
  else im

/-- A drain at its bound (R10). -/
def Image.drainBound (im : Image) (d : Door) : Image :=
  match (im.door d).drain with
  | some x => if im.elapsed x.profileDone (im.dreg d 3 5) && !(im.door d).moved then im.drainHeld d else im
  | none => im

/-- A train input closes the doorways of a side (R17, R293). -/
def Image.crewCloses (im : Image) (d : Door) : Bool :=
  im.ti (match im.sideOf d with | .a => 6 | .b => 7) ||
    (allFin 5).any (fun n => im.tiFunction n == 1 && im.ti ⟨n.val + 11, by omega⟩)

/-- The close requests that inputs make while they read true, and one that the curtain held back (T8, T11, T29). -/
def Image.closeStep (im : Image) (d : Door) : Image :=
  let im := if im.crewCloses d then im.closeRequest d .crew else im
  let im := if im.roleTrue d 12 then im.closeRequest d .key else im
  let w := im.door d
  match w.closeHeld with
  | some s => if w.st = .opened && !w.moved && !im.curtainHolds d then im.enterWarning d s.code false else im
  | none => im

/-- The open requests of buttons that have become active, and auto-open (R21). -/
def Image.openStep (im : Image) (d : Door) : Image :=
  let asked := (im.door d).pressed
  let im := asked.foldl (fun (im : Image) s => im.ask d s) (im.onDoor d (fun w => { w with pressed := [] }))
  let w := im.door d
  if w.st = .released && !w.moved && im.dreg d 2 4 == 1 && w.since + 1 = im.now then im.ask d .autoOpen else im

/-- The timers (R19). -/
def Image.timerStep (im : Image) (d : Door) : Image :=
  ((((im.warningElapsed d).dwellExpired d).settleElapsed d).pauseElapsed d).retryElapsed d

/-- The transitions that R18 does not rank: T1, T4, T5, T7, T17, T19, T21, T23. -/
def Image.progress (im : Image) (d : Door) : Image :=
  let w := im.door d
  let tok := im.doorToken d
  if w.moved then im
  else match w.st with
    | .locked =>
      if tok && (!im.selective || im.member d) && im.doorLatches d == 0 && !im.axisDisabled d && !im.lockDisabled d &&
        w.drain.isNone then im.enter d .released else im
    | .stepExtending =>
      if im.roleTrue d 9 && (match w.cycle with | some c => c.stepExtended.isNone | none => false) then
        let im := im.onCycle d (fun c => { c with stepExtended := some im.now })
        if tok && !im.doorPending d then im.startOpening d else im
      else if im.stepAllows d && tok && !im.doorPending d then im.startOpening d else im
    | .opening =>
      let waiting := match w.cycle with | some c => !c.started && c.unlockCommitted.isSome | none => false
      if waiting && im.unlockProven d && im.stepReady d then im.startLeaves d
      else if !waiting && im.leavesOpen d then
        (im.enterOpen d).onCycle d (fun c => { c with openEnd := some im.now })
      else im
    | .closing =>
      if im.leavesClosed d && im.closedProven d then
        ((im.enter d .closedUnlocked).onTimers d (fun t => { t with settle := some im.now })).onCycle d
          (fun c => { c with closedProven := some im.now })
      else im
    | .reversing =>
      if w.leaves.atRest && w.leaves.pending.isNone && !w.leaves.reactionDue && w.timers.pause.isNone &&
          w.again.isNone then
        if w.drain.isNone && decide (im.dreg d 4 1 ≤ im.dreg d 1 5) then
          let im := ((im.enterOpen d).onTimers d (fun t => { t with dwell := none })).onDoor d
            (fun w => { w with dwellSuspended := true, keptOpen := !tok })
          let im := im.raise 42 (doorScope d) Source.zero
          if tok then im else im.ev36 d
        else im.onTimers d (fun t => { t with pause := some im.now })
      else im
    | .locking => if im.lockedProven d && !im.doorPending d then im.lockedSeen d else im
    | .stepRetracting =>
      if im.roleTrue d 10 then
        (im.onCycle d (fun c => { c with stepRetracted := some im.now })).enterLocked d
      else im
    | _ => im

/-- What comes after the commands of the frame: isolation, commands that waited, close, open, timers, and the rest. -/
def Image.evalLow (im : Image) (d : Door) : Image :=
  if !im.fitted d then im.onDoor d (fun w => { w with pressed := [], takenOver := false })
  else
    let im := ((im.switchStep d).drainBound d).drainStep d
    let im := im.takeWishes d (fun _ => true)
    ((((im.closeStep d).openStep d).timerStep d).progress d).onDoor d (fun w => { w with takenOver := false })

end Sys2Proof.Machine
end

