-- ==== Sys2Proof/Machine/Permits.lean ====
section
/-! DEFINITION. Release pairs (R62 to R65), the permit tokens (R66 to R72), the loops, their gate mask and checks (R73 to
R79), the train outputs (R100), the safety digest (R619). -/

namespace Sys2Proof.Machine

/-! ## Pairs -/

/-- The two channels of a pair, TI numbers from 0. -/
def pairInputs : Pair → Fin 16 × Fin 16
  | .relA => (0, 1)
  | .relB => (2, 3)
  | .zero => (4, 5)

def Permits.pair (p : Permits) : Pair → PairState
  | .relA => p.relA
  | .relB => p.relB
  | .zero => p.zero

def Image.onPair (im : Image) (q : Pair) (f : PairState → PairState) : Image :=
  { im with permits := match q with
    | .relA => { im.permits with relA := f im.permits.relA }
    | .relB => { im.permits with relB := f im.permits.relB }
    | .zero => { im.permits with zero := f im.permits.zero } }

/-- The object of a pair. -/
def pairObj : Pair → Nat
  | .relA => 0x2301
  | .relB => 0x2302
  | .zero => 0x2303

/-- The number of a pair in source data (R616). -/
def pairItem : Pair → Nat
  | .relA => 1
  | .relB => 2
  | .zero => 3

/-- The discrepancy time of a pair, in frames (R64). -/
def Image.pairTime (im : Image) : Pair → Nat
  | .zero => im.reg 0x2300 2
  | _ => im.reg 0x2300 1

/-- A channel of a pair: false in range fault or timeout (R62). -/
def Image.channel (im : Image) (n : Fin 16) : Bool := im.ti n && (im.inp.tis.get n).fault == 0

/-- A pair reads the image (R62, R65): its latch clears when both channels read false; `count`: a new image has been
latched, so that the count of R64 moves. -/
def Image.readPair (im : Image) (count : Bool) (q : Pair) : Image :=
  let a := im.channel (pairInputs q).1
  let b := im.channel (pairInputs q).2
  let p := im.permits.pair q
  let differ := if a == b then 0 else if count then p.differ + 1 else p.differ
  let unlatch := p.latched && !a && !b
  let latched := p.latched && !unlatch
  let im := im.onPair q (fun p => { p with
    differ := differ, latched := latched, reading := a && b && !p.latched })
  let im := (im.setReg (pairObj q) 1 (b2n (a && b && !p.latched))).setReg (pairObj q) 2 (b2n a + 2 * b2n b)
  let im := im.setReg (pairObj q) 3 (b2n latched)
  if unlatch then
    match q with
    | .zero => im.clearEv 35 modScope ⟨3, 0, im.pairTime q⟩
    | _ => if im.permits.relA.latched || im.permits.relB.latched then im
      else im.clearEv 34 modScope ⟨pairItem q, 0, im.pairTime q⟩
  else im

/-- The discrepancy latch of a pair sets when the count reaches the discrepancy time (R64). -/
def Image.latchPair (im : Image) (q : Pair) : Image :=
  let p := im.permits.pair q
  if !p.latched && decide (0 < p.differ) && decide (im.pairTime q ≤ p.differ) then
    let im := (im.onPair q (fun p => { p with latched := true, reading := false })).bump (pairObj q) 4
    let im := (im.setReg (pairObj q) 3 1).setReg (pairObj q) 1 0
    let src : Source := ⟨pairItem q, 0, im.pairTime q⟩
    match q with
    | .zero => im.raise 35 modScope src
    | _ => im.raise 34 modScope src
  else im

/-- Traction active (R63): TI9 in fault reads true. -/
def Image.readTraction (im : Image) : Image :=
  let forced := (im.inp.tis.get 8).fault ≠ 0
  let on := im.ti 8 || forced
  let im := { im with permits := { im.permits with traction := on } }
  (im.setReg 0x2304 1 (b2n on)).setReg 0x2304 2 (b2n forced)

/-- The pairs and traction read the image. -/
def Image.readTrain (im : Image) (count : Bool) : Image :=
  (((im.readPair count .relA).readPair count .relB).readPair count .zero).readTraction

/-! ## Tokens -/

def relPair : Side → Pair
  | .a => .relA
  | .b => .relB

/-- The network permit of a side, where it is required (R66 condition 4): met, and, with the permit itself true, whether
its source is silent (R67 causes 4 and 5, the lower first). -/
def Image.permitMet (im : Image) (s : Side) : Bool × Bool :=
  let required := im.reg (tokenObj s) 3 == 1
  let on := im.reg 0x2305 s.code == 1
  (!required || (on && !im.inp.sup.permitOut), required && on && im.inp.sup.permitOut)

/-- Condition 6 of R66: at the image of the frame, latched at stitch 0, the hold-off has passed since the last withdrawal
took effect (R84). -/
def Image.holdoffOver (im : Image) (s : Side) : Bool :=
  match (im.permits.side s).lastWithdrawal with
  | some f => decide (f + 16 * im.reg 0x2300 3 ≤ 16 * im.now)
  | none => true

/-- The six conditions of R66, bit 0 condition 1; the lane that runs this is granted and operational, and condition 5
counts as not met while the bus is not ready after Rest (R233) and while the service window is open (R566). -/
def Image.grantConditions (im : Image) (s : Side) : Nat :=
  bitsToNat [(im.permits.pair (relPair s)).reading, im.permits.zero.reading, !im.permits.traction, (im.permitMet s).1,
    !im.belt.rest && im.belt.restWaking.isNone && im.net.upd.windowAt.isNone, im.holdoffOver s]

/-- The cause of a withdrawal, the lowest that holds; 0 none (R67). -/
def Image.withdrawCause (im : Image) (s : Side) : Nat :=
  let c := im.grantConditions s
  if !bitOf c 0 then 1
  else if !bitOf c 1 then 2
  else if !bitOf c 2 then 3
  else if (im.permitMet s).2 then 5
  else if !bitOf c 3 then 4
  else 0

/-- The permit decision of one side (R66 to R68): nothing while an action of the side is pending. -/
def Image.decideToken (im : Image) (s : Side) : Image :=
  let c := im.grantConditions s
  let im := im.setReg (tokenObj s) 2 c
  if im.sidePending s then im
  else if (im.permits.side s).held then
    let cause := im.withdrawCause s
    if cause ≠ 0 then im.decideAction (.withdraw s cause) else im
  else if c = 63 then im.decideAction (.grant s)
  else im

/-- The permit decision of a frame. -/
def Image.decidePermits (im : Image) : Image := (im.decideToken .a).decideToken .b

/-- A token found held at the transition to operational, or at a grant other than a qualified switchover, is withdrawn
with cause 6 before R66 is evaluated (R70). -/
def Image.withdrawFound (im : Image) : Image :=
  [Side.a, Side.b].foldl (fun im s =>
    if (im.permits.side s).held && !im.sidePending s then im.decideAction (.withdraw s 6) else im) im

/-- A change of a filtered train input enters the image (R62): its raw state and last sample follow it. -/
def Image.trainInput (im : Image) (n : Fin 16) (on : Bool) : Image :=
  (im.onInput (.ti n) (fun x => { x with
    filt := on, raw := on, run := 0, volts := if on != im.inverted (.ti n) then 168 else 0, indet := 0, excess := 0, rev := 0 })).latchInput (.ti n)

/-! ## Loops -/

/-- The gate switch of a side (R74): every comparator in its mask reads closed. -/
def Permits.gateClosed (p : Permits) (s : Side) : Bool :=
  (allFin 12).all (fun d => !bitOf p.mask (d.val + (match s with | .a => 0 | .b => 12)) || p.comparators.get d)

/-- A comparator of DI1 (R74): closed at 14.0 V and above, open at 10.0 V and below. -/
def Image.comparator (im : Image) (d : Door) (tenthVolts : Nat) : Image :=
  { im with permits := { im.permits with
    comparators := upd im.permits.comparators d (fun c => if 140 ≤ tenthVolts then true else if tenthVolts ≤ 100 then false else c) } }

/-- A doorway belongs in the gate mask (R75): it leaves it once its Isolated state is also published, and is back with the
commit of its return to service. -/
def Image.inMask (im : Image) (d : Door) : Bool :=
  im.fitted d && ((im.door d).st != .isolated || (im.door d).shown != .isolated)

/-- The mask the committed state asks for. -/
def Image.wantedMask (im : Image) : Nat :=
  bitsToNat ((allFin 12).map (fun d => im.inMask d && im.sideOf d == .a)) +
    4096 * bitsToNat ((allFin 12).map (fun d => im.inMask d && im.sideOf d == .b))

/-- The mask is written as a committed action (R75). -/
def Image.setMask (im : Image) (m : Nat) : Image := { im with permits := { im.permits with mask := m } }.setReg 0x230B 1 m

/-- The mask of the doorways' states as this image has them. -/
def Image.writeMask (im : Image) : Image := im.setMask im.wantedMask

/-- A doorway is loop-ready (R76). -/
def Image.loopReady (im : Image) (d : Door) : Bool :=
  match (im.door d).st with
  | .locked | .released | .stepRetracting => true
  | .faultHeld => im.closedProven d && im.di d 0
  | _ => false

/-- The doorways in the mask of a side. -/
def Image.maskDoors (im : Image) (s : Side) : List Door :=
  (allFin 12).filter (fun d => bitOf im.permits.mask (d.val + (match s with | .a => 0 | .b => 12)))

/-- The object of a loop. -/
def loopObj : Side → Nat
  | .a => 0x2309
  | .b => 0x230A

/-- The lane-switch command of a side (R76). -/
def Image.loopCommand (im : Image) (s : Side) : Bool :=
  (im.maskDoors s).all im.loopReady && im.reg (loopObj s) 2 == 0 && (im.permits.side s).fault == 0

/-- A side's loop conducts. -/
def Permits.conducting (p : Permits) (s : Side) : Bool := (p.side s).gate && (p.side s).laneClosed

/-- Status byte of a loop (0x2309:01). -/
def Image.loopStatus (im : Image) (s : Side) : Nat :=
  let x := im.permits.side s
  bitsToNat [x.gate, x.laneClosed, x.command, x.fault != 0]

/-- A loop check has failed (R78): it latches, the cause is stored, EV38 is raised; the lane switch is commanded open at the
next frame boundary (R76). -/
def Image.loopFault (im : Image) (s : Side) (cause : Nat) : Image :=
  if (im.permits.side s).fault ≠ 0 then im
  else
    let im := im.onSide s (fun x => { x with fault := cause, causeAbsent := 0 })
    (im.setReg 0x230C s.code cause).latch 38 modScope ⟨s.code, cause, (im.permits.side s).current⟩ false

/-- The largest DI1 debounce in a side's mask, ms. -/
def Image.maskDebounce (im : Image) (s : Side) : Nat :=
  (im.maskDoors s).foldl (fun m d => max m (im.dreg d 9 0x0E)) 0

/-- The checks of one side in a frame (R78), the readback it takes, its proof timer (R99) and its status. A frame that
measures nothing reads back what the hardware does. Of several checks that fail in one frame the lowest cause is stored, and
a gate mask that reads back differently latches both sides, whose one register it is (DESIGN CHOICE, log entry 141). -/
def Image.loopFrame (im : Image) (s : Side) (r : Option LoopReadback) : Image :=
  let x := im.permits.side s
  let rb : LoopReadback := match r with
    | some r => r
    | none => ⟨im.permits.gateClosed s, x.command, x.current, x.voltage⟩
  let closed := (im.maskDoors s).all (fun d => im.di d 0)
  let gateClosedRun := if rb.gateClosed && !closed then x.gateClosedRun + 1 else 0
  let gateOpenRun := if !rb.gateClosed && closed then x.gateOpenRun + 1 else 0
  let agree := rb.gateClosed == closed
  let laneDiffer := if rb.laneClosed = x.command then 0 else x.laneDiffer + 1
  let excess := if 1500 < rb.current then x.overCurrent + 1 else 0
  let present := match x.fault with
    | 1 => decide (gateClosedRun ≠ 0)
    | 2 => decide (gateOpenRun ≠ 0)
    | 3 => decide (laneDiffer ≠ 0)
    | 4 => decide (excess ≠ 0)
    | 5 => decide (im.permits.maskDiffer ≠ 0)
    | _ => false
  let bothOpen := !rb.gateClosed && !rb.laneClosed
  let bothClosed := rb.gateClosed && rb.laneClosed
  let proof := x.provenOpen && bothClosed && agree && laneDiffer = 0
  let im := im.onSide s (fun x => { x with
    gate := rb.gateClosed, laneClosed := rb.laneClosed, current := rb.current, voltage := rb.voltage,
    gateClosedRun := gateClosedRun, gateOpenRun := gateOpenRun, laneDiffer := laneDiffer, overCurrent := excess,
    causeAbsent := if present then 0 else x.causeAbsent + 1,
    provenOpen := if bothOpen && agree && laneDiffer = 0 then true else if proof then false else x.provenOpen })
  let o := loopObj s
  let im := (im.setReg o 3 rb.voltage).setReg o 4 rb.current
  let im := if proof then im.setReg o 5 0 else if im.now % 1000 = 999 then im.bump o 5 else im
  let tol := im.maskDebounce s + 10
  let im :=
    if tol < gateClosedRun then im.loopFault s 1
    else if tol < gateOpenRun then im.loopFault s 2
    else if 2 < laneDiffer then im.loopFault s 3
    else if 5 ≤ excess then im.loopFault s 4
    else if 1 < im.permits.maskDiffer then im.loopFault s 5
    else im
  im.setReg o 1 (im.loopStatus s)

/-- The gate mask's readback (R75, R78 cause 5). -/
def Image.maskFrame (im : Image) (r : Option Nat) : Image :=
  let v := r.getD im.permits.mask
  let im := { im with permits := { im.permits with
    maskRead := v, maskDiffer := if v = im.permits.mask then 0 else im.permits.maskDiffer + 1 } }
  im.setReg 0x230B 2 v

/-- The lane-switch commands change at the frame boundary after the frame work that decides them (R76). -/
def Image.loopCommands (im : Image) : Image :=
  [Side.a, Side.b].foldl (fun im s =>
    let c := im.loopCommand s
    if (im.permits.side s).command = c then im
    else im.onSide s (fun x => { x with command := c, laneDiffer := 0 })) im

/-- EV37's timer (R79): traction with a loop that does not conduct; the event clears when that ends. -/
def Image.tractionFrame (im : Image) : Image :=
  let bad := im.permits.traction && !(im.permits.conducting .a && im.permits.conducting .b)
  let im := { im with permits := { im.permits with
    tractionSince := if bad then (match im.permits.tractionSince with | some f => some f | none => some im.now) else none } }
  if !bad && im.permits.ev37 then
    (({ im with permits := { im.permits with ev37 := false } }).setReg 0x2312 1 0).clearEv 37 modScope Source.zero
  else im

/-- EV37 (R79). -/
def Image.tractionOpen (im : Image) : Image :=
  match im.permits.tractionSince with
  | some f =>
    if f + im.reg 0x2300 4 < im.now && !im.permits.ev37 then
      ((({ im with permits := { im.permits with ev37 := true } }).setReg 0x2312 1 1).bump 0x2312 2).raise 37 modScope Source.zero
    else im
  | none => im

/-- The loop fault reset of a side (R78): only once the cause has been absent for 1 s. -/
def Image.loopReset (im : Image) (s : Side) : Option Image :=
  let x := im.permits.side s
  if x.fault ≠ 0 && x.causeAbsent < 1000 then none
  else
    let im := (im.onSide s (fun x => { x with fault := 0, gateClosedRun := 0, gateOpenRun := 0, laneDiffer := 0, overCurrent := 0 })).setReg 0x230C
      s.code 0
    some (if (im.permits.side .a).fault = 0 && (im.permits.side .b).fault = 0 then im.release 38 modScope else im)

/-! ## Train outputs -/

/-- What a train output shows, by its role (R100). -/
def Image.toRole (im : Image) (k : Fin 4) : Bool :=
  match im.reg 0x230D (k.val + 1) with
  | 1 => im.permits.conducting .a
  | 2 => im.permits.conducting .b
  | 3 => (im.permits.side .a).held
  | 4 => (im.permits.side .b).held
  | 5 => im.noSafetyEvent
  | 6 => (allFin 12).any (fun d => im.obstacleActive d)
  | 7 => bitOf (im.reg 0x230E 2) k.val
  | _ => false

/-- The train outputs at a frame boundary; one shut down by heat stays off (R606). -/
def Image.trainOutputs (im : Image) : Image :=
  let im := { im with tos := Vector.ofFn (fun k : Fin 4 => { im.tos.get k with on := im.toRole k && !(im.tos.get k).hot }) }
  im.setReg 0x230E 1 (bitsToNat ((allFin 4).map (fun k => (im.tos.get k).on)))

/-! ## The safety digest -/

/-- The 37-byte string of R619. -/
def Image.safetyString (im : Image) : Bytes :=
  le 2 (im.reg 0x2300 1) ++ le 2 (im.reg 0x2300 2) ++ le 2 (im.reg 0x2300 3) ++ le 2 (im.reg 0x2300 4) ++
    [im.reg 0x2305 3] ++ le 2 (im.reg 0x2305 4) ++ [im.reg 0x2306 3, im.reg 0x2307 3] ++
    ((allFin 12).map (fun d => [im.dreg d 0 1, im.dreg d 0 2])).flatten

/-- The safety digest (R619). -/
def Image.safetyDigest (im : Image) : Nat := crc32c im.safetyString

end Sys2Proof.Machine
end

