-- ==== Sys2Proof/Machine/Flags.lean ====
section
/-! DEFINITION. The status and flag words the module computes from its state: the doorway flags (R59), the axis flags
(R145), the error register (R473), the doorway words of 0x2002, the register words of the Mirror (R97). -/

namespace Sys2Proof.Machine

/-- A word with one bit per doorway. -/
def doorWord (f : Door → Bool) : Nat := bitsToNat ((allFin 12).map f)

/-- The step is proven extended, retracted (roles 9 and 10). -/
def Image.stepExtendedProven (im : Image) (d : Door) : Bool := im.stepFitted d && im.roleTrue d 9
def Image.stepRetractedProven (im : Image) (d : Door) : Bool := im.stepFitted d && im.roleTrue d 10

/-- The status flags of a doorway, B+0x01:03 (R59), bit 0 first. -/
def Image.doorFlags (im : Image) (d : Door) : Nat :=
  let w := im.door d
  bitsToNat [im.lockedProven d, im.roleTrue d 2, im.roleTrue d 3, im.unlockProven d, im.stepExtendedProven d,
    im.stepRetractedProven d, (im.permits.side (im.sideOf d)).held, im.member d, im.obstacleActive d, w.partialOpen,
    w.st = .opened && w.timers.dwell.isSome && !w.dwellSuspended && !im.inp.suspend, !w.staged.isEmpty, w.homing,
    w.leaves.decLatched.isSome || w.step.decLatched.isSome, w.drain.isSome]

/-- A live limit lowers a configured one (R115). -/
def Image.liveInForce (im : Image) (a : Axis) : Bool :=
  (List.range 3).any (fun i => let v := im.areg a 1 (8 + i); v != 0 && decide (v < im.areg a 1 (1 + i)))

/-- A hold stop of an axis is active: until level 3 is left (R118, R138, R175). -/
def Image.holdActive (im : Image) (a : Axis) : Bool :=
  let w := im.leadGen a
  let held := match w.held with | some h => h.cause == .belt | none => false
  (match im.axisMove a with | some m => m.kind == .holdStop | none => false) ||
    (im.belt.level == 3 && (held || w.pending.isSome ||
      w.orders.any (fun o => match o.2 with | .target _ => true | _ => false) ||
      (match im.axisMove a with | some m => m.wall | none => false)))

/-- The status flags of an axis, A+2:07 (R145), bit 0 first. -/
def Image.axisFlags (im : Image) (a : Axis) : Nat :=
  let x := im.axis a
  let m := im.axisMove a
  bitsToNat [im.axisMoving a, x.referenced, (im.leadGen a).decLatched.isSome,
    (match m with | some m => m.short | none => false),
    im.holdActive a,
    (match m with | some m => m.kind == .retargetStop | none => false),
    im.liveInForce a, x.slip, x.hallFallback, decide (i2tMax ≤ x.guard.i2t), x.creditCapped]

/-- Module healthy (role 5 of 0x230D, 0x2002:01): no safety-class event is active or latched (R578). -/
def Image.healthy (im : Image) : Bool := im.noSafetyEvent

/-- The doorway words of 0x2002. -/
def Image.fittedWord (im : Image) : Nat := doorWord im.fitted
def Image.stateWord (im : Image) (st : DState) : Nat := doorWord (fun d => im.fitted d && (im.door d).shown = st)

/-- Latched events of every scope. -/
def Image.latchedWord (im : Image) : Nat := im.ev.scopes.toList.foldl (fun w e => w ||| e.latched) 0

/-- Some event of a list shows in a word. -/
def anyBit (w : Nat) (ns : List Nat) : Bool := ns.any (bitOf w)

/-- The events of fault or safety class. -/
def severeEvents : List Nat := (List.range 64).filter (fun n => decide (2 ≤ (evRow n).cls.code))

/-- The error register 0x1001 (R473); occurrences count for the hold time, so the raw word decides bits 1 to 4. In
Overlay mode only the events of R543 count. -/
def Image.errorRegister (im : Image) : Nat :=
  let raw := if im.overlay then legacyOnly im.rawWord else im.rawWord
  let latched := if im.overlay then legacyOnly im.latchedWord else im.latchedWord
  let passive := im.net.x7.st = .passive || im.net.x8.st = .passive
  bitsToNat [anyBit latched severeEvents, anyBit raw [51, 55], anyBit raw [0, 1, 2, 3, 58], anyBit raw [4, 52, 56],
    anyBit raw [27, 28, 29, 30, 31, 32, 33] || passive, false, false, decide (latched ≠ 0)]

/-- The register and hardware fields of IM0 (R97); `tick` counts stitches. -/
def Image.mirror0 (im : Image) (tick : Nat) : Nat :=
  let p := im.permits
  bitsToNat [p.sideA.fault != 0 || p.sideB.fault != 0, (im.permitMet .b).1, (im.permitMet .a).1, p.zero.latched,
    p.relB.latched, p.relA.latched, p.traction, p.zero.reading, p.relB.reading, p.relA.reading, p.sideB.held, p.sideA.held,
    p.sideB.laneClosed, p.gateClosed .b, p.sideA.laneClosed, p.gateClosed .a] + tick % 256 * 2 ^ 24

/-- IM1: the gate mask and the comparators. -/
def Image.mirror1 (im : Image) : Nat :=
  doorWord (fun d => im.permits.comparators.get d) + 4096 * doorWord (fun d =>
    bitOf im.permits.mask (d.val + (match im.sideOf d with | .a => 0 | .b => 12)))

/-- IM2 to IM4. -/
def Image.mirror2 (im : Image) : Nat :=
  doorWord (fun d => im.fitted d && im.closedProven d) + 4096 * doorWord im.stepRetractedProven
def Image.mirror3 (im : Image) : Nat :=
  doorWord (fun d => (im.door d).shown = .isolated) + 4096 * doorWord (fun d => im.sideOf d == .b)
def Image.mirror4 (im : Image) : Nat :=
  doorWord (fun d => im.obstacleActive d) + 4096 * doorWord (fun d => (im.door d).shown = .faultHeld)

/-- Unlocks over all doorways (B+0x0E:05). -/
def Image.unlocks (im : Image) : Nat := (allFin 12).foldl (fun n d => n + im.dreg d 0x0E 5) 0

/-- The words IM0 to IM15 but for IM7, which the lanes and the Buckle give. -/
def Image.mirrorWord (im : Image) (tick : Nat) : Nat → Nat
  | 0 => im.mirror0 tick
  | 1 => im.mirror1
  | 2 => im.mirror2
  | 3 => im.mirror3
  | 4 => im.mirror4
  | 5 => im.shownWord / 2 ^ 32
  | 6 => wrap 32 im.shownWord
  | 8 => im.clk.frame / 2 ^ 32
  | 9 => wrap 32 im.clk.frame
  | 10 => im.op / 2 ^ 32
  | 11 => wrap 32 im.op
  | 12 => wrap 32 (im.reg 0x2306 4)
  | 13 => wrap 32 (im.reg 0x2307 4)
  | 14 => wrap 32 im.unlocks
  | 15 => wrap 32 (im.reg 0x2700 2)
  | _ => 0

/-- The reaction digest (0x250E:01): CRC-32C over the event word mask and the reaction bytes. -/
def Image.reactionDigest (im : Image) : Nat :=
  crc32c (le 8 (im.reg 0x2501 1) ++ (List.range 64).map im.reaction)

end Sys2Proof.Machine
end

