-- ==== Sys2Proof/Machine/LaneTypes.lean ====
section
/-! DEFINITION. The plain data of what is not in the state image: the Buckle, the lanes, the Seam, the hold cells, the
Mirror's register words, the recorder's NAND. -/

namespace Sys2Proof.Machine

/-- A pair of values, one per lane. -/
structure PerLane (α : Type) where
  a : α
  b : α
deriving DecidableEq, Repr

def PerLane.get {α : Type} (x : PerLane α) : Lane → α
  | .a => x.a
  | .b => x.b

def PerLane.on {α : Type} (x : PerLane α) (l : Lane) (f : α → α) : PerLane α :=
  match l with
  | .a => { x with a := f x.a }
  | .b => { x with b := f x.b }

/-- The grant hardware (R327 to R334). -/
structure Buckle where
  /-- rail codes: 0 no grant, 1 Lane A, 2 Lane B, 3 invalid -/
  railP : Nat
  railQ : Nat
  /-- latched at no grant after a rail disagreement (R333) -/
  latched : Bool
  selfTest : Bool
  epoch : Nat
  /-- strobe of each lane at the last boundary -/
  strobe : PerLane Bool
  /-- boundaries in a row the granted lane's strobe has been missing, and each lane's has been present -/
  missing : Nat
  present : PerLane Nat
  /-- the lane's strobe was present at the boundary before the last -/
  before : PerLane Bool
  qualified : PerLane Bool
  request : PerLane Bool
  /-- the Seam monitor holds the standby's qualified line clear -/
  monitor : Bool
  bothDown : Nat
  /-- stitches of the hold window passed; `none`: not running -/
  window : Option Nat
deriving DecidableEq, Repr

def Buckle.reset : Buckle :=
  ⟨0, 0, false, false, 0, ⟨false, false⟩, 0, ⟨0, 0⟩, ⟨false, false⟩, ⟨false, false⟩, ⟨false, false⟩, false, 0, none⟩

/-- A lane's fault latch (R357). -/
structure FaultLatch where
  event : Nat
  checker : Nat
  unit : Nat
  group : Nat
  frame : Nat
  stitch : Nat
deriving DecidableEq, Repr

/-- Lane states as 0x2209:0B shows them (R388). -/
inductive LaneSt | off | starting | operational | halted | lining | faultRate
deriving DecidableEq, Repr

def LaneSt.code : LaneSt → Nat
  | .off => 0
  | .starting => 1
  | .operational => 2
  | .halted => 3
  | .lining => 4
  | .faultRate => 5

/-- A lane (R303, R364 to R376). -/
structure LaneState where
  st : LaneSt
  phase : Nat
  /-- it acts as the active lane -/
  active : Bool
  /-- a lane fault has halted its cores; it waits for its reset -/
  faulted : Bool
  /-- demoted, it has stopped strobing (R332) -/
  withhold : Bool
  latch : Option FaultLatch
  /-- event and checker of the last fault report the other lane has received from it -/
  reported : Nat × Nat
  /-- its persistent set is current (0x2204:06 of a standby) -/
  current : Bool
  /-- frame in which it became operational -/
  opAt : Option Nat
  /-- operating time (ms) of its next injection and of the last passed one (R362) -/
  injDue : Nat
  injLast : Nat
  /-- operating times of lane faults after operational (R375) -/
  faults : List Nat
  /-- the next start is free of the limit: first after a power-up, or granted by R376, R380 -/
  freeStart : Bool
  /-- 1 power-up, 2 lane reset, 3 reset of both lanes, 4 retry start (R395) -/
  kind : Nat
  /-- results of the last start -/
  result : Option StartResult
  /-- its power-up record is due (R395) -/
  recordDue : Bool
  /-- the stitch count at its last start or reset (R197) -/
  startTick : Nat
  /-- its own operating time, ms, at a stitch count (R198) -/
  opBase : Nat
  opTick : Nat
  slot1 : Slot
  slot2 : Slot
  /-- firmware it runs: version and state format -/
  version : Nat
  format : Nat
  /-- the last frame it overran, and whether by the second deadline (R190, R191) -/
  overran : Option (Nat × Bool)
  /-- the stitch count of its last status block (R377) -/
  statusAt : Nat
  /-- the stitch count since which it has waited for the other lane to ask for the grant (R341) -/
  waitFrom : Nat
deriving DecidableEq, Repr

def LaneState.reset : LaneState :=
  ⟨.off, 0, false, false, false, none, (0, 0), true, none, 0, 0, [], false, 1, none, false, 0, 0, 0, ⟨none, []⟩, ⟨none, []⟩, 0, 0, none, 0, 0⟩

/-- A lane's own operating time, ms (R198). -/
def LaneState.opMs (x : LaneState) (tick : Nat) : Nat := x.opBase + (tick - x.opTick) / 16

/-- What the header of a block says beside its type and sequence number (R308, R309): the frame concerned, the block's
index and the count of the frame's transfer. -/
structure BlockHead where
  frame : Nat
  index : Nat
  count : Nat
deriving DecidableEq, Repr

/-- A Seam block in flight: sent and not yet acknowledged (R310, R432). -/
structure Flight where
  sender : Lane
  link : Link
  seq : Nat
  head : BlockHead
  /-- its payload, where the spec lays it out -/
  payload : Option Bytes
  /-- stitches since the end of its transmission -/
  age : Nat
  resends : Nat
  /-- it counts in LG7 (types 0x01 to 0x05) -/
  counted : Bool
  body : BlockBody
deriving DecidableEq, Repr

/-- The blocks of one frame that the standby holds (R318). -/
structure RxFrame where
  frame : Nat
  got : List Nat
  count : Nat
  /-- the commit block is here; its delta digest matches -/
  commit : Option Bool
  /-- stitch count at which the last block of the frame came (R189: the commit is applied by the stitch after it) -/
  whole : Option Nat
  /-- that stitch has passed without the commit applied: counted as an overrun (R191) -/
  late : Bool
deriving DecidableEq, Repr

/-- A frame sealed and not yet released (R187): its delta blocks, and the stitch at which they leave, from stitch 3 on. -/
structure Release where
  blocks : Nat
  stitch : Nat
deriving DecidableEq, Repr

/-- Frame work whose section H has not run yet: its cycles, the stitch in which it ends, and whether the second deadline
has passed over it (R186, R190). -/
structure Work where
  frame : Nat
  cycles : Nat
  stitch : Nat
  carried : Bool
deriving DecidableEq, Repr

/-- The Seam and the standby's reception. -/
structure Seam where
  /-- link states as 0x2202:01: 0 down, 1 training, 2 up, 3 faulted -/
  link1 : Nat
  link2 : Nat
  flights : List Flight
  nextSeq : PerLane Nat
  /-- the last sequence numbers each lane has sent and that were received, newest first -/
  received : PerLane (List Nat)
  /-- those of the present stitch to be acknowledged: the lane that received, the link, the number -/
  toAck : List (Lane × Link × Nat)
  rx : List RxFrame
  /-- 0 absent, 1 starting, 2 copying, 3 following, 4 qualified -/
  standby : Nat
  sections : Nat
  /-- the copy's next section to send -/
  copyNext : Option Nat
  /-- frame the copy was complete -/
  copyDone : Option Nat
  /-- every commit since the copy began has been applied -/
  unbroken : Bool
  lastApplied : Nat
  /-- digest block to be sent next (R324) -/
  digestNext : Option Nat
  /-- section sent again in the next frame (R325) -/
  again : Option Nat
  /-- a live, an unused section differed since the last survey -/
  digestLive : Bool
  digestLatent : Bool
  /-- breach mask the standby has reported since the last survey (R434) -/
  standbyBreach : Nat
  /-- the last frame released when the standby was declared unqualified (R349) -/
  declared : Option Nat
deriving DecidableEq, Repr

def Seam.reset : Seam :=
  ⟨0, 0, [], ⟨0, 0⟩, ⟨[], []⟩, [], [], 0, 0, none, none, false, 0, none, none, false, false, 0, none⟩

/-- The hold cells (R304, R337 to R340). -/
structure Hold where
  /-- 0 passing, 1 holding, 2 safe states -/
  st : Nat
  drive : Vector Bool 192
  outs : Vector Bool 4
  epoch : Nat
  stitches : Nat
  /-- the last drive the cells held when the first grant after no grant read them, one bit per channel (0x2206:04) -/
  atStart : Nat
deriving DecidableEq, Repr

def Hold.reset : Hold := ⟨2, Vector.replicate 192 false, Vector.replicate 4 false, 0, 0, 0⟩

/-- A switchover in progress and its record's fields (R335, R350). -/
structure Takeover where
  cause : Nat
  old : Nat
  new : Nat
  oldEpoch : Nat
  newEpoch : Nat
  frame : Nat
  stitch : Nat
  firstNext : Bool
  lastApplied : Nat
  discarded : Nat
  actions : Nat
  moving : Nat
  stale : Nat
  report : Nat
  checker : Nat
  /-- stitches since G -/
  age : Nat
  /-- the new active has taken over (R335) -/
  taken : Bool
  /-- the first commit has taken effect -/
  committed : Bool
  /-- the hold release has passed: stitches taken, cells that differed, and the channels that differed -/
  released : Option (Nat × Nat × Nat)
deriving DecidableEq, Repr

/-- The Mirror (R89 to R97). -/
structure Mirror where
  /-- the sixteen words as they stand -/
  words : Vector Nat 16
  /-- transaction in progress: first word, edges clocked, words captured, start µs -/
  active : Option (Fin 16 × Nat × Vector Nat 16 × Nat)
  /-- first word and end time of the last transaction -/
  last : Option (Fin 16 × Nat)
  /-- the times of re-reads, µs -/
  rereads : List Nat
  /-- µs time at which more re-reads than the threshold last fell within 1,000 ms -/
  highAt : Nat
deriving DecidableEq, Repr

def Mirror.reset : Mirror := ⟨Vector.replicate 16 0, none, none, [], 0⟩

/-- An erase block of a lane's NAND (R404): sequences written in slot order, and bad slots. -/
structure NandBlock where
  seqs : List Nat
  bad : Nat
deriving DecidableEq, Repr

def NandBlock.used (b : NandBlock) : Nat := b.seqs.length + b.bad

/-- A lane's record store (R403 to R409). -/
structure Store where
  /-- 0 mounting, 1 mounted, 4 failed -/
  st : Nat
  queue : List Nat
  peak : Nat
  /-- written blocks, oldest first; the last is being written -/
  blocks : List NandBlock
  ring : Nat
  spares : Nat
  badSlots : Nat
  retired : Nat
  progFails : Nat
  eraseFails : Nat
  rereads : Nat
  unreadable : Nat
  lost : Nat
  firstLost : Nat
  mount : Nat
  absent : Nat
  newest : Nat
  /-- a block chosen for erasure waits for its erase -/
  erasing : Bool
  /-- frame of the last block erased after a clear -/
  lastErase : Nat
  /-- operating times, ms, of unreadable reads -/
  badReads : List Nat
  fullSince : Option Nat
deriving DecidableEq, Repr

def Store.reset : Store :=
  ⟨0, [], 0, [], 1920, 128, 0, 0, 0, 0, 0, 0, 0, 0, 0, 0, 0, false, 0, [], none⟩

end Sys2Proof.Machine
end

