-- ==== Sys2Proof/Machine/State.lean ====
section
/-! DEFINITION. The state of the module as plain data, the reasons a step can stop, and the state before the first power
good. -/

namespace Sys2Proof.Machine

/-- The state image with every register at its default: nothing powered, nothing learnt (R517); slot 1 of each lane
holds a confirmed image (0x2209:03, 0x220A:03; DESIGN CHOICE, log entry 3). -/
def Image.reset : Image where
  od := [(key 0x2209 3, 2), (key 0x220A 3, 2)]
  stored := []
  restoreComm := false
  commWaits := false
  restoreApp := false
  due := []
  clk := Clock.reset
  belt := Belt.reset
  doors := Vector.replicate 12 Doorway.reset
  axes := Vector.replicate 36 AxisState.reset
  chans := Vector.replicate 192 Channel.reset
  tos := Vector.replicate 4 ⟨false, false⟩
  inp := Inputs.reset
  permits := Permits.reset
  ev := Events.reset
  rcd := Recorder.reset
  commit := Commit.reset
  net := Net.reset
  breach := []
  outs := []

/-- What a frame whose decisions do not take effect returns to (R190): the image, the committed view and the active
lane's record store as they stood before its frame work. -/
structure Before where
  img : Image
  committed : Image
  store : Store
  takeover : Option Takeover
deriving DecidableEq, Repr

/-- What each lane keeps of the CAN traffic until the standby has applied the commit that carries it (R545): SDO requests
received and SDO responses and TPDOs sent, each with the frame of that commit; and the requests a new active has still to
drain, each with whether its write is lost with the commit that carried it (R512). -/
structure BusMemory where
  requests : List (Nat × Port × Fin 2 × SdoReq)
  sent : List (Nat × Port × Nat × Bytes)
  replay : List (Port × Fin 2 × SdoReq × Bool)
deriving DecidableEq, Repr

def BusMemory.reset : BusMemory := ⟨[], [], []⟩

/-- What a commit of a frame has carried is forgotten. -/
def BusMemory.applied (b : BusMemory) (frame : Nat) : BusMemory :=
  { b with requests := b.requests.filter (fun x => decide (frame < x.1)), sent := b.sent.filter (fun x => decide (frame < x.1)) }

/-- Without a standby that follows, nothing is kept. -/
def BusMemory.alone (b : BusMemory) : BusMemory := { b with requests := [], sent := [] }

/-- The module (R1, R7): the images the lanes hold, the hardware both share, and the commands that are waiting. -/
structure State where
  /-- the logic supply is in its limits (R364) -/
  powered : Bool
  /-- stitches since power good -/
  tick : Nat
  /-- working image of the active lane, the frame under way included -/
  img : Image
  /-- images sealed at section S and not yet applied by the standby, oldest first (R314, R315) -/
  sealed : List Image
  /-- image of the last frame whose commit has taken effect: what every read returns (R511) -/
  committed : Image
  /-- image of the other lane: what it last applied (R318) -/
  shadow : Image
  /-- what a following standby computes itself, stitch by stitch and frame by frame, from the image it has applied: its
  own samples, estimators, generators, current loops and shadow decisions (R305); `none`: no standby follows -/
  trail : Option Image
  /-- profile ticks of the standby's last stitches, newest first (R195, R306) -/
  trailG : List Nat
  /-- what stood before the present frame's work, until its release (R190) -/
  before : Option Before
  /-- the present frame, sealed and not yet released (R187) -/
  release : Option Release
  /-- commits up to this frame take effect in the next stitch (R189, R319, R320) -/
  landing : Option Nat
  /-- frame work still to be finished (R186, R190) -/
  work : Option Work
  /-- the lane whose image `img` and `committed` are -/
  owner : Lane
  buckle : Buckle
  lanes : PerLane LaneState
  seam : Seam
  hold : Hold
  takeover : Option Takeover
  /-- the commit that carries the handover flag has been acknowledged (R334) -/
  handoverAcked : Bool
  /-- the next FRAME_WORK runs the frame of the grant anew (R335) -/
  rerun : Bool
  /-- writes drained by frames whose commit the standby has not applied: a new active drains them anew (R505, R545) -/
  drained : List (Nat × DueWrite)
  bus : BusMemory
  mirror : Mirror
  stores : PerLane Store
  /-- stored set in each lane's NOR parameter area (R520) -/
  nor : PerLane RegFile
  /-- the commands that are waiting, first in, first out -/
  pending : List Instr
deriving DecidableEq, Repr

/-- The reasons the block stops: none. The manual gives every command of the table an effect, so no meaning ends in a
fault; the type has no constructor. -/
inductive Fault
deriving DecidableEq, Repr

/-- The reasons a command is refused by the model. -/
inductive Refusal
  /-- A command whose meaning is not written yet; raised by its arm of `exec` alone; safe: the block stops where the
  hardware would go on. -/
  | notModelled (mnemonic : String)
deriving DecidableEq, Repr

/-- The module as delivered, before its first power good: unpowered, both lanes off, every register at its default
(R517). POWER_GOOD (R364) starts it. -/
def State.reset : State where
  powered := false
  tick := 0
  img := Image.reset
  sealed := []
  committed := Image.reset
  shadow := Image.reset
  trail := none
  trailG := []
  before := none
  release := none
  landing := none
  work := none
  owner := .a
  buckle := Buckle.reset
  lanes := ⟨LaneState.reset, LaneState.reset⟩
  seam := Seam.reset
  hold := Hold.reset
  takeover := none
  handoverAcked := false
  rerun := false
  drained := []
  bus := BusMemory.reset
  mirror := Mirror.reset
  stores := ⟨Store.reset, Store.reset⟩
  nor := ⟨[], []⟩
  pending := []

end Sys2Proof.Machine
end

