-- ==== Sys2Proof/Machine/Base.lean ====
section
/-! DEFINITION. Which lane acts (R7, R327, R378), and the frames every command is written in: a command that concerns the
module's functions acts on the working image of the active lane, and does nothing while no lane runs. -/

namespace Sys2Proof.Machine

/-- What a step answers here. -/
abbrev Result := Host.Outcome State Fault Refusal

/-- The lane both rails hold the code of (R327). -/
def Buckle.granted (b : Buckle) : Option Lane :=
  match b.railP, b.railQ with
  | 1, 1 => some .a
  | 2, 2 => some .b
  | _, _ => none

/-- The rails agree and hold no invalid code. -/
def Buckle.agree (b : Buckle) : Bool := b.railP == b.railQ && b.railP != 3

def State.granted (s : State) : Option Lane := s.buckle.granted

def State.onLane (s : State) (l : Lane) (f : LaneState → LaneState) : State := { s with lanes := s.lanes.on l f }
def State.onStore (s : State) (l : Lane) (f : Store → Store) : State := { s with stores := s.stores.on l f }
def State.onSeam (s : State) (f : Seam → Seam) : State := { s with seam := f s.seam }
def State.onBuckle (s : State) (f : Buckle → Buckle) : State := { s with buckle := f s.buckle }
def State.edit (s : State) (f : Image → Image) : State := { s with img := f s.img }

/-- The lane that acts: granted, in the active role, operational and not faulted; the working image is its own. -/
def State.activeLane (s : State) : Option Lane :=
  match s.granted with
  | some l =>
    let x := s.lanes.get l
    if s.powered && x.st = .operational && x.active && !x.faulted && s.owner == l then some l else none
  | none => none

/-- A lane runs the module. -/
def State.running (s : State) : Bool := s.activeLane.isSome

/-- The lane that serves the networks in Lining mode (R378): the granted one, else Lane A where it is in Lining mode. -/
def State.liningLane (s : State) : Option Lane :=
  if !s.powered then none
  else
    let in_ := fun (l : Lane) => (s.lanes.get l).st == .lining
    match s.granted with
    | some l => if in_ l then some l else none
    | none => if in_ .a then some .a else if in_ .b then some .b else none

def State.lining (s : State) : Bool := s.liningLane.isSome

/-- The other lane takes part as a standby: operational, not granted. -/
def State.standbyUp (s : State) : Bool :=
  match s.activeLane with
  | some l => (s.lanes.get l.other).st = .operational && !(s.lanes.get l.other).faulted
  | none => false

/-- The standby's qualified line is set at the Buckle (R323). -/
def State.qualified (s : State) : Bool :=
  match s.activeLane with
  | some l => s.buckle.qualified.get l.other
  | none => false

/-- The links that are up (R307). -/
def Seam.up (m : Seam) : Link → Bool
  | .one => m.link1 == 2
  | .two => m.link2 == 2

def Seam.upCount (m : Seam) : Nat := b2n (m.up .one) + b2n (m.up .two)

def Seam.setLink (m : Seam) (k : Link) (v : Nat) : Seam :=
  match k with
  | .one => { m with link1 := v }
  | .two => { m with link2 := v }

def Seam.linkState (m : Seam) : Link → Nat
  | .one => m.link1
  | .two => m.link2

/-- What the last command sent is forgotten as the next begins. -/
def State.hush (s : State) : State := s.edit (fun im => { im with outs := [] })

/-- No frame is under way, none waits, and no standby follows. -/
def State.dropWork (s : State) : State :=
  { s with before := none, release := none, landing := none, work := none, trail := none, trailG := [] }

/-- A command that any state takes. -/
def State.go (s : State) (f : State → State) : Result := .next (f s.hush)

/-- A command that acts while a lane runs the module. -/
def State.live (s : State) (f : State → State) : Result := s.go (fun s => if s.running then f s else s)

/-- What both lanes find: the active lane on the working image, a following standby on its own (R305). -/
def State.both (s : State) (f : Image → Image) : State :=
  { s with img := f s.img, trail := s.trail.map (fun t => { f t with outs := [] }) }

/-- A command on the working image of the active lane, and on what the standby shadows. -/
def State.act (s : State) (f : Image → Image) : Result := s.live (fun s => s.both f)

/-- A command that Lining mode serves too. -/
def State.serve (s : State) (f : State → State) : Result := s.go (fun s => if s.running || s.lining then f s else s)

/-- The objects of a lane's start counters and of its lockstep counters (R388). -/
def startObj : Lane → Nat
  | .a => 0x2209
  | .b => 0x220A
def lockstepObj : Lane → Nat
  | .a => 0x2207
  | .b => 0x2208

/-- Send an answer to a dictionary access. -/
def Image.answer (im : Image) (p : Path) (idx sub code : Nat) (data : Bytes) : Image := im.send (.answer p idx sub code data)
def State.answer (s : State) (p : Path) (idx sub code : Nat) (data : Bytes) : State := s.edit (fun im => im.answer p idx sub code data)

/-- The epoch as Seam blocks and objects carry it: 16 bits (R331). -/
def State.epoch (s : State) : Nat := wrap 16 s.buckle.epoch

/-- What a path stands for in an access: the service port counts as a gateway (R498). -/
def isGateway : Path → Bool
  | .gateway _ | .x9 => true
  | _ => false

end Sys2Proof.Machine
end

