-- ==== Sys2Proof/Machine/Ledger.lean ====
section
/-! DEFINITION. The conservation ledger (R430 to R445): the terms of the seven equations, their survey, a breach and its
snapshot, the clear with value 2. -/

namespace Sys2Proof.Machine

/-- One case of an equation: its terms in the order of R445; the left side is the first term, the right side the sum
of the others that count. -/
structure LedgerRow where
  terms : List Nat
  /-- the terms on the right -/
  right : List Nat
  /-- the inequality of LG1, met where the equation has none -/
  plain : Bool
deriving DecidableEq, Repr

def LedgerRow.left (x : LedgerRow) : Nat := x.terms.headD 0
def LedgerRow.sum (x : LedgerRow) : Nat := x.right.foldl (· + ·) 0

/-- The equation balances modulo 2⁴⁸ (R431). -/
def LedgerRow.balanced (x : LedgerRow) : Bool := wrap 48 x.left == wrap 48 x.sum && x.plain

/-- The object of a port's request counters. -/
def canLedger : Port → Nat
  | .x7 => 0x260A
  | .x8 => 0x260B

def Image.canPort (im : Image) : Port → CanPort
  | .x7 => im.net.x7
  | .x8 => im.net.x8

/-- Requests in the mailboxes of a port. -/
def CanPort.pending (x : CanPort) : Nat := (x.boxes.toList.filter (·.isSome)).length

/-- LG1 of a side: with its inequality held ≤ release condition (R434). -/
def Image.ledgerSide (im : Image) (s : Side) : LedgerRow :=
  let x := im.permits.side s
  let o := tokenObj s
  let held := b2n x.held
  let pair := (im.permits.pair (relPair s)).reading
  let leaving := im.commit.pending.any (fun a => match a with | .withdraw t _ => t == s | _ => false) ||
    im.withdrawCause s != 0
  ⟨[im.reg o 4, im.reg o 5, held, b2n pair], [im.reg o 5, held], !x.held || pair || leaving⟩

def Image.ledgerCycles (im : Image) (d : Door) : LedgerRow :=
  let t := [im.dreg d 0x0E 1, im.dreg d 0x0E 2, im.dreg d 0x0E 3, im.dreg d 0x0E 4]
  ⟨t, t.drop 1, true⟩

def Image.ledgerLocks (im : Image) (d : Door) : LedgerRow :=
  let t := [im.dreg d 0x0E 5, im.dreg d 0x0E 6, b2n (im.unlocked d)]
  ⟨t, t.drop 1, true⟩

def Image.ledgerPort (im : Image) (q : Port) : LedgerRow :=
  let o := canLedger q
  let t := [im.reg o 1, im.reg o 2, im.reg o 3, im.reg o 4, (im.canPort q).pending]
  ⟨t, t.drop 1, true⟩

/-- The instances of LG1 to LG7; `flying`: the Seam blocks in flight. -/
def Image.ledger (im : Image) (flying : Nat) : List (List LedgerRow) :=
  let three := fun (o a b c : Nat) => let t := [im.reg o a, im.reg o b, im.reg o c]; (⟨t, t.drop 1, true⟩ : LedgerRow)
  let seam := [im.reg 0x2202 3, im.reg 0x2202 4, flying, im.reg 0x260C 1]
  [[im.ledgerSide .a, im.ledgerSide .b], (allFin 12).map im.ledgerCycles, (allFin 12).map im.ledgerLocks,
    [three 0x2702 5 6 7], [three 0x2108 2 3 4], [im.ledgerPort .x7, im.ledgerPort .x8], [⟨seam, seam.drop 1, true⟩]]

/-- Breached instances of an equation, bit i−1 instance i. -/
def breachMask (xs : List LedgerRow) : Nat := bitsToNat (xs.map (fun x => !x.balanced))

/-- Breached equations, bit n−1 LGn. -/
def breachedEquations (es : List (List LedgerRow)) : Nat := bitsToNat (es.map (fun e => breachMask e != 0))

/-- The snapshot of R445: 112 terms of 6 bytes. -/
def snapshotBytes (es : List (List LedgerRow)) : Bytes :=
  (es.flatten.map (fun x => (x.terms.map (le 6)).flatten)).flatten

/-- Blocks of type 0x01 to 0x05 in flight (0x2202:05). -/
def State.flying (s : State) : Nat := (s.seam.flights.filter (·.counted)).length

/-- The survey of one lane: the breach masks are shown, a breach counts, raises EV18 once and freezes the snapshot
(R434, R435). The first survey of a start from a set that was not current raises EV18 in any case (R439). `other`: the other lane's result and its terms, where it has surveyed; the snapshot is that of the lane
that found the breach. -/
def Image.survey (im : Image) (flying : Nat) (lane : Nat) (other : Option (Nat × List (List LedgerRow))) : Image :=
  let es := im.ledger flying
  let mine := breachedEquations es
  let theirs := (other.map (·.1)).getD 0
  let all := mine ||| theirs
  let im := (im.setReg 0x260E 3 (b2n other.isSome)).setReg 0x260E 2 theirs
  let im := if other.isSome then im.setReg 0x260E 1 im.now else im
  let im := (((im.setReg 0x2600 1 im.now).bump 0x2600 2).setReg 0x2600 3 mine)
  let im := (List.range 7).foldl (fun im n => im.setReg (0x2601 + n) 2 (breachMask (es.getD n []))) im
  let stale := im.reg 0x260D 1 = 3 && im.reg 0x2608 1 = 0
  if all = 0 && !stale then im
  else
    let first := im.reg 0x2608 1 = 0
    let im := im.bump 0x2600 4
    let im := (List.range 7).foldl (fun im n => if bitOf all n then im.bump (0x2601 + n) 5 else im) im
    let im := im.setReg 0x2600 5 (im.reg 0x2600 5 ||| all)
    if first then
      let who := if mine = 0 && theirs ≠ 0 then 3 - lane else if theirs = 0 then lane else 3
      let im := (im.latch 18 modScope ⟨who, 0, all⟩ false).setReg 0x2600 6 1
      let im := (((im.setReg 0x2608 1 1).setReg 0x2608 2 im.now).setReg 0x2608 3 who).setReg 0x2608 4 all
      { im with breach := snapshotBytes (if mine = 0 && theirs ≠ 0 then (other.map (·.2)).getD es else es) }
    else im

/-- The clear with value 2 (R437): the counters of each case start from what is live. -/
def Image.clearLedger (im : Image) (flying seq : Nat) : Image :=
  let im := [Side.a, Side.b].foldl (fun im s =>
    (im.setReg (tokenObj s) 4 (b2n (im.permits.side s).held)).setReg (tokenObj s) 5 0) im
  let im := im.eachDoor (fun im d =>
    let im := (((im.setDreg d 0x0E 1 (im.dreg d 0x0E 4)).setDreg d 0x0E 2 0).setDreg d 0x0E 3 0)
    (im.setDreg d 0x0E 5 (b2n (im.unlocked d))).setDreg d 0x0E 6 0)
  let im := [(0x2702, 5), (0x2702, 6), (0x2702, 7), (0x2108, 2), (0x2108, 3), (0x2108, 4), (0x2202, 4),
    (0x260C, 1)].foldl (fun im p => im.setReg p.1 p.2 0) im
  let im := im.setReg 0x2202 3 flying
  let im := [Port.x7, Port.x8].foldl (fun im q =>
    (((im.setReg (canLedger q) 1 (im.canPort q).pending).setReg (canLedger q) 2 0).setReg (canLedger q) 3 0).setReg
      (canLedger q) 4 0) im
  let im := (im.setReg 0x2600 5 0).setReg 0x2600 6 0
  let im := [1, 2, 3, 4, 5].foldl (fun im n => im.setReg 0x2608 n 0) im
  let im := (im.release 18 modScope)
  let im := ((im.setReg 0x260D 1 2).setReg 0x260D 2 seq).setReg 0x260D 3 im.op
  { im with breach := [] }

end Sys2Proof.Machine
end

