-- ==== Sys2Proof/Machine/Recorder.lean ====
section
/-! DEFINITION. The event recorder (R389 to R429): section R's assembly of records, the payloads of the records built
there, the record store of a lane, the cursors, the clear. -/

namespace Sys2Proof.Machine

/-! ## Records as bytes -/

/-- The payload of every record type fills its 468 bytes, its reserved end among them (R389, R394 to R399). -/
def payloadLength : Nat := 468

/-- The 512 bytes of a record (R389, R390). -/
def Record.bytes (r : Record) : Bytes :=
  let head := le 2 0x0100 ++ [r.type, r.flags] ++ le 6 r.seq ++ le 5 r.op ++ le 4 r.cycles ++ le 5 r.tai ++ le 2 r.ms ++
    [r.scope, r.trigger, r.list] ++ le 2 payloadLength ++ [r.lane * 64 + r.epoch % 64, r.quality] ++ zeros 7
  let body := head ++ padTo payloadLength r.payload
  body ++ le 4 (crc32c body)

/-- A record as its record block carries it (R401): what each lane completes for itself is left out. -/
def Record.block (r : Record) : Bytes :=
  let b := r.bytes
  (b.drop 2).take 8 ++ (b.drop 19).take 14 ++ (b.drop 40).take payloadLength ++ b.take 2

/-! ## Snapshots (R400) -/

/-- The entries in use of snapshot list `n`: index, sub, length in bits. -/
def Image.snapshotEntries (im : Image) (n : Nat) : List (Nat × Nat × Nat) :=
  if n = 0 then []
  else (List.range (min 64 (im.reg (0x2709 + n) 0x41))).map (fun i =>
    let e := im.reg (0x2709 + n) (i + 1)
    (e / 0x10000, e / 0x100 % 0x100, e % 0x100))

/-- The 256 bytes of a list's values; `view` reads a value as it stands at the start of section D. -/
def Image.snapshot (im : Image) (view : Nat → Nat → Nat) (n : Nat) : Bytes :=
  padTo 256 ((im.snapshotEntries n).map (fun e => le ((e.2.2 + 7) / 8) (wrap e.2.2 (view e.1 e.2.1)))).flatten

/-! ## Configuration changes (R393, R398) -/

/-- Entries of a configuration-change record in ascending order. -/
def insertChange (c : Nat × Bool × Nat × Nat × Nat × Nat) :
    List (Nat × Bool × Nat × Nat × Nat × Nat) → List (Nat × Bool × Nat × Nat × Nat × Nat)
  | [] => [c]
  | x :: xs =>
    if key c.2.2.1 c.2.2.2.1 ≤ key x.2.2.1 x.2.2.2.1 then c :: x :: xs else x :: insertChange c xs

/-- Pieces of at most `n` elements; `fuel` bounds their number. -/
def chunks {α : Type} (n : Nat) : Nat → List α → List (List α)
  | 0, _ => []
  | _, [] => []
  | fuel + 1, xs => xs.take n :: chunks n fuel (xs.drop n)

/-- Payload of a configuration-change record (R398). -/
def changePayload (source : Nat) (auth : Bool) (digest : Nat) (es : List (Nat × Nat × Nat × Nat)) : Bytes :=
  [source, es.length, b2n auth, 0] ++ le 4 digest ++
    (es.map (fun e => le 2 e.1 ++ [e.2.1, 0] ++ le 4 e.2.2.1 ++ le 4 e.2.2.2)).flatten

/-- The records of one scope and source, with EV19. -/
def Image.changeRecords (im : Image) (scope source : Nat) (auth : Bool)
    (cs : List (Nat × Bool × Nat × Nat × Nat × Nat)) : Image :=
  if cs.isEmpty then im
  else
    let sorted := cs.foldl (fun r c => insertChange c r) []
    let im := im.occur 19 (if h : scope < 13 then ⟨scope, h⟩ else 0) Source.zero
    (chunks 38 (sorted.length) sorted).foldl (fun im part =>
      im.draft ⟨3, 0x08, scope, 19, 0, changePayload source auth im.safetyDigest (part.map (fun c => c.2.2))⟩) im

/-- The safety digest at the last authorised change (0x2313:02) follows an authorised change. -/
def Image.noteDigest (im : Image) (auth : Bool) : Image := if auth then im.setReg 0x2313 2 im.safetyDigest else im

/-- The changes of the frame become drafts: for each doorway in ascending order, then for the module (R393). -/
def Image.flushChanges (im : Image) : Image :=
  let cs := im.rcd.changes
  if cs.isEmpty then im
  else
    let im := im.noteDigest (cs.any (fun c => c.2.1))
    let im := { im with rcd := { im.rcd with changes := [] } }
    (((List.range 12).map (· + 1)) ++ [0]).foldl (fun im scope =>
      [1, 2, 3, 4, 5, 6, 7].foldl (fun im source => [true, false].foldl (fun im auth =>
        im.changeRecords scope source auth
          (cs.filter (fun c => changeScope c.2.2.1 == scope && c.1 == source && c.2.1 == auth))) im) im) im

/-! ## Assembly (R402) -/

/-- The doorway of a scope. -/
def scopeDoor (scope : Nat) : Option Door := match scope with | 0 => none | d + 1 => if h : d < 12 then some ⟨d, h⟩ else none

/-- The snapshot list of an event or fault record (R400). -/
def Image.eventList (im : Image) (e : FifoEntry) : Nat :=
  match scopeDoor e.scope with
  | some d => if 2 ≤ e.cls then im.dreg d 0x17 2 else im.reg 0x2504 (e.ev + 1)
  | none => im.reg 0x2504 (e.ev + 1)

/-- Payload of an event or fault record (R394). -/
def Image.eventPayload (im : Image) (view : Nat → Nat → Nat) (e : FifoEntry) : Bytes :=
  [e.ev, e.tr.code, e.cls, e.byte] ++ le 8 e.frame ++ [e.stitch, 0, 0, 0] ++ e.src.bytes ++ le 8 e.word ++
    le 8 e.latched ++ le 4 (im.now - e.frame) ++ zeros 168 ++ im.snapshot view (im.eventList e)

/-- Totals of the doorways. -/
def Image.sumDoors (im : Image) (off sub : Nat) : Nat := (allFin 12).foldl (fun n d => n + im.dreg d off sub) 0

/-- Payload of the clear record (R421); `im0`: the frame before the clear commit. -/
def clearPayload (im0 : Image) (value source oldest newest : Nat) : Bytes :=
  let u48 := fun (i s : Nat) => le 6 (im0.reg i s)
  [value, source, 0, 0] ++ le 6 oldest ++ le 6 newest ++ u48 0x2712 4 ++ [0, 0] ++
    ((List.range 13).map (fun t => le 4 (im0.reg 0x2704 (t + 1)))).flatten ++
    u48 0x2306 4 ++ u48 0x2306 5 ++ u48 0x2307 4 ++ u48 0x2307 5 ++
    le 6 (im0.sumDoors 0x0E 1) ++ le 6 (im0.sumDoors 0x0E 2) ++ le 6 (im0.sumDoors 0x0E 3) ++
    le 6 (im0.sumDoors 0x0E 5) ++ le 6 (im0.sumDoors 0x0E 6) ++
    u48 0x2702 5 ++ u48 0x2702 6 ++ u48 0x2702 7 ++ u48 0x2108 2 ++ u48 0x2108 3 ++ u48 0x2108 4 ++
    u48 0x260A 1 ++ u48 0x260A 2 ++ u48 0x260A 3 ++ u48 0x260A 4 ++ u48 0x260B 1 ++ u48 0x260B 2 ++ u48 0x260B 3 ++
    u48 0x260B 4 ++ u48 0x2202 3 ++ u48 0x2202 4 ++ ((allFin 12).map (fun d => le 6 (im0.dreg d 0x0E 1))).flatten

/-- What section R knows of the frame and of the lanes. -/
structure AssembleCtx where
  im0 : Image
  view : Nat → Nat → Nat
  lane : Nat
  epoch : Nat
  lining : Bool
  /-- records in the write queue of the lane -/
  queued : Nat
  flying : Nat
  oldest : Nat

/-- Assign the next sequence to a record (R391, R392): its type's counts move with it. -/
def Image.assign (im : Image) (x : AssembleCtx) (type scope trigger list : Nat) (payload : Bytes) : Image :=
  let seq := im.reg 0x2700 2 + 1
  let chatter := match scopeDoor scope with | some d => (im.door d).chatter.active | none => false
  let flags := bitsToNat [false, false, false, false, chatter, im.reg 0x2FF0 1 == 1, x.lining, im.commit.singleLane]
  let r : Record := ⟨type, flags, seq, im.op, im.reg 0x2102 2, taiOf x.im0.clk.wallUs, msOf x.im0.clk.wallUs, scope, trigger,
    list, x.lane, x.epoch, x.im0.quality, payload, legacyEvents im.shownWord⟩
  let im := { im with rcd := { im.rcd with log := r :: im.rcd.log } }
  ((im.setReg 0x2700 2 seq).bump 0x2704 type).setReg 0x2717 type seq

/-- A draft gets its sequence; a clear sets the floor and restarts the counts (R420), a door cycle is noted at its
doorway. -/
def Image.assignDraft (im : Image) (x : AssembleCtx) (d : Draft) : Image :=
  let seq := im.reg 0x2700 2 + 1
  if d.type = 0x07 then
    let im := (List.range 13).foldl (fun im t => im.setReg 0x2704 (t + 1) 0) im
    let value := d.payload.headD 1
    let im := im.assign x d.type d.scope d.trigger 0
      (clearPayload x.im0 value ((d.payload.drop 1).headD 0) x.oldest (seq - 1))
    let im := { im with rcd := { im.rcd with floor := seq, clearing := 0 } }
    let im := im.setReg 0x2712 4 seq
    if value = 2 then im.clearLedger x.flying seq else im
  else if d.type = 0x01 then
    let im := im.assign x d.type d.scope d.trigger d.list (d.payload ++ im.snapshot x.view d.list)
    match scopeDoor d.scope with
    | some w => im.setDreg w 0x0F 6 seq
    | none => im
  else im.assign x d.type d.scope d.trigger 0 d.payload

/-- A FIFO entry becomes an event or a fault record; it is accepted and recorded (R412), a test occurrence outside LG4 and
0x250B (R589). -/
def Image.assignEntry (im : Image) (x : AssembleCtx) (e : FifoEntry) : Image :=
  let im := im.assign x (if 2 ≤ e.cls then 0x03 else 0x02) e.scope e.ev (im.eventList e) (im.eventPayload x.view e)
  if e.test then im
  else
    let im := im.setReg 0x250B (e.ev + 1) (im.reg 0x2700 2)
    let im := if e.ev = 18 && im.reg 0x2608 5 = 0 then im.setReg 0x2608 5 (im.reg 0x2700 2) else im
    (im.bump 0x2702 5).bump 0x2702 6

/-- Occurrences counted as overflowed since the last summary. -/
def Image.overflowed (im : Image) : Nat := (List.range 64).foldl (fun n e => n + im.reg 0x2703 (e + 1)) 0

/-- The overflow summary is due (R411). -/
def Image.overflowDue (im : Image) : Bool :=
  im.overflowed != 0 && (decide (im.rcd.fifo.length ≤ 256) || decide (im.rcd.ovFirst + 1000 ≤ im.now))

/-- The overflow summary is written and the counters are zeroed in the same commit (R411). -/
def Image.overflowSummary (im : Image) (x : AssembleCtx) : Image :=
  let n := im.overflowed
  let p := le 8 im.rcd.ovFirst ++ le 8 im.rcd.ovLast ++ le 4 n ++ le 2 im.rcd.ovPeak ++ [0, 0] ++
    ((List.range 64).map (fun e => le 4 (im.reg 0x2703 (e + 1)))).flatten
  let im := ((im.assign x 0x0C 0 24 0 p).bump 0x2702 4).occur 24 modScope ⟨0, 0, n⟩
  let im := (List.range 64).foldl (fun im e => im.setReg 0x2703 (e + 1) 0) im
  let im := { im with rcd := { im.rcd with ovFirst := 0, ovLast := 0, ovPeak := im.rcd.fifo.length } }
  (im.bumpBy 0x2702 5 n).bumpBy 0x2702 7 n

/-- Take drafts of one priority while records remain to be assembled. -/
def Image.takeDrafts (im : Image) (x : AssembleCtx) (prio left : Nat) : Image × Nat :=
  let mine := (im.rcd.drafts.filter (fun d => d.prio == prio)).take left
  let kept := (im.rcd.drafts.filter (fun d => d.prio == prio)).drop left
  let im := { im with rcd := { im.rcd with drafts := kept ++ im.rcd.drafts.filter (fun d => d.prio != prio) } }
  (mine.foldl (fun im d => im.assignDraft x d) im, left - mine.length)

/-- Section R (R402, R403): at most 8 records, at most 4 of them event or fault records, of occurrences of earlier frames
(R583), none of those while the write queue holds more than 448 records. -/
def Image.assemble (im : Image) (x : AssembleCtx) : Image :=
  let im := im.flushChanges
  let r := im.takeDrafts x 1 8
  let r := r.1.takeDrafts x 2 r.2
  let r := if 0 < r.2 && r.1.overflowDue then (r.1.overflowSummary x, r.2 - 1) else r
  let r := r.1.takeDrafts x 3 r.2
  let n := if 448 < x.queued then 0 else min 4 r.2
  let im := r.1
  let due := (im.rcd.fifo.filter (fun e => e.frame != im.now)).take n
  let kept := (im.rcd.fifo.filter (fun e => e.frame != im.now)).drop n ++ im.rcd.fifo.filter (fun e => e.frame == im.now)
  let im := { im with rcd := { im.rcd with fifo := kept } }
  due.foldl (fun im e => im.assignEntry x e) im

/-- Sequences assigned after `old`. -/
def newSeqs (old new : Nat) : List Nat := (List.range (new - old)).map (fun i => old + 1 + i)

/-! ## A lane's store (R403 to R409) -/

/-- Applied records enter the write queue of 512 records; sequences never applied count as absent (R409). Where the queue
is full its oldest record leaves it unwritten, and counts as absent too (DESIGN CHOICE). -/
def Store.push (x : Store) (seqs : List Nat) : Store :=
  seqs.foldl (fun x q =>
    let excess := (x.queue.length + 1) - 512
    let queue := (x.queue ++ [q]).drop excess
    { x with
      queue := queue, peak := max x.peak queue.length,
      absent := x.absent + excess + (q - x.newest - 1),
      newest := max x.newest q }) x

/-- Sequences a store holds, oldest first. -/
def Store.held (x : Store) : List Nat :=
  (if x.st = 4 then [] else (x.blocks.map (·.seqs)).flatten) ++ x.queue

/-- The oldest sequence held at or above the floor; the floor itself where none is held, and for a store that has failed,
of which every sequence outside the queue reads as absent (R428). -/
def Store.oldest (x : Store) (floor : Nat) : Nat :=
  if x.st = 4 then floor else ((x.held.filter (fun q => decide (floor ≤ q))).head?).getD floor

/-- Newest sequence written to NAND. -/
def Store.written (x : Store) : Nat := (((x.blocks.map (·.seqs)).flatten).getLast?).getD 0

/-- The last block, the one being written, and the rest. -/
def Store.current (x : Store) : NandBlock := (x.blocks.getLast?).getD ⟨[], 0⟩

def Store.setCurrent (x : Store) (b : NandBlock) : Store := { x with blocks := x.blocks.dropLast ++ [b] }

/-- A block is retired: a spare takes its place, or the ring shrinks (R406). -/
def Store.retire (x : Store) : Store :=
  { x with
    retired := x.retired + 1
    ring := if x.spares = 0 then x.ring - 1 else x.ring
    spares := x.spares - 1 }

/-- Writing enters the erased block: the oldest is chosen for erasure where no other is left erased ahead (R405). -/
def Store.enterBlock (x : Store) : Store :=
  let x := { x with blocks := x.blocks ++ [⟨[], 0⟩] }
  if x.ring ≤ x.blocks.length then { x with blocks := x.blocks.drop 1, erasing := true } else x

/-- The block being written has room. -/
def Store.ready (x : Store) : Store :=
  if x.blocks.isEmpty || 256 ≤ x.current.used then x.enterBlock else x

/-- Program one slot with the record at the head of the queue. -/
def Store.program (x : Store) (ok : Bool) : Store :=
  match x.queue with
  | [] => x
  | q :: rest =>
    if x.erasing then x
    else
      let x := x.ready
      if x.erasing then x
      else
        let b := x.current
        if ok then { x.setCurrent { b with seqs := b.seqs ++ [q] } with queue := rest }
        else
          let x := { x.setCurrent { b with bad := b.bad + 1 } with badSlots := x.badSlots + 1, progFails := x.progFails + 1 }
          if 8 ≤ b.bad + 1 then x.retire.enterBlock else x

/-- Up to 4 slots of a frame (R403); a store that is not mounted writes nothing (R407). -/
def Store.write (x : Store) (oks : List Bool) : Store :=
  if x.st = 0 || x.st = 4 || x.ring = 0 then x else (oks.take 4).foldl Store.program x

/-- The erase of the chosen block has ended (R405, R406). -/
def Store.eraseDone (x : Store) (ok : Bool) : Store :=
  if !x.erasing then x
  else if ok then { x with erasing := false }
  else { x.retire with erasing := false, eraseFails := x.eraseFails + 1 }

/-- Blocks wholly below the floor, the one being written left out (R420). -/
def Store.toErase (x : Store) (floor : Nat) : Nat :=
  (x.blocks.dropLast.filter (fun b => b.seqs.all (fun q => decide (q < floor)))).length

/-- One block below the floor is erased, at most one every 4 frames. -/
def Store.eraseOne (x : Store) (floor now : Nat) : Store :=
  if x.toErase floor = 0 || (decide (x.lastErase ≠ 0) && decide (now < x.lastErase + 4)) then x
  else
    let below := fun (b : NandBlock) => b.seqs.all (fun q => decide (q < floor))
    let head := x.blocks.dropLast
    let first := head.takeWhile (fun b => !below b)
    { x with blocks := first ++ (head.drop (first.length + 1)) ++ x.blocks.drop head.length, lastErase := now }

/-- The causes of EV23 (R408), the first that holds; 0 none. -/
def Store.cause (x : Store) (im : Image) : Nat :=
  let recent := x.badReads.filter (fun t => decide (im.clk.opMs < t + 86400000))
  if x.st = 4 then 3
  else if x.spares < im.reg 0x2714 1 then 1
  else if im.reg 0x2714 2 < recent.length then 2
  else match x.fullSince with
    | some f => if f + 1000 ≤ im.now then 4 else 0
    | none => 0

/-- The recorder state (0x2700:01, R429): degraded while EV23 has a cause here, read-only with no ring block left. -/
def Store.shown (x : Store) (im : Image) : Nat :=
  if x.st ≠ 1 then x.st else if x.ring = 0 then 3 else if x.cause im ≠ 0 then 2 else 1

/-- The full queue is timed frame by frame. -/
def Store.tick (x : Store) (now : Nat) : Store :=
  { x with fullSince := if x.queue.length < 512 then none else match x.fullSince with | some f => some f | none => some now }

/-- EV23 follows the causes of both lanes' stores (R408). -/
def Image.storeEvent (im : Image) (a b : Store) : Image :=
  let c := if a.cause im ≠ 0 then a.cause im else b.cause im
  let im := im.setReg 0x2714 3 c
  if c ≠ 0 then im.raise 23 modScope ⟨0, c, 0⟩ else im.clearEv 23 modScope Source.zero

/-! ## Cursors (R416 to R418) -/

/-- The object of a cursor. -/
def cursorObj (k : Fin 4) : Nat := 0x2705 + k.val

/-- A cursor's position is written. -/
def Image.setCursor (im : Image) (k : Fin 4) (v oldest newest : Nat) : Image :=
  im.setReg (cursorObj k) 1 (if v = 0 then oldest else if v = 0xFFFFFFFFFFFF then newest else v)

/-- What stopped a read. -/
structure ReadOut where
  pos : Nat
  records : List Record
  /-- result where no record is returned -/
  stop : Nat
deriving DecidableEq, Repr

/-- Read records in ascending sequence: those filtered out are passed over; the read stops before one that is absent or
unreadable, unless it is the first. -/
def readRecords (held unread : List Nat) (mask scope : Nat) : List Record → Nat → Nat → List Record → ReadOut
  | [], _, pos, acc => ⟨pos, acc, 0⟩
  | r :: rs, left, pos, acc =>
    if left = 0 then ⟨pos, acc, 0⟩
    else
      let bad := if !held.contains r.seq then 4 else if unread.contains r.seq then 3 else 0
      if bad ≠ 0 then (if acc.isEmpty then ⟨r.seq + 1, [], bad⟩ else ⟨r.seq, acc, 0⟩)
      else if bitOf mask r.type && (scope == 0xFF || scope == r.scope) then
        readRecords held unread mask scope rs (left - 1) (r.seq + 1) (acc ++ [r])
      else readRecords held unread mask scope rs left (r.seq + 1) acc

/-- One read of a cursor: the response, and the cursor after it. `log`: the committed records, oldest first. -/
def Image.readCursor (im : Image) (k : Fin 4) (x : Store) (unread : List Nat) (floor newest : Nat) (log : List Record) :
    Bytes × Image × Nat :=
  let o := cursorObj k
  let pos := im.reg o 1
  let oldest := x.oldest floor
  let r : ReadOut :=
    if pos < oldest then ⟨oldest, [], 1⟩
    else if newest < pos then ⟨pos, [], 2⟩
    else readRecords x.held unread (im.reg o 2) (im.reg o 3) (log.filter (fun r => decide (pos ≤ r.seq ∧ r.seq ≤ newest)))
      (im.reg o 4) pos []
  let im := ((im.setReg o 1 r.pos).setReg o 6 r.stop).bump 0x2716 1
  let im := if r.stop = 1 then im.bump 0x2716 2 else im
  let im := im.bumpBy 0x2716 3 r.records.length
  ([r.stop, r.records.length, 0, 0] ++ le 6 r.pos ++ le 6 oldest ++ (r.records.map Record.bytes).flatten, im, r.stop)

/-- Committed records at or above the floor, oldest first. -/
def Image.committedLog (im : Image) : List Record :=
  (im.rcd.log.filter (fun r => decide (im.rcd.floor ≤ r.seq ∧ r.seq ≤ im.reg 0x2700 2))).reverse

/-- Read a cursor on the lane that serves. -/
def State.readCursor (s : State) (k : Fin 4) (unread : List Nat) : Bytes × State :=
  let l := (s.activeLane).getD ((s.liningLane).getD .a)
  let r := s.img.readCursor k (s.stores.get l) unread s.committed.rcd.floor (s.committed.reg 0x2700 2) s.img.committedLog
  let s := { s with img := r.2.1 }
  if r.2.2 = 3 then
    (r.1, s.onStore l (fun x => { x with
      rereads := x.rereads + 3, unreadable := x.unreadable + 1, badReads := x.badReads ++ [s.img.clk.opMs] }))
  else (r.1, s)

/-! ## Clearing (R419, R420) -/

/-- A clear is still erasing, or waits for its commit. -/
def State.clearBusy (s : State) : Bool :=
  s.img.rcd.clearing != 0 || decide (s.stores.a.toErase s.committed.rcd.floor ≠ 0) ||
    decide (s.stores.b.toErase s.committed.rcd.floor ≠ 0)

/-- The clear is refused in this state. -/
def State.clearRefused (s : State) (value : Nat) : Bool :=
  s.clearBusy || s.lining ||
    (value == 2 && ((allFin 12).any s.img.inProgress || s.img.permits.sideA.held || s.img.permits.sideB.held))

/-- An accepted clear: its record waits for section R. -/
def Image.startClear (im : Image) (value source : Nat) : Image :=
  let im := { im with rcd := { im.rcd with clearing := value } }
  let im := ((im.setReg 0x2712 2 3).bump 0x2712 3).occur 22 modScope ⟨0, value, 0⟩
  im.draft ⟨1, 0x07, 0, 22, 0, [value, source]⟩

end Sys2Proof.Machine
end

