-- ==== Sys2Proof/Machine/Mailbox.lean ====
section
/-! DEFINITION. Transmit mailboxes of the CAN ports (R458 to R464): placing a request, its eligibility, its one end; the
EMCY queue and the error history (R472, R473); what a port may do in each of its states. -/

namespace Sys2Proof.Machine

def Image.onPort (im : Image) (q : Port) (f : CanPort → CanPort) : Image :=
  match q with
  | .x7 => { im with net := { im.net with x7 := f im.net.x7 } }
  | .x8 => { im with net := { im.net with x8 := f im.net.x8 } }

def Image.onCo (im : Image) (f : Canopen → Canopen) : Image := { im with net := { im.net with co := f im.net.co } }

/-- A register of a port (P:sub). -/
def Image.preg (im : Image) (q : Port) (sub : Nat) : Nat := im.reg q.obj sub
def Image.setPreg (im : Image) (q : Port) (sub v : Nat) : Image := im.setReg q.obj sub v
def Image.bumpP (im : Image) (q : Port) (sub : Nat) : Image := im.bump q.obj sub

/-- The frame clock in µs (R197): 62.5 µs to a stitch. -/
def Image.nowUs (im : Image) : Nat := im.clk.frame * 1000 + im.clk.stitch * 125 / 2

/-- The node-ID in force, and whether the node has one (R476). -/
def Image.nodeId (im : Image) : Nat := im.reg 0x2903 2
def Image.configured (im : Image) : Bool := decide (1 ≤ im.nodeId ∧ im.nodeId ≤ 127)

/-- The NMT state (0x2903:05): 0 initialising, 4 stopped, 5 operational, 127 pre-operational. -/
def Image.nmt (im : Image) : Nat := im.reg 0x2903 5
def Image.operational (im : Image) : Bool := im.nmt == 5

/-- SDO, SYNC and EMCY run: pre-operational or operational (R466). -/
def Image.servicesOn (im : Image) : Bool := im.configured && (im.nmt == 5 || im.nmt == 127)

/-- The ports in order. -/
def allPorts : List Port := [.x7, .x8]

/-- The port is in use: neither off nor disabled. -/
def CanPort.enabled (x : CanPort) : Bool := x.st != .off && x.st != .disabled

/-- The port transmits: error-active or error-passive at an accepted rate (R452, R454, R457). -/
def CanPort.transmits (x : CanPort) : Bool := x.st = .active || x.st = .passive

/-- The port takes new requests: it has a rate, is not in quarantine and is not being drained (R456, R457, R477). -/
def CanPort.accepts (x : CanPort) : Bool := (x.transmits || x.st = .busOff) && x.drain.isNone

/-- A tag has been reached. -/
def Image.tagReached (im : Image) (t : Option Nat) : Bool := match t with | none => true | some t => decide (t ≤ im.nowUs)

/-- A mailbox is eligible (R459): it holds a request whose tag has been reached, and a solitary port holds back all but
mailbox 0. -/
def Image.eligibleBox (im : Image) (q : Port) (k : Fin 32) : Bool :=
  let x := im.canPort q
  match x.boxes.get k with
  | none => false
  | some r => im.tagReached r.tag && (!x.solitary || k.val == 0)

/-- A mailbox may be in arbitration. -/
def Image.contends (im : Image) (q : Port) (k : Fin 32) : Bool := (im.canPort q).transmits && im.eligibleBox q k

/-- A tag is refused more than 60 s ahead (R460). -/
def Image.tagAllowed (im : Image) (t : Option Nat) : Bool :=
  match t with | none => true | some t => decide (t ≤ im.nowUs + 60000000)

/-- The mailbox can take the request. -/
def Image.maySubmit (im : Image) (q : Port) (k : Fin 32) (tag : Option Nat) : Bool :=
  (im.canPort q).accepts && ((im.canPort q).boxes.get k).isNone && im.tagAllowed tag

/-- A request is placed in a mailbox and counted as submitted (R458, R432). -/
def Image.submit (im : Image) (q : Port) (k : Fin 32) (r : Request) : Image :=
  if im.maySubmit q k r.tag then
    ((im.onPort q (fun x => { x with boxes := x.boxes.set k (some r) })).bump (canLedger q) 1).send (.request q k.val r)
  else im

/-- How a request ends (R461): the sub of its LG6 counter. -/
inductive Outcome | sent | cancelled | aborted
deriving DecidableEq, Repr

def Outcome.sub : Outcome → Nat
  | .sent => 2
  | .cancelled => 3
  | .aborted => 4

/-- A request ends with one outcome (R432, R461). -/
def Image.endRequest (im : Image) (q : Port) (k : Fin 32) (o : Outcome) : Image :=
  match (im.canPort q).boxes.get k with
  | none => im
  | some _ => (im.onPort q (fun x => { x with boxes := x.boxes.set k none })).bump (canLedger q) o.sub

/-- Every request of a port ends with one outcome. -/
def Image.endAll (im : Image) (q : Port) (o : Outcome) : Image := (allFin 32).foldl (fun im k => im.endRequest q k o) im

/-- A request is an SDO response or a TPDO. -/
def Request.answers (r : Request) : Bool :=
  match r.by_ with
  | .sdo1 | .sdo2 | .tpdo _ => true
  | _ => false

/-- A list without the first of its elements that a test picks. -/
def dropFirst {α : Type} (p : α → Bool) : List α → List α
  | [] => []
  | x :: xs => if p x then xs else x :: dropFirst p xs

/-- A new request replaces the one that its producer still has pending: the earlier ends as cancelled (R458). One that the
other lane was seen to send is not sent again (R545). -/
def Image.resubmit (im : Image) (q : Port) (k : Fin 32) (r : Request) : Image :=
  let seen := fun (e : Nat × Port × Nat × Bytes) => e.2.1 == q && e.2.2.1 == r.id && e.2.2.2 == r.data
  if r.answers && im.net.co.echo.any seen then
    { im with net := { im.net with co := { im.net.co with echo := dropFirst seen im.net.co.echo } } }
  else (im.endRequest q k .cancelled).submit q k r

/-! ## EMCY -/

/-- The message of R472. -/
def Image.emcyBytes (im : Image) (e : Emcy) : Bytes :=
  le 2 e.code ++ [im.errorRegister, e.ev, e.tr, e.scope] ++ e.src.bytes.take 2

/-- The doorway and the axis within it that an event names (R543): scope and item of an axis event. -/
def emcyAxis (e : Emcy) : Nat :=
  if e.scope ≠ 0 && [40, 41, 44, 50, 51, 52].contains e.ev && 1 ≤ e.src.item && e.src.item ≤ 36 then (e.src.item - 1) % 3 + 1 else 0

/-- Half away from zero (R540). -/
def divRound (x : Int) (n : Nat) : Int :=
  let q : Int := ((2 * x.natAbs + n) / (2 * n) : Nat)
  if x < 0 then -q else q

/-- The legacy message of R543; `code`: the code it carries. -/
def Image.legacyEmcyBytes (im : Image) (e : Emcy) (code : Nat) : Bytes :=
  let k := emcyAxis e
  let pos : Int := if code = 0xFF10 then
      (if h : 1 ≤ e.src.item ∧ e.src.item ≤ 36 then divRound (im.axis ⟨e.src.item - 1, by omega⟩).plant.pos 100 else 0)
    else 0
  le 2 code ++ [im.errorRegister, e.scope, k] ++ le 2 (encInt 16 pos) ++ [0]

/-- The codes of CiA 301 in this model's EMCYs: event number 0xFF (R472). -/
def ciaEmcy (code : Nat) (q : Port) : Emcy := ⟨code, 0xFF, 1, 0, ⟨q.code, 0, 0⟩⟩

/-- The EMCY waits to be sent in section N. -/
def Image.emit (im : Image) (e : Emcy) : Image := { im with ev := { im.ev with emcy := im.ev.emcy ++ [e] } }

/-- The error history takes an EMCY, newest at sub 01 (R473). -/
def Image.history (im : Image) (e : Emcy) (code : Nat) : Image :=
  let im' := (List.range 15).foldl (fun (m : Image) i => m.setReg 0x1003 (16 - i) (im.reg 0x1003 (15 - i))) im
  (im'.setReg 0x1003 1 (e.scope * 2 ^ 24 + e.ev * 2 ^ 16 + code)).setReg 0x1003 0 (min 16 (im.reg 0x1003 0 + 1))

/-- An EMCY joins the queue of a port: 16 messages, the oldest is dropped (R458). -/
def Image.queueEmcy (im : Image) (q : Port) (m : Bytes) : Image :=
  let x := im.canPort q
  if !x.enabled then im
  else if x.emcyQueue.length < 16 then im.onPort q (fun x => { x with emcyQueue := x.emcyQueue ++ [m] })
  else (im.onPort q (fun x => { x with emcyQueue := x.emcyQueue.drop 1 ++ [m] })).bump 0x2904 6

/-- What an EMCY is sent as: natively with its code; on X7 in Overlay mode only the events of R543 and the CiA 301
codes, with legacy bytes. -/
def Image.emcyMessage (im : Image) (e : Emcy) : Option (Nat × Bytes) :=
  if !im.overlay then some (e.code, im.emcyBytes e)
  else if e.ev = 0xFF || e.code = 0 then some (e.code, im.legacyEmcyBytes e e.code)
  else if e.tr = 2 && !isLatchedIn e.ev e.scope then none
  else (legacyCode e.ev).map (fun c => (c, im.legacyEmcyBytes e c))

/-- The EMCYs of the frame enter the history (an error reset does not, PRESUMED) and the queues of every enabled port. -/
def Image.takeEmcy (im : Image) : Image :=
  let es := im.ev.emcy
  let im := { im with ev := { im.ev with emcy := [] } }
  if !im.configured then im
  else es.foldl (fun (im : Image) e =>
    match im.emcyMessage e with
    | none => im
    | some m =>
      let im := if e.ev = 0xFF || e.code = 0 then im else im.bump 0x250C 1
      allPorts.foldl (fun im q => im.queueEmcy q m.2) (if e.code = 0 then im else im.history e m.1)) im

/-- The inhibit time of EMCY has passed on a port (R472). -/
def Image.emcyAllowed (im : Image) (q : Port) : Bool :=
  match (im.canPort q).lastEmcy with
  | none => true
  | some f => decide (f * 10 + im.reg 0x1015 0 ≤ im.now * 10)

/-- The next waiting EMCY enters mailbox 1. -/
def Image.sendEmcy (im : Image) (q : Port) : Image :=
  match (im.canPort q).emcyQueue with
  | [] => im
  | m :: rest =>
    if im.servicesOn && im.emcyAllowed q && im.maySubmit q 1 none then
      (im.submit q 1 ⟨wrap 11 (im.reg 0x1014 0), m, none, .emcy⟩).onPort q (fun x => { x with
        emcyQueue := rest, lastEmcy := some im.now })
    else im

end Sys2Proof.Machine
end

