-- ==== Sys2Proof/Machine/Read.lean ====
section
/-! DEFINITION. What a read returns (R511): the objects whose values are computed from the state, per doorway, channel,
axis and module, and the values of DOMAIN and VISIBLE_STRING objects. A value no row computes is its register. -/

namespace Sys2Proof.Machine

/-- A signed value as a register of `n` bits. -/
def enc (n : Nat) (x : Int) : Option Nat := some (encInt n x)

def flagV (b : Bool) : Option Nat := some (b2n b)

/-! ## Axes -/

/-- The target of an axis, µm (A+2:04): the one that waits for a retarget stop (R121, R137), the one ordered, or the end of
the move under way; at rest the set-point. -/
def Image.axisTarget (im : Image) (a : Axis) : Int :=
  let w := im.leadGen a
  let ordered := w.orders.filterMap (fun o => match o.2 with | .target t => some t.target | _ => none)
  match w.pending, ordered.getLast?, im.axisMove a with
  | some t, _, _ => t.target
  | none, some x, _ => x
  | none, none, some m => m.target / 256
  | none, none, none => (im.axis a).sp / 256

/-- The computed objects of an axis (R144, R183). -/
def Image.axisView (im : Image) (a : Axis) (off sub : Nat) : Option Nat :=
  let x := im.axis a
  let l := im.axisLimits a
  match off, sub with
  | 0, 1 => if im.moverFitted (axisDoor a) (axisK a) then none else some 0
  | 0, 5 => if axisK a = 0 then some (im.dreg (axisDoor a) 0 5) else if axisK a = 1 then some (im.dreg (axisDoor a) 0 6) else none
  | 1, 0x0B => some l.vmax
  | 1, 0x0C => some l.acc
  | 1, 0x0D => some (im.axisDec a)
  | 2, 4 => enc 32 (im.axisTarget a)
  | 2, 5 => some (match im.axisMove a with | some m => m.durMs | none => 0)
  | 2, 6 => some (im.axisCond a)
  | 2, 7 => some (im.axisFlags a)
  | 3, 1 => enc 32 (x.sp / 256)
  | 3, 2 => enc 32 x.plant.pos
  | 3, 3 => enc 32 x.plant.vel
  | 3, 4 => enc 16 (clampInt (-32768) 32767 x.plant.current)
  | 3, 5 => some (im.clk.g / 64)
  | 3, 0x0B => some (x.guard.i2t * 100 / i2tMax)
  | 4, 1 => some x.force.mode
  | 4, 2 => enc 16 (if im.areg a 0 1 = 1 then clampInt (-32768) 32767 x.plant.angle else 0)
  | 4, 3 => enc 16 (if im.areg a 0 1 = 2 then clampInt (-32768) 32767 x.plant.angle else 0)
  | 4, 4 => enc 16 (clampInt (-32768) 32767 x.force.shown)
  | 4, 8 => flagV x.force.valid
  | 4, 0x0B => enc 16 x.force.thr
  | 4, 0x0C => some x.force.cmp
  | 5, 0x0C => some (bitsToNat [x.guard.latched, x.guard.thermal, x.guard.retryDue.isSome || x.guard.retryBehind])
  | 5, 0x0E => enc 16 x.plant.bridgeTemp
  | 7, 3 => some (im.binWidth a)
  | 7, 4 => some (im.taughtState a)
  | 7, 6 => enc 16 (im.driftLimit (axisDoor a) - x.highestBin.getD 0)
  | 7, 7 => some (bitsToNat [x.opening.taught, x.closing.taught])
  | _, _ => none

/-! ## Channels -/

/-- The computed objects of a channel (R274). -/
def Image.chanView (im : Image) (c : Chan) (off sub : Nat) : Option Nat :=
  let x := im.chan c
  match off, sub with
  | 1, 4 => some (im.chanState c)
  | 1, 5 => some (im.chanFlags c)
  | 1, 6 => flagV x.cmd
  | 2, 1 => some x.code
  | 2, 3 => some x.fine
  | 2, 4 => enc 16 x.deltaT
  | 2, 5 => enc 16 x.junction
  | _, _ => none

/-! ## Doorways -/

/-- Every bridge of the doorway is off (R43). -/
def Image.bridgesOff (im : Image) (d : Door) : Bool :=
  (allFin 3).all (fun k => let c := im.axisCond (axisOf d k); c ≤ 2 || c == 8 || c == 9)

/-- Repair ready (R43). -/
def Image.repairReady (im : Image) (d : Door) : Bool :=
  (im.door d).st = .isolated && im.dreg d 0x11 2 != 3 && decide ((im.door d).bankVolts < 100) && im.bridgesOff d

/-- One bit per digital input of a doorway. -/
def Image.inputMask (im : Image) (d : Door) (f : DIn → Bool) : Nat := bitsToNat ((im.door d).dis.toList.map f)

/-- The computed objects of a doorway (R58, R302). -/
def Image.doorView (im : Image) (d : Door) (off sub : Nat) : Option Nat :=
  let w := im.door d
  match off, sub with
  | 1, 1 => some w.shown.code
  | 1, 2 => some w.shownPrev.code
  | 1, 3 => some (im.doorFlags d)
  | 1, 4 => some (wrap 32 (im.now - w.since))
  | 9, 0x1D => some (im.inputMask d DIn.rawState)
  | 9, 0x1E => some (im.inputMask d (·.img))
  | 0x0A, 3 => some w.ea.reading
  | 0x0A, 4 => some w.eb.reading
  | 0x0A, 5 => some (min 65535 w.ea.ohms)
  | 0x0A, 6 => some (min 65535 w.eb.ohms)
  | 0x0C, 3 => flagV (im.handle d)
  | 0x10, 1 => some (im.ev.scopes.get (doorScope d)).shown.latched
  | 0x11, 4 => flagV w.bankPresent
  | 0x11, 5 => flagV (im.repairReady d)
  | 0x13, 4 => flagV w.chatter.active
  | 0x14, 3 => some w.teach.done
  | 0x14, 5 => some w.teach.rejected
  | 0x15, 1 => some w.staged.length
  | 0x16, 3 => enc 16 (im.axis (axisOf d 0)).therm
  | 0x16, 4 => enc 16 (im.axis (axisOf d 1)).therm
  | 0x16, 5 => enc 16 (im.axis (axisOf d 2)).therm
  | 0x16, 6 => some w.bankVolts
  | 9, sub =>
    if 0x22 ≤ sub && sub ≤ 0x2D then
      enc 16 ((w.dis.toList.map (·.volts)).getD (sub - 0x22) 0)
    else none
  | _, _ => none

/-! ## The module -/

/-- The authorisation state of a path (R567). -/
def Image.auth (im : Image) (p : Path) : AuthPath :=
  (im.net.upd.auth.find? (fun x => x.path == p)).getD (AuthPath.closed p)

/-- An authorisation is open on a path. -/
def Image.authorised (im : Image) (p : Path) : Bool := (im.auth p).openedAt.isSome

/-- The authorisation state of 0x2804:04. -/
def AuthPath.state (x : AuthPath) : Nat :=
  if x.openedAt.isSome then 2 else if x.lockedAt.isSome then 3 else if x.challenge.isSome then 1 else 0

/-- The time remaining of 0x2804:05, s (DEDUCED): of the challenge, of the authorisation, of the lockout. -/
def Image.authLeft (im : Image) (x : AuthPath) : Nat :=
  let left := fun (t len : Nat) => divUp (t + len * 1000 - im.now) 1000
  match x.openedAt, x.lockedAt, x.challenge with
  | some t, _, _ => min (left t (im.reg 0x2805 2)) (left x.lastRwa (im.reg 0x2805 1))
  | none, some t, _ => left t (im.reg 0x2805 4)
  | none, none, some c => left c.2 60
  | none, none, none => 0

/-- Doorways that keep the service window shut (R566): fitted, and neither Locked nor Isolated. -/
def Image.blocking (im : Image) : Nat :=
  doorWord (fun d => im.fitted d && (im.door d).st != .locked && (im.door d).st != .isolated)

/-- Values mapped by a snapshot list, bytes (0x270A:42). -/
def Image.snapshotLength (im : Image) (n : Nat) : Nat :=
  (im.snapshotEntries n).foldl (fun s e => s + (e.2.2 + 7) / 8) 0

/-- The port an index names. -/
def portOf (idx : Nat) : Port := if idx = 0x2900 then .x7 else .x8

/-- The port state of P:07 (R485). -/
def CanPort.shown (x : CanPort) : Nat :=
  if x.drain.isSome then 6 else if x.solitary then 5 else x.st.code

/-- The events word of a doorway: active or latched (0x2509). -/
def Image.doorEvents (im : Image) (d : Door) : Nat :=
  let e := (im.ev.scopes.get (doorScope d)).shown; e.active ||| e.latched

/-- A door by a sub-index from 1. -/
def subDoor (sub : Nat) : Option Door := if h : 1 ≤ sub ∧ sub ≤ 12 then some ⟨sub - 1, by omega⟩ else none

/-- A key belongs to the set selected by the sub of 0x1010 and 0x1011 (R520): 1 all, 2 communication, 3 application. -/
def inSet (set k : Nat) : Bool :=
  let idx := k / 256
  regPersist idx (k % 256) = .yes && (set == 1 || (set == 2 && idx < 0x2000) || (set == 3 && 0x2000 ≤ idx))

/-- The values in force of a set. -/
def Image.valuesOf (im : Image) (set : Nat) : RegFile := im.od.filter (fun e => inSet set e.1)

/-- The values in force differ from the stored set, or defaults marked for it have not taken effect (0x2003:03, R521). -/
def Image.differs (im : Image) : Bool := im.restoreComm || im.restoreApp || im.valuesOf 1 != im.stored

/-- The computed objects of the module that the image gives. -/
def Image.moduleView (im : Image) (p : Path) (idx sub : Nat) : Option Nat :=
  let b := im.belt
  let c := im.clk
  match idx, sub with
  | 0x1001, 0 => some im.errorRegister
  | 0x1013, 0 => some (wrap 32 (c.frame * 1000 + c.stitch * 125 / 2))
  | 0x2002, 1 => flagV im.healthy
  | 0x2002, 2 => some im.fittedWord
  | 0x2002, 3 => some (im.stateWord .locked)
  | 0x2002, 4 => some (im.stateWord .faultHeld)
  | 0x2002, 5 => some (im.stateWord .isolated)
  | 0x2003, 3 => flagV im.differs
  | 0x2004, 1 => some (if im.overlay then 215 else 1689)
  | 0x2004, 2 => some (if im.overlay then 3180 else 19693)
  | 0x2100, 1 => some (wrap 64 c.frame)
  | 0x2100, 2 => some c.stitch
  | 0x2100, 3 => some c.core
  | 0x2100, 4 => some (wrap 32 c.lastCycles)
  | 0x2100, 8 => some c.effectStitch
  | 0x2101, 1 => some c.gc
  | 0x2101, 2 => some c.g
  | 0x2101, 6 => flagV c.stopped
  | 0x2102, 1 => some im.op
  | 0x2102, 3 => some im.tai
  | 0x2102, 4 => some im.wallMs
  | 0x2102, 5 => enc 16 im.utcOffset
  | 0x2102, 6 => some im.quality
  | 0x290A, 7 => flagV im.ptpValid
  | 0x2104, 1 => some c.source
  | 0x2105, 1 => some b.level
  | 0x2105, 2 => some b.condBits
  | 0x2106, 1 => some b.input
  | 0x2106, 2 => some b.vin
  | 0x2106, 5 => some b.pIn
  | 0x2106, 6 => some b.link
  | 0x2107, 2 => some b.bus
  | 0x2107, 3 => enc 16 (clampInt (-32768) 32767 b.pMotor)
  | 0x2107, 7 => some (b.pool * 100 / 3200000)
  | 0x2108, 1 => some b.rate
  | 0x2108, 9 => some b.eligible
  | 0x2108, 0x0A => some (min 65535 b.unmet)
  | 0x210B, 1 => enc 16 b.ambient
  | 0x210B, 2 => some (b.kT / 1000)
  | 0x210C, 3 => flagV b.rest
  | 0x2306, 1 => flagV im.permits.sideA.held
  | 0x2307, 1 => flagV im.permits.sideB.held
  | 0x2313, 1 => some im.safetyDigest
  | 0x2400, 1 => some (bitsToNat (im.inp.tis.toList.map DIn.rawState))
  | 0x2400, 2 => some (bitsToNat (im.inp.tis.toList.map (·.img)))
  | 0x2404, n => if 1 ≤ n && n ≤ 16 then enc 16 ((im.inp.tis.toList.map (·.volts)).getD (n - 1) 0) else none
  | 0x2500, 1 => some im.shownWord
  | 0x2500, 2 => some im.shownRaw
  | 0x2500, 3 => some im.activeWord
  | 0x2500, 4 => some (im.ev.scopes.get modScope).shown.latched
  | 0x2509, n => (subDoor n).map im.doorEvents
  | 0x250E, 1 => some im.reactionDigest
  | 0x260A, 5 => some (im.canPort .x7).pending
  | 0x260B, 5 => some (im.canPort .x8).pending
  | 0x2702, 1 => some im.rcd.fifo.length
  | 0x2801, 3 => some im.net.upd.load.length
  | 0x2804, 2 => some (match (im.auth p).challenge with | some c => ofLe c.1 | none => 0)
  | 0x2804, 4 => some (im.auth p).state
  | 0x2804, 5 => some (min 65535 (im.authLeft (im.auth p)))
  | 0x2809, 2 => flagV im.net.upd.windowAt.isSome
  | 0x2809, 4 => some im.blocking
  | 0x280A, 4 => some (match im.net.upd.imports with | some i => i.2.length | none => 0)
  | 0x2900, 7 => some im.net.x7.shown
  | 0x2901, 7 => some im.net.x8.shown
  | 0x2900, 0x15 => some (Config.busLoad 7 c.frame).toNat
  | 0x2901, 0x15 => some (Config.busLoad 8 c.frame).toNat
  | 0x2904, 1 => some (im.net.x7.pending + 256 * im.net.x8.pending)
  | 0x2904, 3 => some (Config.lateReleases c.frame).toNat
  | 0x2909, 4 => some im.net.bb.tcp.length
  | idx, 0x42 => if 0x270A ≤ idx && idx ≤ 0x2711 then some (im.snapshotLength (idx - 0x2709)) else none
  | _, _ => none

/-- The computed value of a native object, as far as the image gives it. -/
def Image.view (im : Image) (p : Path) (idx sub : Nat) : Option Nat :=
  match nativePlace idx with
  | .door d off => if h : d < 12 then im.doorView ⟨d, h⟩ off sub else none
  | .chan c off => if h : c < 192 then im.chanView ⟨c, h⟩ off sub else none
  | .axis a off => if h : a < 36 then im.axisView ⟨a, h⟩ off sub else none
  | .module i => im.moduleView p i sub
  | _ => none

/-- A numeric object, by its computed value or its register. -/
def Image.num (im : Image) (p : Path) (idx sub : Nat) : Nat := (im.view p idx sub).getD (im.reg idx sub)

/-! ## What the lanes, the Seam and the stores give -/

/-- The Buckle status (R352), bit 0 first. -/
def State.buckleStatus (s : State) : Nat :=
  let k := s.buckle
  bitsToNat [s.activeLane == some .b, k.granted == some .a, k.granted == some .b, k.agree, k.strobe.a, k.strobe.b,
    k.qualified.a, k.qualified.b, k.monitor, s.img.commit.handover, k.window.isSome]

/-- The lane that serves an access. -/
def State.server (s : State) : Lane := (s.activeLane).getD ((s.liningLane).getD .a)

/-- IM7 (R97); `stale`: the words do not follow the state; `rereads`: 0x2310:02. -/
def State.mirror7 (s : State) (im : Image) (stale : Bool) : Nat :=
  let k := s.buckle
  wrap 8 (im.reg 0x2310 2) +
    2 ^ 8 * bitsToNat [stale, k.agree, s.seam.up .two, s.seam.up .one, im.commit.singleLane, s.qualified,
      k.granted == some .b, k.granted == some .a, s.lining, im.reg 0x2FF0 1 == 1] +
    2 ^ 18 * wrap 2 im.belt.level + 2 ^ 24 * wrap 8 k.epoch

/-- A word of the Mirror as it stands (R97). -/
def State.mirrorValue (s : State) (im : Image) (n : Nat) : Nat :=
  if n = 7 then s.mirror7 im (s.granted).isNone else im.mirrorWord (16 * s.img.now + s.img.clk.stitch) n

/-- A word as the capture of a transaction finds it (R91, R96): IM0, IM1 and IM7 live, the counters of time as they run,
the other fields as the last commit in effect has them. -/
def State.mirrorLive (s : State) (n : Nat) : Nat :=
  if n < 2 || n = 7 || (8 ≤ n && n < 12) then s.mirrorValue s.img n else s.mirrorValue s.committed n

/-- The bytes of a stored set, in ascending order (0x2003:01). -/
def storedBytes (m : RegFile) : Bytes := (m.map (fun e => le 4 e.1 ++ le 8 e.2)).flatten

/-- The objects of one lane's lockstep checking and starts (R388). -/
def State.laneView (s : State) (l : Lane) (idx sub : Nat) : Option Nat :=
  let x := s.lanes.get l
  let op := s.img.clk.opMs
  if idx = lockstepObj l then
    (if sub = 7 then some (min 65535 ((op - x.injLast) / 1000)) else none)
  else if idx = startObj l then
    match sub with
    | 0x0B => some x.st.code
    | 0x0C => some x.phase
    | 0x0D => some (min 255 (x.faults.filter (fun t => decide (op < t + 3600000))).length)
    | _ => none
  else none

/-- The objects of a lane's record store (R429). -/
def Store.view (x : Store) (im : Image) (floor : Nat) (idx sub : Nat) : Option Nat :=
  match idx, sub with
  | 0x2700, 1 => some (x.shown im)
  | 0x2700, 3 => some x.written
  | 0x2700, 4 => some (x.oldest floor)
  | 0x2700, 5 => some (x.held.filter (fun q => decide (floor ≤ q))).length
  | 0x2700, 6 => some x.queue.length
  | 0x2700, 7 => some x.peak
  | 0x2701, 1 => some x.ring
  | 0x2701, 2 => some x.spares
  | 0x2701, 3 => some x.badSlots
  | 0x2701, 4 => some x.retired
  | 0x2701, 5 => some x.progFails
  | 0x2701, 6 => some x.eraseFails
  | 0x2701, 7 => some x.rereads
  | 0x2701, 8 => some x.unreadable
  | 0x2701, 9 => some x.lost
  | 0x2701, 0x0A => some x.mount
  | 0x2712, 5 => some (x.toErase floor)
  | _, _ => none

/-- A leapfrog of the loaded image is allowed by its state format (R564). -/
def Image.leapfrogFormat (im : Image) (run : Nat) : Bool :=
  let v := im.reg 0x2802 2
  let f := v / 2 ^ 32 % 2 ^ 16
  let fMin := v / 2 ^ 16 % 2 ^ 16
  f == run || (decide (fMin ≤ run) && decide (run < f))

/-- The slot a lane runs, and its other one (R561). -/
def State.runningSlot (s : State) (l : Lane) : Nat := s.img.reg (startObj l) 2
def State.slotState (s : State) (l : Lane) (n : Nat) : Nat := s.img.reg (startObj l) (2 + n)
def State.idleSlot (s : State) (l : Lane) : Nat := if s.runningSlot l = 2 then 1 else 2
def LaneState.slot (x : LaneState) (n : Nat) : Slot := if n = 2 then x.slot2 else x.slot1

/-- Version, F, F_min, F_back of a header (R559). -/
def headerVersion (h : Bytes) : Nat := ofLe ((h.drop 8).take 4)
def headerF (h : Bytes) : Nat := ofLe ((h.drop 12).take 2)
def headerFmin (h : Bytes) : Nat := ofLe ((h.drop 14).take 2)
def headerFback (h : Bytes) : Nat := ofLe ((h.drop 16).take 2)

/-- A leapfrog is allowed for the loaded image (R564). -/
def State.mayLeapfrog (s : State) : Bool :=
  (s.img.reg 0x2800 2 == 3 || s.img.reg 0x2800 2 == 6) && s.img.leapfrogFormat (s.lanes.get s.server).format

/-- The header of a lane's previous confirmed slot. -/
def State.previous (s : State) (l : Lane) : Option Bytes :=
  let n := s.idleSlot l
  if s.slotState l n = 2 then ((s.lanes.get l).slot n).header else none

/-- Command 4 is allowed (R565). -/
def State.mayRollback (s : State) : Bool :=
  match s.previous .a, s.previous .b with
  | some a, some b =>
    let l := s.server
    let run := ((s.lanes.get l).slot (s.runningSlot l)).header
    let back := match run with | some h => headerFback h | none => (s.lanes.get l).format
    let p := headerF a
    headerVersion a == headerVersion b && decide (back ≤ p) && decide (p ≤ (s.lanes.get l).format) && s.qualified
  | _, _ => false

/-- The computed values that are not the image's. -/
def State.hardView (s : State) (im : Image) (idx sub : Nat) : Option Nat :=
  match idx, sub with
  | 0x1002, 0 => some (s.mirrorValue im 7)
  | 0x2001, 1 => some s.lanes.a.version
  | 0x2001, 2 => some s.lanes.b.version
  | 0x2001, 3 => some (s.lanes.get s.server).format
  | 0x2003, 1 => some (crc32c (storedBytes s.nor.a))
  | 0x2003, 2 => some (crc32c (storedBytes s.nor.b))
  | 0x2200, 1 => some (match s.granted with | some l => l.code | none => 0)
  | 0x2200, 2 => some s.seam.standby
  | 0x2200, 3 => some s.epoch
  | 0x2200, 6 => flagV im.commit.singleLane
  | 0x2201, 2 => some s.buckleStatus
  | 0x2202, 1 => some s.seam.link1
  | 0x2202, 2 => some s.seam.link2
  | 0x2202, 5 => some s.flying
  | 0x2203, 1 => some (wrap 64 s.committed.clk.frame)
  | 0x2203, 6 => some im.commit.pending.length
  | 0x2204, 1 => some s.seam.sections
  | 0x2204, 6 => flagV (match s.activeLane with | some l => (s.lanes.get l.other).current | none => false)
  | 0x2206, 1 => some s.hold.st
  | 0x2311, n => if 1 ≤ n && n ≤ 16 then some (s.mirrorValue im (n - 1)) else none
  | 0x2712, 2 => if im.reg 0x2712 2 = 3 && !s.clearBusy then some 1 else none
  | 0x2713, 1 => some (s.stores.a.held.getLast?.getD 0)
  | 0x2713, 2 => some (s.stores.b.held.getLast?.getD 0)
  | 0x2713, 3 => some s.stores.a.absent
  | 0x2713, 4 => some s.stores.b.absent
  | 0x2803, 1 => flagV s.mayLeapfrog
  | 0x2803, 2 => flagV s.mayRollback
  | idx, sub =>
    if 0x2207 ≤ idx && idx ≤ 0x220A then
      (match s.laneView .a idx sub with | some v => some v | none => s.laneView .b idx sub)
    else if 0x2601 ≤ idx && idx ≤ 0x2607 && (sub = 1 || sub = 3 || sub = 4) then
      let rows := (im.ledger s.flying).getD (idx - 0x2601) []
      some (if sub = 1 then rows.length
        else if sub = 3 then wrap 48 (rows.foldl (fun n r => n + r.left) 0)
        else wrap 48 (rows.foldl (fun n r => n + r.sum) 0))
    else (s.stores.get s.server).view im s.committed.rcd.floor idx sub

/-- A numeric object of the native dictionary as a path reads it, over an image. -/
def State.num (s : State) (im : Image) (p : Path) (idx sub : Nat) : Nat :=
  match s.hardView im idx sub with
  | some v => v
  | none => im.num p idx sub

/-! ## Strings and DOMAINs -/

/-- ASCII text. -/
def textBytes (t : String) : Bytes := t.toList.map (·.toNat)

/-- A version as text, DESIGN CHOICE: its fields in decimal, with dots between. -/
def versionText (v : Nat) : Bytes :=
  textBytes ((Nat.repr (v / 2 ^ 24)) ++ "." ++ (Nat.repr (v / 2 ^ 16 % 256)) ++ "." ++ (Nat.repr (v % 2 ^ 16)))
def revisionText (v : Nat) : Bytes := textBytes ((Nat.repr (v / 256)) ++ "." ++ (Nat.repr (v % 256)))

/-- A staged entry as its 8 bytes (R46). -/
def StagedEntry.bytes (e : StagedEntry) : Bytes := le 4 e.value ++ [0, e.sub] ++ le 2 e.idx

/-- The sub-indices of a row of an object block that hold a persisted RWL value of at most 32 bits, with the exception
of the leaf axes' opening direction, which is read only. -/
def exportSubs (rows : List ObjRow) (off : Nat) (skip : Nat → Bool) : List Nat :=
  ((rows.filter (fun r => r.off == off && r.acc = .rwl && r.per = .yes && r.ty != .domain)).map
    (fun r => (List.range (r.hi + 1 - r.lo)).map (fun i => r.lo + i))).flatten.filter (fun s => !skip s)

/-- The export of a doorway (R571): its persisted RWL sub-entries, its bank's channels' and its axes', in ascending
order, sign-extended as R46 says. -/
def Image.exportEntries (im : Image) (d : Door) : List StagedEntry :=
  let entry := fun (idx sub : Nat) =>
    let r := (nativeRow idx sub).getD ⟨0, 0, 0, .u8, .ro, 0, [], .no, false⟩
    (⟨idx, sub, encInt 32 (r.ty.value (im.reg idx sub))⟩ : StagedEntry)
  ((List.range 0x18).map (fun off => (exportSubs doorRows off (fun _ => false)).map (fun s => entry (bBase d.val + off) s))).flatten ++
  ((allFin 16).map (fun n => ((List.range 4).map (fun off =>
    (exportSubs chanRows off (fun _ => false)).map (fun s => entry (cBase (chanOf d n).val + off) s))).flatten)).flatten ++
  ((allFin 3).map (fun k => ((List.range 8).map (fun off =>
    (exportSubs axisRows off (fun s => off = 0 && s = 5 && k != 2)).map
      (fun s => entry (aBase (axisOf d k).val + off) s))).flatten)).flatten

/-- The bytes of a string or DOMAIN object, but for the cursors' reads. -/
def State.blob (s : State) (im : Image) (idx sub : Nat) : Bytes :=
  match idx, sub with
  | 0x1008, 0 => textBytes "Zimutan ZD12"
  | 0x1009, 0 => revisionText (im.reg 0x2000 3)
  | 0x100A, 0 => versionText (s.lanes.get s.server).version
  | 0x1021, 0 => Config.storedEds (im.reg 0x2FF0 1 == 1)
  | 0x2000, 1 => textBytes "ZD12-0100"
  | 0x2206, 4 => le 24 s.hold.atStart
  | 0x2209, 8 => (match s.lanes.a.result with | some r => padTo 14 (r.durations.map (le 2)).flatten | none => zeros 14)
  | 0x220A, 8 => (match s.lanes.b.result with | some r => padTo 14 (r.durations.map (le 2)).flatten | none => zeros 14)
  | 0x260F, 0 => if im.breach.isEmpty then zeros 672 else im.breach
  | 0x280A, 2 =>
    match subDoor (im.reg 0x280A 1) with
    | some d => ((im.exportEntries d).map StagedEntry.bytes).flatten
    | none => []
  | idx, sub =>
    match nativePlace idx with
    | .axis a 7 =>
      if h : a < 36 then
        (if sub = 1 then (im.axis ⟨a, h⟩).opening.bytes else if sub = 2 then (im.axis ⟨a, h⟩).closing.bytes else [])
      else []
    | _ => []

/-- The value of a native sub-entry as bytes, over an image. -/
def State.readBytes (s : State) (im : Image) (p : Path) (idx sub : Nat) : Bytes :=
  match nativeRow idx sub with
  | some r => if isReserved idx then [0]
    else if r.ty = .str || r.ty = .domain then s.blob im idx sub else le r.ty.bytes (s.num im p idx sub)
  | none => []

end Sys2Proof.Machine
end

