-- ==== Sys2Proof/Machine/Operands.lean ====
section
/-! DEFINITION. The checks of a dictionary access in the order of R510, the access codes of R8, the value and state
rules of the objects, and what a refusal leaves. -/

namespace Sys2Proof.Machine

/-! ## Abort codes (R8, R510) -/

def abIndex : Nat := 0x06020000
def abSub : Nat := 0x06090011
def abReadOnly : Nat := 0x06010002
def abWriteOnly : Nat := 0x06010001
def abPath : Nat := 0x06010000
def abAuth : Nat := 0x08000020
def abLength : Nat := 0x06070010
def abValue : Nat := 0x06090030
def abMappable : Nat := 0x06040041
def abMapLength : Nat := 0x06040042
def abState : Nat := 0x08000022
def abStorage : Nat := 0x06060000
def abTimeout : Nat := 0x05040000
def abCommand : Nat := 0x05040001
def abToggle : Nat := 0x05030000

/-- What a check says: 0 or an abort code, whether EV21 is raised with it, and the result an object shows. -/
structure Verdict where
  code : Nat
  ev21 : Bool
  result : Option (Nat × Nat × Nat)
deriving DecidableEq, Repr

def Verdict.ok : Verdict := ⟨0, false, none⟩
def deny (code : Nat) : Verdict := ⟨code, false, none⟩
def denyWith (code idx sub v : Nat) : Verdict := ⟨code, false, some (idx, sub, v)⟩

/-- The first of two checks that fails. -/
def Verdict.and (a b : Verdict) : Verdict := if a.code = 0 then b else a

/-! ## Which dictionary a path sees -/

/-- X7 sees the legacy dictionary in Overlay mode (R510, R536). -/
def Image.legacy (im : Image) (p : Path) : Bool :=
  im.overlay && (match p with | .sdo1 | .sdo2 | .rpdo _ => true | _ => false)

/-- An access is of the legacy dictionary. A PDO may also hold native objects, those it is delivered with among them
(R523, DEDUCED): an index the legacy dictionary does not have names the native object there. -/
def Image.legacyAt (im : Image) (p : Path) (idx : Nat) : Bool :=
  im.legacy p && idx != 0x2FF0 && !(match p with | .rpdo _ => legacyPlace idx == .absent | _ => false)

/-- The row of a sub-entry as a path sees it. -/
def Image.rowFor (im : Image) (p : Path) (idx sub : Nat) : Option ObjRow :=
  if im.legacyAt p idx then
    (match legacyPlace idx with
     | .absent => none
     | pl => subRow (placeRows true pl) sub)
  else nativeRow idx sub

/-- An index is present for a path. -/
def Image.indexFor (im : Image) (p : Path) (idx : Nat) : Bool :=
  if im.legacyAt p idx then legacyPlace idx != .absent else nativePlace idx != .absent

/-- What Lining mode keeps of the dictionary (R378). -/
def liningIndex (idx : Nat) : Bool :=
  [0x1000, 0x1001, 0x1008, 0x1009, 0x100A, 0x1017, 0x1018, 0x1200, 0x2FF0].contains idx ||
    (0x2000 ≤ idx && idx < 0x2100) || (0x2200 ≤ idx && idx ≤ 0x220B) || (0x2700 ≤ idx && idx ≤ 0x2717) ||
    (0x2800 ≤ idx && idx ≤ 0x280B)

/-- What X7 keeps in Lining mode with Overlay mode in force (R546). -/
def liningLegacy (idx : Nat) : Bool :=
  [0x1000, 0x1001, 0x1017, 0x1018, 0x2000, 0x2001, 0x2FF0].contains idx

/-- Check 1 (R510). -/
def State.indexOk (s : State) (p : Path) (idx : Nat) : Bool :=
  s.img.indexFor p idx && (!s.lining || (if s.img.legacy p then liningLegacy idx else liningIndex idx))

/-- The access code of a sub-entry: the table's, but for the subs it gives apart. -/
def subAccess (idx sub : Nat) (r : ObjRow) : Access :=
  match nativePlace idx with
  | .axis a 0 => if sub = 5 && a % 3 ≠ 2 then .ro else r.acc
  | .module 0x1010 => if sub = 2 then .rw else r.acc
  | .module 0x1003 => if sub = 0 then .rw else .ro
  | _ => r.acc

/-- Lining mode makes the recorder's area and 0x2FF0 read only, but for the cursors (R378). -/
def liningReadOnly (idx sub : Nat) : Bool :=
  idx == 0x2FF0 || (0x2700 ≤ idx && idx ≤ 0x2717 && !(0x2705 ≤ idx && idx ≤ 0x2708 && sub ≤ 4))

/-- A key write that R569 accepts without authorisation: no key, or the seal latch was set and is not cleared. -/
def Image.keyOpen (im : Image) : Bool := im.net.upd.key.isNone || (im.reg 0x210D 4 == 1 && im.belt.sealLatch)

/-! ## Value rules (check 6) -/

/-- The CAN protocol of a port is FD. -/
def Image.isFd (im : Image) (q : Port) : Bool := im.bootReg q.obj 1 == 2

/-- The ports a PDO is exchanged on (0x2902); `sub` 1: RPDO, 2: TPDO. -/
def Image.pdoPort (im : Image) (sub n : Nat) (q : Port) : Bool :=
  bitOf (im.reg 0x2902 sub) (2 * n + (match q with | .x7 => 0 | .x8 => 1))

/-- A PDO may be long: none of its ports is classical. -/
def Image.pdoLong (im : Image) (sub n : Nat) : Bool :=
  (im.pdoPort sub n .x7 || im.pdoPort sub n .x8) &&
    [Port.x7, .x8].all (fun q => !im.pdoPort sub n q || im.isFd q)

/-- A mapping entry names an object that may be mapped, at its length (R516); a reserved index never is (R514). -/
def Image.mappable (im : Image) (p : Path) (rpdo : Bool) (entry : Nat) : Bool :=
  let idx := entry / 0x10000
  let sub := entry / 0x100 % 0x100
  match im.rowFor p idx sub with
  | none => false
  | some r => r.ty.bits == entry % 0x100 && r.ty.bits != 0 && im.indexFor p idx && (im.legacyAt p idx || !isReserved idx) &&
      (if rpdo then r.map else subAccess idx sub r = .ro)

/-- Bits of the first `k` entries of a mapping. -/
def Image.mapBits (im : Image) (idx k : Nat) : Nat :=
  (List.range k).foldl (fun n i => n + im.reg idx (i + 1) % 0x100) 0

/-- The rules of a PDO object (R468, R516, R519). -/
def Image.pdoRule (im : Image) (p : Path) (base n idx sub raw : Nat) : Nat :=
  let rpdo := base = 0x1400 || base = 0x1600
  if base = 0x1400 || base = 0x1800 then
    (if sub = 2 && 241 ≤ raw && raw ≤ 253 then abValue else 0)
  else if sub = 0 then
    let long := im.pdoLong (if rpdo then 1 else 2) n
    (if 64 < raw || (if long then 512 else 64) < im.mapBits idx raw then abMapLength else 0)
  else if im.mappable p rpdo raw then 0 else abMappable

/-- A snapshot list after a write of `raw` to `sub` (R400): its bytes, and whether its entries are allowed. -/
def Image.snapshotRule (im : Image) (idx sub raw : Nat) : Bool :=
  let after := im.setReg idx sub raw
  let n := idx - 0x2709
  let e := raw
  (sub = 0x41 || (match nativeRow (e / 0x10000) (e / 0x100 % 0x100) with
    | some r => r.ty != .domain
    | none => false)) && decide (after.snapshotLength n ≤ 256)

/-- Rules that relate several registers of an item and must hold after every write: R60, R158 and R115, R220. -/
def Image.rolesOk (im : Image) (d : Door) : Bool :=
  let roles := (allFin 16).map (fun n => im.dreg d 8 (n.val + 1))
  let held := fun (n : Fin 16) => let r := im.dreg d 8 (n.val + 1); decide (1 ≤ r ∧ r ≤ 3)
  ((allFin 16).all (fun n => !held n || (im.creg (chanOf d n) 0 3 == 0 && im.creg (chanOf d n) 0 2 == 0))) &&
    [1, 2, 3].all (fun r => decide (roles.count r ≤ 1))

def Image.axisOk (im : Image) (a : Axis) : Bool :=
  decide (im.areg a 1 5 ≤ im.areg a 1 1) && decide (im.areg a 1 6 + im.areg a 1 7 ≤ im.areg a 6 1) &&
    decide (im.asreg a 6 4 ≤ 0) && decide (im.asreg a 6 1 ≤ im.asreg a 6 5)

/-- The relations that concern the item an index belongs to. -/
def Image.relations (im : Image) (idx : Nat) : Bool :=
  match nativePlace idx with
  | .door d off =>
    if h : d < 12 then
      (if off = 8 then im.rolesOk ⟨d, h⟩ else if off = 5 then decide (im.dsreg ⟨d, h⟩ 5 5 < im.dsreg ⟨d, h⟩ 5 6) else true)
    else true
  | .chan c 0 => if h : c < 192 then im.rolesOk (chanDoor ⟨c, h⟩) else true
  | .axis a off => if h : a < 36 then (if off = 1 || off = 6 then im.axisOk ⟨a, h⟩ else true) else true
  | .module 0x2107 => decide (im.reg 0x2107 5 < im.reg 0x2107 4) && decide (im.reg 0x2107 6 < im.reg 0x2107 5)
  | _ => true

/-- The rules stated for one object's value. -/
def Image.objectRule (im : Image) (p : Path) (idx sub raw : Nat) : Nat :=
  let bad := fun (b : Bool) => if b then abValue else 0
  match nativePlace idx with
  | .pdo base n => im.pdoRule p base n idx sub raw
  | .door _ 9 => bad ((decide (2 ≤ sub ∧ sub ≤ 12) && raw == 1) || sub == 0x0D && (bitOf raw 0 || decide (2 ^ 12 ≤ raw)))
  | .axis a 6 => if h : a < 36 then bad (sub == 5 && decide (im.asreg ⟨a, h⟩ 6 1 + 20000 < decInt 32 raw)) else 0
  | .module i =>
    if i = 0x1003 then bad (raw != 0)
    else if i = 0x1006 then bad (raw != 0 && !(decide (1000 ≤ raw) && decide (raw ≤ 1000000)))
    else if i = 0x1007 then bad (raw != 0 && !(decide (100 ≤ raw) && decide (raw ≤ 1000000)))
    else if i = 0x1010 then (if raw = 0x65766173 then 0 else abAuth)
    else if i = 0x1011 then (if raw = 0x64616F6C then 0 else abAuth)
    else if i = 0x1012 then bad (bitOf raw 30)
    else if i = 0x1017 then bad (raw != 0 && decide (raw < 10))
    else if i = 0x1019 then bad (raw == 1 || decide (240 < raw))
    else if 0x270A ≤ i && i ≤ 0x2711 then bad (!im.snapshotRule i sub raw)
    else if i = 0x2402 then bad (decide (32 ≤ raw))
    else if i = 0x2501 then bad (raw &&& safetyWord != 0)
    else if i = 0x2502 then
      let n := sub - 1
      bad (decide (8 ≤ raw) || (decide (2 ≤ (evRow n).cls.code) && !(bitOf raw 0 && bitOf raw 1)) || (n == 24 && bitOf raw 0))
    else 0
  | _ => 0

/-- A staged entry as it is written (R46). -/
def stagedOf (w : Nat) : StagedEntry := ⟨w / 2 ^ 48, w / 2 ^ 40 % 256, w % 2 ^ 32⟩

/-- The doorway an RWL sub-entry belongs to, if it is one. -/
def rwlDoor (idx sub : Nat) : Option Nat :=
  match nativeRow idx sub with
  | some r => if subAccess idx sub r = .rwl then ownerDoor idx else none
  | none => none

/-- The entries of an import (R571). -/
def entriesOf (bs : Bytes) : List StagedEntry := (chunks 8 (bs.length / 8) bs).map (fun e => stagedOf (ofLe e))

/-- Check 6: the Range column, and the rules stated for the object. -/
def State.valueRule (s : State) (p : Path) (idx sub : Nat) (r : ObjRow) (data : Bytes) : Nat :=
  let im := s.img
  let raw := ofLe data
  if r.ty = .domain then
    (match nativePlace idx with
     | .axis _ 7 => if data.length = 512 || data.isEmpty then 0 else abValue
     | .module 0x280A =>
       if 8192 < data.length || data.length % 8 ≠ 0 || (chunks 8 (data.length / 8) data).any (fun e => e.getD 4 0 % 256 ≠ 0) then abValue
       else if (entriesOf data).all (fun e => rwlDoor e.idx e.sub == (subDoor (im.reg 0x280A 1)).map (·.val)) then 0 else abSub
     | .module 0x2801 => if inRange r data.length && im.reg 0x2801 1 == im.net.upd.load.length then 0 else abValue
     | _ => if inRange r data.length then 0 else abValue)
  else if !inRange r raw then abValue
  else
    match nativePlace idx with
    | .door d 0x15 =>
      if sub = 2 then
        let e := stagedOf raw
        if rwlDoor e.idx e.sub != some d then abSub else if raw / 2 ^ 32 % 256 ≠ 0 then abValue else 0
      else 0
    | _ =>
      match im.objectRule p idx sub raw with
      | 0 => if (im.setReg idx sub raw).relations idx then 0 else abValue
      | c => c

/-! ## State rules (check 7) -/

/-- A doorway is Locked or Isolated (RWL, R8). -/
def Image.mayConfigure (im : Image) (d : Nat) : Bool :=
  if h : d < 12 then (im.door ⟨d, h⟩).st = .locked || (im.door ⟨d, h⟩).st = .isolated else false

/-- The state rules of a doorway's objects. -/
def Image.doorState (im : Image) (d : Door) (off sub raw : Nat) : Verdict :=
  let w := im.door d
  let res := fun (c : Nat) => denyWith abState (bBase d.val + 2) 2 c
  match off, sub with
  | 0x11, 1 =>
    if raw = 3 then
      (if 2 ≤ im.dreg d 0x11 3 then res 7
       else if w.drain.isSome || w.st != .isolated then res 1 else .ok)
    else .ok
  | 0x12, 1 => if raw = 1 && (!im.fitted d || (w.st != .faultHeld && w.st != .isolated)) then res 1 else .ok
  | 0x12, 5 => if raw = 1 then (if w.st != .manual then res 1 else if !im.doorToken d then res 2 else .ok) else .ok
  | 0x14, 1 =>
    if raw = 1 && w.st != .locked && w.st != .released && w.st != .opened then res 1 else .ok
  | 0x15, 2 =>
    if 64 ≤ w.staged.length || (match im.net.upd.imports with | some i => i.1 == d.val | none => false) then deny abState
    else .ok
  | _, _ => .ok

/-- The state rules of an axis's objects (R5, R12, R135, R136, R144, R155). -/
def Image.axisState (im : Image) (a : Axis) (off sub raw : Nat) : Verdict :=
  let x := im.axis a
  let w := im.door (axisDoor a)
  let res := fun (c : Nat) => denyWith abState (aBase a.val + 2) 2 c
  match off, sub with
  | 2, 1 =>
    if !im.axisUsed a then res 4
    else match raw with
      | 1 => if x.drain.isSome then res 3 else .ok
      | 4 => if w.st.moving then res 1 else if x.guard.thermal then res 2 else .ok
      | _ => if w.st.axisMayStop then .ok else res 1
  | 2, 3 => if !im.axisUsed a then res 4 else if w.st != .manual then res 1 else .ok
  | 4, 9 | 4, 0x0A => if raw != 0 && !im.mayConfigure (axisDoor a).val then deny abState else .ok
  | 7, _ => if im.mayConfigure (axisDoor a).val then .ok else deny abState
  | _, _ => .ok

/-- The state rules of a channel's objects (R12, R252, R262, R266, R530). -/
def Image.chanRule (im : Image) (c : Chan) (off sub raw : Nat) : Verdict :=
  let x := im.chan c
  let res := fun (v : Nat) => denyWith abState (cBase c.val + 1) 3 v
  if off = 1 && im.chanForced c then deny abState
  else match off, sub with
  | 1, 1 => if im.chanRole c = 0 then .ok else res 3
  | 1, 2 =>
    match raw with
    | 1 => if im.chanDraining c then res 2 else .ok
    | 4 => if x.thDT || x.thTJ then res 4 else .ok
    | _ =>
      let r := im.chanRole c
      if 1 ≤ r && r ≤ 3 && !im.lockMayStop c then res 1 else .ok
  | _, _ => .ok

/-- The result an update command is refused with (R563 to R566); 0: accepted. The load commands need no leapfrog or
rollback under way. -/
def State.updateRefusal (s : State) (raw : Nat) : Option Nat :=
  let st := s.img.reg 0x2800 2
  let busy := st = 4 || st = 5
  match raw with
  | 1 => if busy || st = 1 then some (s.img.reg 0x2800 3) else none
  | 2 => if st = 2 then none else some (s.img.reg 0x2800 3)
  | 3 =>
    if s.lining || busy || st ≠ 3 && st ≠ 6 then some (s.img.reg 0x2800 3)
    else if !s.img.leapfrogFormat (s.lanes.get s.server).format then some 4
    else if !s.qualified then some 5
    else if s.img.net.upd.lone then some 7 else none
  | 4 =>
    if s.lining || busy then some (s.img.reg 0x2800 3)
    else if !s.qualified || !s.mayRollback then some 4 else none
  | 5 => if busy || st = 1 || st = 2 || st = 3 then none else some (s.img.reg 0x2800 3)
  | _ => if s.img.net.upd.windowAt.isSome && st = 3 && !s.lining then none else some (s.img.reg 0x2800 3)

/-- The state rules of the module's objects. -/
def State.moduleState (s : State) (p : Path) (i sub raw : Nat) : Verdict :=
  let im := s.img
  let no := fun (b : Bool) => if b then deny abState else Verdict.ok
  match i, sub with
  | 0x1010, _ => no im.net.upd.store.isSome
  | 0x1011, _ => no im.net.upd.store.isSome
  | 0x2006, 2 => no (!s.lining)
  | 0x2103, _ => no ((im.clk.source = 1 || im.clk.source = 2) && im.reg 0x2104 6 == 0)
  | 0x210C, 1 => no (raw == 1 && !im.mayRest)
  | 0x2201, 1 =>
    if im.net.upd.leap != .none then denyWith abState 0x2201 7 2 else no (!s.qualified)
  | 0x220B, 4 => no (let l := if raw = 2 then Lane.b else .a; (s.lanes.get l).st != .halted && (s.lanes.get l).st != .faultRate)
  | 0x230C, 3 => no ((im.loopReset (if raw = 2 then .b else .a)).isNone)
  | 0x250D, 1 => no (im.permits.sideA.held || im.permits.sideB.held)
  | 0x2712, 1 => if s.clearRefused raw then denyWith abState 0x2712 2 2 else .ok
  | 0x2800, 1 =>
    match s.updateRefusal raw with
    | some r => denyWith abState 0x2800 3 r
    | none => .ok
  | 0x2801, 2 => no (im.reg 0x2800 2 != 2)
  | 0x2804, 1 => no (raw == 1 && (im.auth p).lockedAt.isSome)
  | 0x2804, 3 => no (im.auth p).challenge.isNone
  | 0x2809, 1 => no (raw == 1 && (im.blocking != 0 || im.permits.sideA.held || im.permits.sideB.held))
  | 0x280A, 3 => no im.net.upd.imports.isSome
  | i, 8 =>
    if i = 0x2900 || i = 0x2901 then
      let x := im.canPort (portOf i)
      (if raw = 1 && x.drain.isSome then denyWith abState i 9 2
       else if x.st = .off then denyWith abState i 9 1 else .ok)
    else .ok
  | _, _ => .ok

/-- A PDO's mapping may change only while it is invalid and the node is pre-operational, entries only while the count
is 0 (R519). -/
def Image.pdoState (im : Image) (base n idx sub : Nat) : Verdict :=
  if base = 0x1600 || base = 0x1A00 then
    (if im.reg 0x2903 5 ≠ 127 || !bitOf (im.reg (base - 0x200 + n) 1) 31 || (sub ≠ 0 && im.reg idx 0 ≠ 0) then deny abState
     else .ok)
  else .ok

/-- Check 7. -/
def State.stateRule (s : State) (p : Path) (idx sub raw : Nat) : Verdict :=
  let im := s.img
  let forced := im.overlay && (overlayForced idx sub).isSome
  let locked := match rwlDoor idx sub with | some d => im.mayConfigure d | none => true
  if forced || !locked then deny abState
  else match nativePlace idx with
    | .door d off => if h : d < 12 then im.doorState ⟨d, h⟩ off sub raw else .ok
    | .chan c off => if h : c < 192 then im.chanRule ⟨c, h⟩ off sub raw else .ok
    | .axis a off => if h : a < 36 then im.axisState ⟨a, h⟩ off sub raw else .ok
    | .pdo base n => im.pdoState base n idx sub
    | .module i => s.moduleState p i sub raw
    | _ => .ok

/-! ## Writing on X7 (R538, R540, R541) -/

/-- The native sub and value a legacy write names. -/
def Image.legacyTarget (im : Image) (idx sub raw : Nat) : Option (Nat × Nat × Nat) :=
  match legacyPlace idx with
  | .legacyDoor d off =>
    let b := bBase d
    match off, sub with
    | 0, n => some (b, n, raw)
    | 2, 1 => some (b + 2, 1, raw)
    | 2, 3 => some (b + 0x11, 1, if raw = 1 then 1 else 3)
    | 3, 1 => some (b + 3, 1, raw)
    | 3, 2 => some (b + 3, 2, raw)
    | 3, 3 => some (b + 7, 1, raw)
    | 3, 4 => some (b + 3, 5, raw)
    | 3, 5 => some (b + 3, 9, raw)
    | 4, 1 => some (b + 4, 1, raw)
    | 4, 2 => some (b + 4, 2, raw * 100)
    | 4, 3 => some (b + 5, 5, raw)
    | 4, 4 => some (b + 5, 6, raw)
    | 4, 5 => some (b + 5, 3, raw)
    | _, _ => none
  | .legacyAxis a off =>
    let x := aBase a
    let pmsm := im.reg x 1 = 2
    match off, sub with
    | 0, 1 => if pmsm then some (x, 3, raw / 4) else some (x, 2, raw)
    | 0, 2 => some (x, 4, raw * 100)
    | 0, 3 => some (x, 7, raw)
    | 0, 4 => some (x + 5, 2, raw)
    | 1, 1 => some (x + 1, 1, raw * 1000)
    | 1, 2 => some (x + 1, 2, raw * 1000)
    | 1, 3 => some (x + 1, 3, raw * 1000)
    | 1, 4 => some (x + 1, 5, raw * 1000)
    | 1, 5 => some (x + 6, 1, raw * 100)
    | _, _ => none
  | .legacyBank d => if 1 ≤ sub && sub ≤ 12 then some (cBase (16 * d + sub - 1) + 1, 1, raw) else none
  | _ => none

/-- A legacy write that goes into the staged set while its doorway is neither Locked nor Isolated. -/
def legacyStages (idx : Nat) : Option Nat :=
  match legacyPlace idx with
  | .legacyDoor d off => if off = 3 || off = 4 then some d else none
  | .legacyAxis a off => if off = 0 || off = 1 then some (a / 3) else none
  | _ => none

/-- The value rule of the steps per revolution: of a PMSM a multiple of 4 from 4 to 64 (R541). -/
def Image.legacySteps (im : Image) (idx sub raw : Nat) : Bool :=
  match legacyPlace idx with
  | .legacyAxis a 0 =>
    sub != 1 || (if im.reg (aBase a) 1 = 2 then raw % 4 == 0 && decide (4 ≤ raw) && decide (raw ≤ 64) else decide (48 ≤ raw) && decide (raw ≤ 400))
  | _ => true

/-- The doorway whose staged set takes a legacy write now. -/
def Image.legacyStage (im : Image) (idx : Nat) : Option Door :=
  match legacyStages idx with
  | some d => if h : d < 12 then (if im.mayConfigure d then none else some ⟨d, h⟩) else none
  | none => none

/-- An import waits for a doorway (R571). -/
def Image.importFor (im : Image) (d : Door) : Bool :=
  match im.net.upd.imports with | some i => i.1 == d.val | none => false

/-- The rules of a legacy write of an object of 0x2000 on (R538 to R541): its native sub and value keep the native rules,
unless it goes into a staged set, whose own check comes at the lock (R47, R556). -/
def State.legacyRule (s : State) (idx sub raw : Nat) : Verdict :=
  if idx = 0x2004 || idx = 0x2007 then .ok
  else match s.img.legacyTarget idx sub raw with
  | none => deny abSub
  | some (ni, ns, v) =>
    if !s.img.legacySteps idx sub raw then deny abValue
    else match s.img.legacyStage idx with
    | some d => if 64 ≤ (s.img.door d).staged.length || s.img.importFor d then deny abState else .ok
    | none =>
      match nativeRow ni ns with
      | none => deny abSub
      | some r =>
        let data := le r.ty.bytes (wrap r.ty.bits v)
        match s.valueRule .x9 ni ns r data with
        | 0 => s.stateRule .x9 ni ns (ofLe data)
        | c => deny c

/-! ## The whole check -/

/-- Check 3 of a write: direction, and what the path serves. -/
def State.pathRule (s : State) (p : Path) (idx sub : Nat) (r : ObjRow) : Nat :=
  if subAccess idx sub r = .ro || (s.lining && liningReadOnly idx sub) then
    (match nativePlace idx with | .door _ 3 => if sub = 7 || sub = 8 then abSub else abReadOnly | _ => abReadOnly)
  else if idx = 0x2807 && sub = 1 && p != .x9 then abPath
  else if isGateway p && s.img.reg 0x2909 1 == 0 then abPath
  else 0

/-- Check 4 (R8, R498, R569, R577). -/
def State.authRule (s : State) (p : Path) (idx sub : Nat) (r : ObjRow) : Bool :=
  let im := s.img
  let acc := subAccess idx sub r
  let free := (idx == 0x2804 && (sub == 1 || sub == 3)) || (idx == 0x2807 && sub == 1 && im.keyOpen)
  let needs := acc = .rwa || isGateway p || (idx == 0x2801 && sub == 2) || (idx == 0x2807 && sub == 1)
  let closed := acc = .rwa && im.net.upd.key.isNone && !(idx == 0x2807 && sub == 1)
  free || (!needs || (im.authorised p && !closed))

/-- The checks of a write (R510), of the native dictionary or of the legacy one, whose rows carry their own ranges. -/
def State.checkWrite (s : State) (p : Path) (idx sub : Nat) (data : Bytes) : Verdict :=
  if !s.indexOk p idx then deny abIndex
  else match s.img.rowFor p idx sub with
    | none => deny abSub
    | some r =>
      let native := !s.img.legacyAt p idx || idx < 0x2000
      match s.pathRule p idx sub r with
      | 0 =>
        if !s.authRule p idx sub r then ⟨abAuth, true, none⟩
        else if !lengthOk r data.length then deny abLength
        else if native then
          (match s.valueRule p idx sub r data with
           | 0 => s.stateRule p idx sub (ofLe data)
           | c => deny c)
        else if inRange r (ofLe data) then s.legacyRule idx sub (ofLe data) else deny abValue
      | c => deny c

/-- The checks of a read. -/
def State.checkRead (s : State) (p : Path) (idx sub : Nat) : Nat :=
  if !s.indexOk p idx then abIndex
  else match s.img.rowFor p idx sub with
    | none => abSub
    | some r =>
      if r.acc = .wo then abWriteOnly
      else if isGateway p && s.img.reg 0x2909 1 == 0 then abPath
      else 0

/-- An authorisation failure is counted and reported (R8, R567). -/
def Image.authFailed (im : Image) (p : Path) (cause : Nat) : Image :=
  ((im.bump 0x280B 2).setReg 0x280B 3 p.code).occur 21 modScope ⟨p.code, cause, 0⟩

/-- The SDO server of a path. -/
def serverOf : Path → Option (Fin 2)
  | .sdo1 => some 0
  | .sdo2 => some 1
  | _ => none

def Image.onServer (im : Image) (k : Fin 2) (f : SdoServer → SdoServer) : Image :=
  im.onCo (fun c => { c with servers := upd c.servers k f })

/-- The response COB-ID of a server (R467, 0x1200, 0x1201). -/
def Image.sdoCob (im : Image) (k : Fin 2) : Nat := if k = 0 then wrap 11 (im.reg 0x1200 2) else wrap 11 (im.reg 0x1201 2)

/-- A response frame of a server on its client's port (R458); `data`: eight bytes by the layout of CiA 301. -/
def Image.sdoFrame (im : Image) (k : Fin 2) (data : Bytes) : Image :=
  match (im.net.co.servers.get k).port with
  | none => im
  | some q => im.resubmit q (if k = 0 then 2 else 3) ⟨im.sdoCob k, data, none, if k = 0 then .sdo1 else .sdo2⟩

/-- The object a server's transfer concerns. -/
def SdoTransfer.target : SdoTransfer → Nat × Nat
  | .idle => (0, 0)
  | .download idx sub _ _ _ _ => (idx, sub)
  | .upload idx sub _ _ => (idx, sub)
  | .blockUpload idx sub _ _ _ _ _ => (idx, sub)
  | .owed idx sub => (idx, sub)

/-- The end of a download, or an abort, as it leaves a server that is at work on that object; the server is free
again. -/
def Image.sdoAnswer (im : Image) (p : Path) (idx sub code : Nat) : Image :=
  match serverOf p with
  | none => im
  | some k =>
    let v := im.net.co.servers.get k
    let spec := v.spec
    let frame := if code = 0 then padTo 8 (spec :: (if spec = 0x60 then le 2 idx ++ [sub] else []))
      else 0x80 :: (le 2 idx ++ [sub] ++ le 4 code)
    if v.job.target = (idx, sub) then (im.sdoFrame k frame).onServer k (fun v => { v with job := .idle, port := none }) else im

/-- The tag of a frame the module sends on the backbone (R489): the VLAN ID and the priority of its class, whose sub of
0x2906 is 7 for process data and 8 for message data. -/
def Image.vlanTag (im : Image) (cls : Nat) : Option (Nat × Nat) :=
  if im.bootReg 0x2906 6 = 0 then none else some (im.bootReg 0x2906 6, im.bootReg 0x2906 cls)

/-- The VLAN ID of every frame the module sends on the backbone (R489); the service port tags nothing. -/
def Image.vlanId (im : Image) (service : Bool) : Option Nat :=
  if service || im.bootReg 0x2906 6 == 0 then none else some (im.bootReg 0x2906 6)

/-- The message-data reply of the gateway (R497); the service port tags nothing. -/
def Image.gatewayReply (im : Image) (p : Path) (code : Nat) (data : Bytes) : Image :=
  let bytes := be 4 code ++ be 4 data.length ++ data
  match p with
  | .gateway _ => im.send (.message p (im.reg 0x2909 3) (im.vlanTag 8) bytes)
  | .x9 => im.send (.message p (im.reg 0x2909 3) none bytes)
  | _ => im

/-- The answer to an access; PDOs and telegrams have none. -/
def Image.reply (im : Image) (p : Path) (idx sub code : Nat) (data : Bytes) : Image :=
  match p with
  | .rpdo _ | .trdp => im
  | _ => ((im.answer p idx sub code data).gatewayReply p code data).sdoAnswer p idx sub code

/-- A refused write: nothing changes but the results and the event that go with the refusal; the answer is immediate
(R510, R512). -/
def Image.refuse (im : Image) (p : Path) (idx sub : Nat) (v : Verdict) : Image :=
  let im := if v.ev21 then im.authFailed p 2 else im
  let im := match v.result with | some r => im.setReg r.1 r.2.1 r.2.2 | none => im
  im.reply p idx sub v.code []

end Sys2Proof.Machine
end

