-- ==== Sys2Proof/Machine/Commands.lean ====
section
/-! DEFINITION. What an accepted write does: the plain change of a value with its record (R393), and the commands of the
doorways, the axes and the channels. -/

namespace Sys2Proof.Machine

/-! ## Plain changes -/

/-- A register change that is recorded where its value is persisted or RWA (R393). -/
def Image.putBy (im : Image) (source : Nat) (auth : Bool) (idx sub v : Nat) : Image :=
  let old := im.reg idx sub
  let im := im.setReg idx sub v
  let new := im.reg idx sub
  let per := regPersist idx sub
  let rwa := match nativeRow idx sub with | some r => subAccess idx sub r = .rwa | none => false
  if old = new then im
  else if per != .no || rwa then im.change source auth idx sub (wrap 32 old) (wrap 32 new) else im

/-- A value written on a path. -/
def Image.put (im : Image) (p : Path) (idx sub v : Nat) : Image := im.putBy p.source (im.authorised p) idx sub v

/-- An RWA write keeps its authorisation open (R567). -/
def Image.touchAuth (im : Image) (p : Path) : Image :=
  { im with net := { im.net with upd := { im.net.upd with
    auth := im.net.upd.auth.map (fun x => if x.path == p then { x with lastRwa := im.now } else x) } } }

/-! ## Doorways -/

/-- The leaf count of a doorway is in force, changed from that of `old` (R15, R45). -/
def Image.leafCountSet (im old : Image) (d : Door) : Image :=
  if im.leafCount d = 0 then
    let im := if (im.door d).st = .isolated then im else im.enter d .isolated
    (im.setDreg d 0x11 2 2).setDreg d 0x11 3 3
  else if old.leafCount d = 0 then
    (im.setDreg d 0x11 2 (if im.dreg d 0x11 2 = 0 then 2 else im.dreg d 0x11 2)).setDreg d 0x11 3
      (if im.roleTrue d 8 then 2 else 1)
  else im

/-- The registers of a set have been reloaded from those of `old` (R466, R521): leaf counts, motor types and open ends that
have changed do what a write of them does. -/
def Image.reloaded (im old : Image) : Image :=
  let im := im.eachAxis (fun im a => im.motorSet old a)
  im.eachDoor (fun im d => if im.leafCount d = old.leafCount d then im else im.leafCountSet old d)

/-- An isolation command (R9 to R12, R42, R45). -/
def Image.isolationCommand (im : Image) (d : Door) (raw : Nat) : Image :=
  match raw with
  | 1 => (im.result d 0).startDrain d .network
  | 2 => (im.result d 0).forceIsolate d .network
  | _ => (im.result d 0).wish d .serve

/-- A doorway command of B+0x02:01 (R17, R36, R618). -/
def Image.doorCommand (im : Image) (d : Door) (raw : Nat) : Image :=
  match raw with
  | 1 => im.openRequest d .network (im.openTimedOut d)
  | 2 => (im.result d (closeResult (im.door d).st)).closeRequest d .network
  | 3 => im.resetDoor d
  | 4 => im.emergencyReset d (bitOf (im.dreg d 0x0C 2) 0)
  | _ => im

/-- Teach commands (R152, R154): 1 start, 2 abort. -/
def Image.teachCommand (im : Image) (d : Door) (raw : Nat) : Image :=
  if raw = 1 then
    let im := (im.onDoor d (fun w => { w with teach := ⟨true, im.now, 0, 0⟩ })).setDreg d 0x14 2 1
    im.eachMover d (fun im a => im.onAxis a (fun x => { x with teach := [] }))
  else im.endTeach d 2

/-- A staged entry is held (R46, R47). -/
def Image.stage (im : Image) (d : Door) (e : StagedEntry) : Image :=
  (im.onDoor d (fun w => { w with staged := w.staged ++ [e] })).setDreg d 0x15 4 1

def Image.dropImport (im : Image) (d : Door) : Image :=
  if im.importFor d then { im with net := { im.net with upd := { im.net.upd with imports := none } } } else im

/-- The staged action (R48): 0 apply, 1 discard; an import is handled exactly as a staged set (R571). -/
def Image.stagedAction (im : Image) (d : Door) (raw : Nat) : Image :=
  if raw = 1 then
    ((im.dropImport d).onDoor d (fun w => { w with staged := [], applyDue := false })).setDreg d 0x15 4 0
  else if im.mayConfigure d.val && (!(im.door d).staged.isEmpty || im.importFor d) then
    im.onDoor d (fun w => { w with applyDue := true })
  else im

/-- What a write of a doorway object does. -/
def Image.doorWrite (im : Image) (p : Path) (d : Door) (off sub raw : Nat) : Image :=
  match off, sub with
  | 0x00, 2 => (im.put p (bBase d.val) 2 raw).leafCountSet im d
  | 0x02, 1 => im.doorCommand d raw
  | 0x05, 5 | 0x05, 6 | 0x05, 9 => (im.put p (bBase d.val + off) sub raw).checkDrift d
  | 0x10, 2 => doorLatched.foldl (fun im n => im.release n (doorScope d)) im
  | 0x11, 1 => im.isolationCommand d raw
  | 0x12, 1 => im.wish d (if raw = 1 then .enterManual else .leaveManual)
  | 0x12, 2 => if (im.door d).st = .manual then im.jog d (decInt 8 raw) else im.setDreg d 0x12 2 raw
  | 0x12, 4 => (allFin 3).foldl (fun (x : Image) k => x.limitsChanged im (axisOf d k)) (im.put p (bBase d.val + off) sub raw)
  | 0x12, 5 => if (im.door d).st = .manual then im.manualUnlock d (raw == 1) else im
  | 0x14, 1 => im.teachCommand d raw
  | 0x15, 2 => im.stage d (stagedOf raw)
  | 0x15, 3 => im.stagedAction d raw
  | off, sub => im.put p (bBase d.val + off) sub raw

/-! ## Axes -/

/-- A limit in force of an axis changes with one of its values (R115, R122). -/
def Image.limitWrite (im : Image) (p : Path) (a : Axis) (sub raw : Nat) : Image :=
  (im.put p (aBase a.val + 1) sub raw).limitsChanged im a

/-- Clear the over-current latch of an axis (R132): its retries return. -/
def Image.clearAxisLatch (im : Image) (a : Axis) : Image :=
  (im.onAxis a (fun x => { x with guard := { x.guard with latched := false, retryDue := none, reacquire := none, retryBehind := false } })).setAreg
    a 5 9 (im.areg a 5 7)

/-- An axis command of A+2:01: 1 enable, 2 disable, 3 disable forced, 4 clear over-current latch. -/
def Image.axisCommand (im : Image) (a : Axis) (raw : Nat) : Image :=
  let im := im.setAreg a 2 2 0
  match raw with
  | 1 => im.axisEnableCmd a
  | 2 => im.axisDisableCmd a
  | 3 => im.axisForce a
  | 4 => im.clearAxisLatch a
  | _ => im

/-- The effective mass and the viscous coefficient of a mover (R155): a non-zero value gives EV54, result 7. -/
def Image.fitWrite (im : Image) (p : Path) (a : Axis) (sub raw : Nat) : Image :=
  let d := axisDoor a
  let im := im.put p (aBase a.val + 4) sub raw
  if raw = 0 then im else (im.setDreg d 0x14 4 7).occur 54 (doorScope d) ⟨a.val + 1, 7, 0⟩

/-- A whole sheet written (R155): a configuration change with the CRC-32C of its content before and after (R398). -/
def Image.sheetWritten (im : Image) (p : Path) (a : Axis) (opening : Bool) (bs : Bytes) : Image :=
  let crc := fun (im : Image) => crc32c (if opening then (im.axis a).opening.bytes else (im.axis a).closing.bytes)
  let old := crc im
  let im := im.writeSheet a opening bs
  im.change p.source (im.authorised p) (aBase a.val + 7) (if opening then 1 else 2) old (crc im)

/-- What a write of an axis object does. -/
def Image.axisWrite (im : Image) (p : Path) (a : Axis) (off sub : Nat) (data : Bytes) : Image :=
  let raw := ofLe data
  match off, sub with
  | 0, 1 | 6, 1 =>
    (im.put p (aBase a.val + off) sub raw).motorSet im a
  | 1, _ => im.limitWrite p a sub raw
  | 2, 1 => im.axisCommand a raw
  | 2, 3 => (im.setAreg a 2 2 0).setAreg a 2 3 raw
  | 4, 9 | 4, 0x0A => im.fitWrite p a sub raw
  | 7, 1 => im.sheetWritten p a true data
  | 7, 2 => im.sheetWritten p a false data
  | off, sub => im.put p (aBase a.val + off) sub raw

/-! ## Channels -/

/-- A channel control of C+1:02: 1 enable, 2 disable, 3 disable forced, 4 clear over-current latch. -/
def Image.chanCommand (im : Image) (c : Chan) (raw : Nat) : Image :=
  let im := im.setCreg c 1 3 0
  match raw with
  | 1 => im.enableChan c
  | 2 => im.drainChan c
  | 3 => im.forceChan c
  | 4 => im.clearChanLatch c
  | _ => im

/-- What a write of a channel object does. -/
def Image.chanWrite (im : Image) (p : Path) (c : Chan) (off sub raw : Nat) : Image :=
  match off, sub with
  | 1, 1 => (im.setCreg c 1 3 0).setCreg c 1 1 raw
  | 1, 2 => im.chanCommand c raw
  | off, sub => im.put p (cBase c.val + off) sub raw

/-! ## Staged sets and imports (R46 to R48, R571) -/

/-- The value of an entry at the width of its register; `none` where it does not fit. -/
def StagedEntry.raw (e : StagedEntry) : Option Nat :=
  match nativeRow e.idx e.sub with
  | none => none
  | some r =>
    let v := wrap r.ty.bits e.value
    let back := if r.ty.signed then encInt 32 (decInt r.ty.bits v) else v
    if back = e.value then some v else none

/-- One entry passes its range check, by itself. -/
def Image.entryOk (im : Image) (e : StagedEntry) : Bool :=
  match nativeRow e.idx e.sub, e.raw with
  | some r, some v => inRange r v && im.objectRule .x9 e.idx e.sub v == 0
  | _, _ => false

/-- The first entry that fails: alone, or by a relation once every entry is in place. -/
def Image.firstBad (im : Image) (es : List StagedEntry) : Option StagedEntry :=
  match es.find? (fun e => !im.entryOk e) with
  | some e => some e
  | none =>
    let after := es.foldl (fun (im : Image) e => im.setReg e.idx e.sub (e.raw.getD 0)) im
    es.find? (fun e => !after.relations e.idx)

/-- Apply one entry as source 5; the changes R151 names untaught the mover, a leaf count follows R45. -/
def Image.applyEntry (im : Image) (e : StagedEntry) : Image :=
  let v := e.raw.getD 0
  let im' := im.putBy 5 false e.idx e.sub v
  match nativePlace e.idx with
  | .axis a off =>
    if h : a < 36 then
      (if (off = 0 || off = 6) && e.sub = 1 then im'.motorSet im ⟨a, h⟩
       else if off = 1 then
         im'.limitsChanged im ⟨a, h⟩
       else im')
    else im'
  | .door d off =>
    if h : d < 12 then
      (if off = 0 && e.sub = 2 then im'.leafCountSet im ⟨d, h⟩
       else if off = 5 then im'.checkDrift ⟨d, h⟩ else im')
    else im'
  | _ => im'

/-- A set is checked and applied, all entries or none (R47). -/
def Image.applySet (im : Image) (d : Door) (es : List StagedEntry) : Image :=
  match im.firstBad es with
  | some e => (im.setDreg d 0x15 4 3).setDreg d 0x15 5 (e.idx * 0x10000 + e.sub * 0x100)
  | none => (es.foldl Image.applyEntry im).setDreg d 0x15 4 2

/-- Section D of a frame: the staged set or the import of a doorway is taken on entry into Locked or Isolated, or on the
apply command (R47, R48, R571). -/
def Image.takeStaged (im : Image) (d : Door) : Image :=
  let w := im.door d
  if !w.applyDue then im
  else
    let im := im.onDoor d (fun w => { w with applyDue := false })
    match im.net.upd.imports with
    | some i =>
      if i.1 = d.val then ((im.dropImport d).onDoor d (fun w => { w with staged := [] })).applySet d i.2
      else if w.staged.isEmpty then im
      else (im.onDoor d (fun w => { w with staged := [] })).applySet d w.staged
    | none => if w.staged.isEmpty then im else (im.onDoor d (fun w => { w with staged := [] })).applySet d w.staged

/-- An import for the selected doorway replaces its staged set, and waits as a staged set would (R571). -/
def Image.startImport (im : Image) (data : Bytes) : Image :=
  match subDoor (im.reg 0x280A 1) with
  | none => im
  | some d =>
    let im := { im with net := { im.net with upd := { im.net.upd with imports := some (d.val, entriesOf data) } } }
    (im.onDoor d (fun w => { w with staged := [], applyDue := false })).setDreg d 0x15 4 1

end Sys2Proof.Machine
end

