-- ==== Sys2Proof/Machine/CanOps.lean ====
section
/-! DEFINITION. The CAN ports (R446 to R464, R477): rate detection, reception, bus-off and quarantine, the solitary
state, the ends of requests, taking a port out of service. -/

namespace Sys2Proof.Machine

/-! ## Rates (R451 to R454) -/

/-- Nominal rates by the code of P:03, kbit/s; data rates by the code of P:04. -/
def nominalRate (code : Nat) : Nat := [125, 250, 500, 1000].getD code 500
def dataRate (code : Nat) : Nat := [2000, 4000, 5000, 8000].getD code 4000

/-- A list without the repeats of an earlier element. -/
def firstOf : List Nat → List Nat
  | [] => []
  | x :: xs => x :: (firstOf xs).filter (fun y => y != x)

/-- The candidates in order. -/
def Image.nominalOrder (im : Image) (q : Port) : List Nat :=
  if im.preg q 2 = 1 then [nominalRate (im.preg q 3)] else firstOf [im.preg q 0x11, 500, 250, 125, 1000]
def Image.dataOrder (im : Image) (q : Port) : List Nat :=
  if im.preg q 2 = 1 then [dataRate (im.preg q 4)] else firstOf [im.preg q 0x12, 2000, 4000, 5000, 8000]

/-- The candidate under trial. -/
def candidate (xs : List Nat) (n : Nat) : Nat := xs.getD (n % max 1 xs.length) 0
def Image.nominalTry (im : Image) (q : Port) : Nat := candidate (im.nominalOrder q) (im.canPort q).nomTry
def Image.dataTry (im : Image) (q : Port) : Nat := candidate (im.dataOrder q) (im.canPort q).dataTry

/-- The error counters of a port as the commands show them (P:0A, P:0B; ISO 11898-1, PRESUMED: a frame sent takes one from
the transmit counter, a frame received one from the receive counter, or sets it to 127 from above, an error seen while
receiving adds one); with both below 128 an error-passive port is error-active again. -/
def Image.setErrors (im : Image) (q : Port) (tx rx : Nat) : Image :=
  let im := (im.setPreg q 0x0A (min 255 tx)).setPreg q 0x0B (min 255 rx)
  if (im.canPort q).st = .passive && tx < 128 && rx < 128 then
    im.onPort q (fun x => { x with st := .active, activeSince := some im.now })
  else im

/-- A frame was sent, a frame was received, an error was seen. -/
def Image.errorsSent (im : Image) (q : Port) : Image := im.setErrors q (im.preg q 0x0A - 1) (im.preg q 0x0B)
def Image.errorsGood (im : Image) (q : Port) : Image := im.setErrors q (im.preg q 0x0A) (min 127 (im.preg q 0x0B - 1))
def Image.errorsBad (im : Image) (q : Port) : Image := im.setErrors q (im.preg q 0x0A) (im.preg q 0x0B + 1)

/-- The next candidate is taken; after the last the order starts again (R452, R453). -/
def Image.dropNominal (im : Image) (q : Port) : Image := im.onPort q (fun x => { x with nomTry := x.nomTry + 1, nomRun := 0 })
def Image.dropData (im : Image) (q : Port) : Image := im.onPort q (fun x => { x with dataTry := x.dataTry + 1, dataRun := 0 })

/-- The boot-up (R465, R474): once per port, at the accepted rate, before its first heartbeat. -/
def Image.bootUp (im : Image) (q : Port) : Image :=
  if (im.canPort q).bootDue && im.configured && im.nmt != 0 && im.maySubmit q 0 none then
    (im.submit q 0 ⟨0x700 + im.nodeId, [0], none, .bootup⟩).onPort q (fun x => { x with bootDue := false })
  else im

/-- A nominal rate is accepted (R452, R454): kept in FRAM; the port is error-active, and its boot-up goes out. -/
def Image.acceptNominal (im : Image) (q : Port) (rate : Nat) : Image :=
  let im := (im.setPreg q 5 rate).setPreg q 0x11 rate
  (im.onPort q (fun x => { x with st := .active, activeSince := some im.now })).bootUp q

/-- The data rate is accepted (R453). -/
def Image.acceptData (im : Image) (q : Port) (rate : Nat) : Image := (im.setPreg q 6 rate).setPreg q 0x12 rate

/-- FD is in force on a port. -/
def Image.fdPort (im : Image) (q : Port) : Bool := im.bootReg (q.obj) 1 == 2

/-- A frame without error advances the counts: 8 accept a candidate; a frame with BRS counts for the data rate. -/
def Image.goodFrame (im : Image) (q : Port) (brs : Bool) : Image :=
  let x := im.canPort q
  let im := if x.st = .detecting then
      (if 8 ≤ x.nomRun + 1 then im.acceptNominal q (im.nominalTry q)
       else im.onPort q (fun x => { x with nomRun := x.nomRun + 1 }))
    else im
  if brs && im.fdPort q && im.preg q 6 = 0 then
    (if 8 ≤ x.dataRun + 1 then im.acceptData q (im.dataTry q)
     else im.onPort q (fun x => { x with dataRun := x.dataRun + 1 }))
  else im

/-- A protocol error on the bus: it drops the candidate of its phase (R452, R453). -/
def Image.badFrame (im : Image) (q : Port) (dataPhase : Bool) : Image :=
  let x := im.canPort q
  let im := im.bumpP q 0x10
  let im := if x.transmits then im.errorsBad q else im
  if dataPhase then (if im.preg q 6 = 0 && im.fdPort q then im.dropData q else im)
  else if x.st = .detecting then im.dropNominal q else im

/-! ## Reception (R446, R463) -/

/-- Identifiers a service uses: NMT, SYNC, TIME, the servers' requests, RPDOs, monitored heartbeats, LSS. -/
def Image.usedId (im : Image) (id : Nat) : Bool :=
  let cob := fun (i s : Nat) => !bitOf (im.reg i s) 31 && wrap 11 (im.reg i s) == id
  id == 0 || id == 0x7E5 || id == wrap 11 (im.reg 0x1005 0) || (bitOf (im.reg 0x1012 0) 31 && wrap 11 (im.reg 0x1012 0) == id) ||
    (im.configured && id == 0x600 + im.nodeId) || cob 0x1201 1 ||
    (allFin 32).any (fun n => cob (0x1400 + n.val) 1) ||
    (allFin 16).any (fun k => im.reg 0x1016 (k.val + 1) != 0 && id == 0x700 + im.reg 0x1016 (k.val + 1) / 0x10000 % 0x80)

/-- The port listens: it is in use. -/
def CanPort.listens (x : CanPort) : Bool := x.enabled && x.st != .busOff

/-- A frame enters the FIFO of 64, or is dropped and counted; the first drop of an episode sends EMCY 0x8110. -/
def Image.enterFifo (im : Image) (q : Port) (f : CanFrame) : Image :=
  let x := im.canPort q
  if x.rx.length < 64 then im.onPort q (fun x => { x with rx := x.rx ++ [(f, im.nowUs)] })
  else
    let im := (im.bumpP q 0x0E).onPort q (fun x => { x with overflowing := true })
    if x.overflowing then im else im.emit (ciaEmcy 0x8110 q)

/-- A complete frame: FD frames are passed over by a classical port; remote and extended frames and identifiers no
service uses go no further. -/
def Image.takeFrame (im : Image) (q : Port) (f : CanFrame) : Image :=
  if f.fd && !im.fdPort q then im
  else
    let detecting := (im.canPort q).st = .detecting
    let im := if (im.canPort q).transmits then im.errorsGood q else im
    let im := (im.bumpP q 0x0F).goodFrame q (f.fd && f.brs)
    if f.remote then im.bumpP q 0x14
    else if f.extended || !im.usedId f.id || detecting then im
    else im.enterFifo q f

/-- What a port sees on its bus. -/
def Image.receive (im : Image) (q : Port) (x : CanRx) : Image :=
  if !(im.canPort q).listens then im
  else match x with
    | .frame f => im.takeFrame q f
    | .nominalError => im.badFrame q false
    | .dataError => im.badFrame q true

/-- A heartbeat of a monitored node (R474): EV30 clears. -/
def Image.heartbeatSeen (im : Image) (node : Nat) : Image :=
  (allFin 16).foldl (fun (im : Image) (k : Fin 16) =>
    let e := im.reg 0x1016 (k.val + 1)
    if e / 0x10000 % 0x80 = node && e % 0x10000 ≠ 0 then
      let was := bitOf im.net.co.hbLost k.val
      let im := im.onCo (fun c => { c with
        hbSeen := c.hbSeen.set k (some im.now), hbLost := setBit c.hbLost k.val false })
      if was then im.clearItem 30 modScope ⟨node, 0, 0⟩ (im.net.co.hbLost != 0) else im
    else im) im

/-- Section N drains the FIFO (R463). A monitored heartbeat is taken here; every other service has its own command. -/
def Image.drainFifo (im : Image) (q : Port) : Image :=
  let fs := (im.canPort q).rx
  let im := im.onPort q (fun x => { x with rx := [], overflowing := false })
  fs.foldl (fun (im : Image) f => if 0x700 < f.1.id && f.1.id < 0x780 then im.heartbeatSeen (f.1.id - 0x700) else im) im

/-! ## Errors, bus-off, quarantine (R455 to R457) -/

/-- The event of a port's bus-off. -/
def busOffEvent : Port → Nat
  | .x7 => 27
  | .x8 => 28

/-- Entry to error passive. -/
def Image.errorPassive (im : Image) (q : Port) : Image :=
  if (im.canPort q).st = .active then
    let im := im.onPort q (fun x => { x with st := .passive, activeSince := none })
    let im := if im.preg q 0x0B < 128 then im.setPreg q 0x0A (max 128 (im.preg q 0x0A)) else im
    im.emit (ciaEmcy 0x8120 q)
  else im

/-- Every request of a port in quarantine ends as aborted; its producers submit them again afterwards, a beacon excepted. -/
def Image.quarantine (im : Image) (q : Port) : Image :=
  let boxes := (im.canPort q).boxes
  let again := if (im.canPort q).drain.isSome then [] else
    (allFin 32).filterMap (fun k => match boxes.get k with
      | some r => if r.by_ = .beacon then none else some (k, r)
      | none => none)
  let im := (im.endAll q .aborted).bumpP q 0x0D
  im.onPort q (fun x => { x with st := .quarantine, owed := again, quarantined := im.now, busOffs := [], solitary := false })

/-- Entry to bus-off: the event, its count, and the quarantine at the eighth within 60 s. -/
def Image.busOff (im : Image) (q : Port) : Image :=
  if !(im.canPort q).transmits then im
  else
    let recent := ((im.canPort q).busOffs.filter (fun f => decide (im.now < f + 60000))) ++ [im.now]
    let im := (im.bumpP q 0x0C).onPort q (fun x => { x with st := .busOff, busOffs := recent, activeSince := none })
    let im := im.setPreg q 0x0A 255
    let src : Source := ⟨q.code, if 8 ≤ recent.length then 2 else 1, 0⟩
    let im := if 8 ≤ recent.length then im.raiseAgain (busOffEvent q) modScope src else im.raise (busOffEvent q) modScope src
    if 8 ≤ recent.length then im.quarantine q else im

/-- Recovery from bus-off: error-active again, EMCY 0x8140; pending requests compete again (R456). -/
def Image.busOffOver (im : Image) (q : Port) : Image :=
  if (im.canPort q).st = .busOff then
    ((im.onPort q (fun x => { x with st := .active, activeSince := some im.now })).setPreg q 0x0A 0 |>.setPreg q 0x0B 0).emit (ciaEmcy 0x8140 q)
  else im

/-- The quarantine ends after 10 s, and what it aborted is submitted again. -/
def Image.quarantineOver (im : Image) (q : Port) : Image :=
  let x := im.canPort q
  if x.st = .quarantine && decide (x.quarantined + 10000 ≤ im.now) then
    let im := ((im.onPort q (fun x => { x with st := .active, activeSince := some im.now, busOffs := [], owed := [] })).setPreg q 0x0A 0).setPreg q 0x0B 0
    x.owed.foldl (fun (im : Image) p =>
      im.submit q p.1 (if p.2.by_ = .heartbeat then { p.2 with data := [im.nmt] } else p.2)) im
  else im

/-- EV27 or EV28 clears after 1 s error-active without interruption. -/
def Image.busOffClear (im : Image) (q : Port) : Image :=
  match (im.canPort q).activeSince with
  | some f =>
    if f + 1000 ≤ im.now && (im.canPort q).st = .active then im.clearEv (busOffEvent q) modScope ⟨q.code, 0, 0⟩ else im
  | none => im

/-! ## Ends of requests (R461 to R464) -/

/-- Some port is solitary. -/
def Image.anySolitary (im : Image) : Bool := im.net.x7.solitary || im.net.x8.solitary

/-- The solitary state begins (R464). -/
def Image.enterSolitary (im : Image) (q : Port) : Image :=
  if (im.canPort q).solitary then im
  else ((im.onPort q (fun x => { x with solitary := true, lastBeacon := im.now })).bumpP q 0x13).raise 29 modScope ⟨q.code, 0, 0⟩

/-- The solitary state ends. -/
def Image.leaveSolitary (im : Image) (q : Port) : Image :=
  if (im.canPort q).solitary then
    let im := im.onPort q (fun x => { x with solitary := false })
    im.clearItem 29 modScope ⟨q.code, 0, 0⟩ im.anySolitary
  else im

/-- A request whose frame was acknowledged ends as sent; a beacon's ends the solitary state. -/
def Image.frameSent (im : Image) (q : Port) (k : Fin 32) : Image :=
  if !im.contends q k then im
  else
    let beacon : Bool := match (im.canPort q).boxes.get k with | some r => decide (r.by_ = .beacon) | none => false
    let im := (im.endRequest q k .sent).errorsSent q
    if beacon then im.leaveSolitary q else im

/-- 16 attempts in a row without acknowledgement, or a beacon's one, end the request as aborted. They are the bound of a drain:
requests the solitary port holds back are cancelled with it (R10, R480). -/
def Image.notAcked (im : Image) (q : Port) (k : Fin 32) : Image :=
  if im.contends q k then
    let im := (im.endRequest q k .aborted).enterSolitary q
    if (im.canPort q).drain.isSome then im.endAll q .cancelled else im
  else im

/-- A cancel (R462): before arbitration is won the request ends as cancelled; after it the cancel is late, and the
request ends as sent if that attempt is acknowledged, else as cancelled. -/
def Image.cancel (im : Image) (q : Port) (k : Fin 32) (won acked : Bool) : Image :=
  if ((im.canPort q).boxes.get k).isNone then im
  else if won && im.contends q k then
    let im := im.bump 0x2904 2
    if acked then im.frameSent q k else im.endRequest q k .cancelled
  else im.endRequest q k .cancelled

/-- The beacon of a solitary port (R464): the heartbeat's content in mailbox 0, every 100 ms; it takes the place of a
heartbeat that is still pending there. -/
def Image.beacon (im : Image) (q : Port) : Image :=
  let x := im.canPort q
  let late : Bool := match x.boxes.get 0 with | some r => decide (r.by_ = .heartbeat) | none => false
  let im := if x.solitary && decide (x.lastBeacon + 100 ≤ im.now) && late then im.endRequest q 0 .cancelled else im
  if x.solitary && decide (x.lastBeacon + 100 ≤ im.now) && im.configured && im.maySubmit q 0 none then
    ((im.submit q 0 ⟨0x700 + im.nodeId, [im.nmt], none, .beacon⟩).onPort q (fun x => { x with lastBeacon := im.now })).bump 0x2904 4
  else im

/-! ## Out of service (R477, R480, R481) -/

/-- The mailbox whose request is next in arbitration: the lowest identifier, the lower mailbox where equal (R459). -/
def Image.nextBox (im : Image) (q : Port) : Option (Fin 32) :=
  (allFin 32).foldl (fun best k =>
    if !im.contends q k then best
    else match best with
      | none => some k
      | some b =>
        match (im.canPort q).boxes.get b, (im.canPort q).boxes.get k with
        | some x, some y => if y.id < x.id then some k else best
        | _, _ => best) none

/-- A drain begins: no new request is accepted, transfers bound to the port are aborted with a final request. A frame that
has won arbitration completes, and every other mailbox is cancelled (R10, R477). Whether the next frame has won at that moment
is the bus's timing: a free value. -/
def Image.drainPort (im : Image) (q : Port) (abort : Image → Fin 2 → Image) : Image :=
  let keep := if Config.arbitrationWon im.nowUs q.code then im.nextBox q else none
  let im := (allFin 32).foldl (fun (im : Image) k => if keep == some k then im else im.endRequest q k .cancelled) im
  let im := (allFin 2).foldl (fun (im : Image) k => if (im.net.co.servers.get k).port == some q then abort im k else im) im
  im.onPort q (fun x => { x with drain := some im.now, emcyQueue := [] })

/-- The port stops, TXD recessive: what is pending is cancelled. -/
def Image.portDisabled (im : Image) (q : Port) : Image :=
  let im := (im.endAll q .cancelled).leaveSolitary q
  let im := im.onPort q (fun x => { x with st := .disabled, drain := none, emcyQueue := [], rx := [], activeSince := none })
  let im := (((im.setPreg q 5 0).setPreg q 6 0).setPreg q 0x0A 0).setPreg q 0x0B 0
  (allFin 2).foldl (fun (im : Image) k =>
    if (im.net.co.servers.get k).port == some q then
      im.onCo (fun c => { c with servers := upd c.servers k (fun v => { v with job := .idle, port := none }) })
    else im) im

/-- Records that name the port have not been committed (R9): occurrences of its bus-off and solitary events. -/
def Image.portRecords (im : Image) (q : Port) : Bool :=
  let names := fun (ev item : Nat) => (ev == busOffEvent q || ev == 29) && item == q.code
  im.rcd.fifo.any (fun e => names e.ev e.src.item) ||
    im.commit.out.any (fun c => c.records.any (fun n => im.rcd.log.any (fun r =>
      r.seq == n && names r.trigger ((r.payload.drop 16).headD 0))))

/-- The drain is complete: no request is left, and the records that name the port are committed. -/
def Image.portDrained (im : Image) (q : Port) : Bool :=
  (im.canPort q).drain.isSome && (im.canPort q).pending == 0 && !im.portRecords q

/-- Enable: rate detection begins again, and the boot-up waits for it. -/
def Image.enablePort (im : Image) (q : Port) : Image :=
  if (im.canPort q).st = .disabled then
    let im := (im.setPreg q 5 0).setPreg q 6 0
    im.onPort q (fun x => { x with st := .detecting, nomTry := 0, nomRun := 0, dataTry := 0, dataRun := 0, bootDue := true })
  else im

end Sys2Proof.Machine
end

