-- ==== Sys2Proof/Machine/Sha.lean ====
section
/-! DEFINITION. SHA-256 and HMAC-SHA-256, which the manual names for the image digest, the key fingerprint and the
authorisation (R559, R567, R569) and does not describe: PRESUMED to be those of FIPS 180-4 and RFC 2104 (log entry 11). -/

namespace Sys2Proof

/-- No number from 2 to `k + 1` divides `n`, but `n` itself. -/
def undivided (n k : Nat) : Bool := (List.range k).all (fun i => n % (i + 2) != 0 || n == i + 2)

/-- The primes below 312: there are 64. -/
def shaPrimes : List Nat := (List.range 312).filter (fun n => decide (2 ≤ n) && undivided n 17)

/-- The largest `r + k` below `r + 2 ^ n` with `(r + k) ^ e ≤ x`, bit by bit. -/
def rootFrom (e x : Nat) : Nat → Nat → Nat
  | 0, r => r
  | n + 1, r => rootFrom e x n (if (r + 2 ^ n) ^ e ≤ x then r + 2 ^ n else r)

/-- The first 32 bits of the fractional part of the `e`-th root of a prime. -/
def rootBits (e p : Nat) : Nat := wrap 32 (rootFrom e (p * 2 ^ (32 * e)) 37 0)

/-- Rotations of a 32-bit word to the right, and one more term, combined bit by bit. -/
def sigma (x : Nat) (turns : List Nat) (rest : Nat) : Nat :=
  turns.foldl (fun acc n => acc ^^^ (x / 2 ^ n ||| wrap 32 (x * 2 ^ (32 - n)))) rest

/-- The working variables. -/
structure ShaVars where
  a : Nat
  b : Nat
  c : Nat
  d : Nat
  e : Nat
  f : Nat
  g : Nat
  h : Nat
deriving DecidableEq, Repr

/-- One round, with the round's constant. The window holds the next 16 words of the schedule. -/
def ShaVars.round (v : ShaVars) (window : List Nat) (k : Nat) : ShaVars :=
  let choice := (v.e &&& v.f) ||| (v.g &&& (0xFFFFFFFF ^^^ v.e))
  let most := (v.a &&& (v.b ||| v.c)) ||| (v.b &&& v.c)
  let t := k + window.headD 0 + v.h + choice + sigma v.e [25, 11, 6] 0
  { a := wrap 32 (t + most + sigma v.a [22, 13, 2] 0), b := v.a, c := v.b, d := v.c
    e := wrap 32 (v.d + t), f := v.e, g := v.f, h := v.g }

/-- The window moves on by one word. -/
def slideWindow (window : List Nat) : List Nat :=
  let at' := fun i => window.getD i 0
  let older := sigma (at' 1) [18, 7] (at' 1 / 8)
  let newer := sigma (at' 14) [19, 17] (at' 14 / 1024)
  window.drop 1 ++ [wrap 32 (at' 0 + at' 9 + older + newer)]

/-- All rounds over one block of 16 words. -/
def ShaVars.block (v : ShaVars) (words : List Nat) : ShaVars :=
  let r := (shaPrimes.foldl (fun (s : ShaVars × List Nat) p => (s.1.round s.2 (rootBits 3 p), slideWindow s.2)) (v, words)).1
  ⟨wrap 32 (v.a + r.a), wrap 32 (v.b + r.b), wrap 32 (v.c + r.c), wrap 32 (v.d + r.d),
    wrap 32 (v.e + r.e), wrap 32 (v.f + r.f), wrap 32 (v.g + r.g), wrap 32 (v.h + r.h)⟩

/-- The variables before the first block, from the first eight primes. -/
def ShaVars.first : ShaVars :=
  ⟨rootBits 2 2, rootBits 2 3, rootBits 2 5, rootBits 2 7, rootBits 2 11, rootBits 2 13, rootBits 2 17, rootBits 2 19⟩

/-- `n` big-endian words of 32 bits, from the front of a byte string. -/
def beWords : Nat → Bytes → List Nat
  | 0, _ => []
  | n + 1, bs => ofLe (bs.take 4).reverse :: beWords n (bs.drop 4)

/-- All blocks of a padded message. -/
def ShaVars.blocks (v : ShaVars) : Nat → Bytes → ShaVars
  | 0, _ => v
  | n + 1, bs => (v.block (beWords 16 bs)).blocks n (bs.drop 64)

/-- The message, a one bit, as many zeros as fill a block up to its last 8 bytes, and the length in bits. -/
def shaPad (bs : Bytes) : Bytes := bs ++ [0x80] ++ zeros ((119 - bs.length % 64) % 64) ++ be 8 (8 * bs.length)

/-- SHA-256. -/
def sha256 (bs : Bytes) : Bytes :=
  let m := shaPad bs
  let v := ShaVars.first.blocks (m.length / 64) m
  [v.a, v.b, v.c, v.d, v.e, v.f, v.g, v.h].flatMap (be 4)

/-- HMAC-SHA-256 of a key of at most 64 bytes. -/
def hmacSha256 (key msg : Bytes) : Bytes :=
  let k := padTo 64 key
  sha256 (k.map (· ^^^ 0x5C) ++ sha256 (k.map (· ^^^ 0x36) ++ msg))

end Sys2Proof
end

