-- ==== Sys2Proof/Machine/UpdateOps.lean ====
section
/-! DEFINITION. Authorisation, the maintenance key, loading and verifying an image, the service window (R559 to R571),
the store and restore of parameters (R520 to R522), as far as they act on the state image. -/

namespace Sys2Proof.Machine

def Image.onUpd (im : Image) (f : Update → Update) : Image := { im with net := { im.net with upd := f im.net.upd } }

/-! ## Authorisation (R567) -/

/-- Change the state of a path. -/
def Image.onAuth (im : Image) (p : Path) (f : AuthPath → AuthPath) : Image :=
  im.onUpd (fun u => { u with
    auth := u.auth.filter (fun x => x.path != p) ++ [f ((u.auth.find? (fun x => x.path == p)).getD (AuthPath.closed p))] })

/-- A challenge is issued: valid for 60 s and one response. -/
def Image.issueChallenge (im : Image) (p : Path) : Image :=
  let n := im.net.upd.issued
  (im.onUpd (fun u => { u with issued := n + 1 })).onAuth p (fun x => { x with
    challenge := some (be 8 (Config.challenge n).toNat, im.now) })

/-- The response a path's challenge asks for: 16 bytes. -/
def Image.expectedResponse (im : Image) (p : Path) : Option Bytes :=
  match im.net.upd.key, (im.auth p).challenge with
  | some k, some c => some ((hmacSha256 k (c.1 ++ le 4 (im.reg 0x2000 2) ++ [p.code])).take 16)
  | _, _ => none

/-- The authorisation of a path closes. -/
def Image.closeAuth (im : Image) (p : Path) : Image := im.onAuth p (fun x => { x with openedAt := none, challenge := none })

/-- A TCP connection ends: the authorisation opened over it closes, its requests and the answers owed over it are lost
(R498, R505). -/
def Image.tcpClose (im : Image) (p : Path) : Image :=
  if im.net.bb.tcp.contains p then
    let owed := fun (xs : List Answer) => xs.filter (fun a => !(a.tcp && a.path == p))
    let bb := im.net.bb
    let im := { im with
      net := { im.net with bb := { bb with tcp := bb.tcp.erase p, gw := bb.gw.filter (fun r => !(r.tcp && r.path == p)) } }
      commit := { im.commit with
        answers := owed im.commit.answers, out := im.commit.out.map (fun c => { c with answers := owed c.answers }) } }
    if (im.auth p).tcp && (im.auth p).openedAt.isSome then im.closeAuth p else im
  else im

/-- Every authorisation closes (R567, R569). -/
def Image.closeAllAuth (im : Image) : Image :=
  im.onUpd (fun u => { u with auth := u.auth.map (fun x => { x with openedAt := none, challenge := none }) })

/-- A response: a match opens the authorisation; a mismatch discards the challenge, raises EV21 and counts toward the
lockout. -/
def Image.answerChallenge (im : Image) (p : Path) (resp : Bytes) : Image × Nat :=
  if im.expectedResponse p == some resp then
    ((im.onAuth p (fun x => { x with challenge := none, openedAt := some im.now, lastRwa := im.now })).bump 0x280B 1, 0)
  else
    let im := im.authFailed p 1
    let recent := ((im.auth p).misses.filter (fun f => decide (im.now < f + 60000))) ++ [im.now]
    let lock := decide (im.reg 0x2805 3 ≤ recent.length)
    (im.onAuth p (fun x => { x with
      challenge := none, misses := if lock then [] else recent, lockedAt := if lock then some im.now else x.lockedAt }), abAuth)

/-- A challenge not answered within 60 s becomes invalid. -/
def Image.expireChallenge (im : Image) (p : Path) : Image :=
  match (im.auth p).challenge with
  | some c => if c.2 + 60000 ≤ im.now then im.onAuth p (fun x => { x with challenge := none }) else im
  | none => im

/-- No RWA write for the idle timeout, or the maximum duration. -/
def Image.expireAuth (im : Image) (p : Path) : Image :=
  match (im.auth p).openedAt with
  | some t =>
    if t + 1000 * im.reg 0x2805 2 ≤ im.now || (im.auth p).lastRwa + 1000 * im.reg 0x2805 1 ≤ im.now then im.closeAuth p else im
  | none => im

/-- The lockout ends. -/
def Image.endLockout (im : Image) (p : Path) : Image :=
  match (im.auth p).lockedAt with
  | some t => if t + 1000 * im.reg 0x2805 4 ≤ im.now then im.onAuth p (fun x => { x with lockedAt := none }) else im
  | none => im

/-- The maintenance key is changed (R569): its record carries 0 as old and new value, every authorisation closes. -/
def Image.setKey (im : Image) (p : Path) (key : Bytes) : Image :=
  let auth := im.authorised p
  let im := (im.onUpd (fun u => { u with key := some key })).closeAllAuth
  let im := ((im.setReg 0x2807 2 1).setReg 0x2807 3 (ofLe ((sha256 key).take 4))).bump 0x2807 4
  im.change p.source auth 0x2807 1 0 0

/-! ## Update-step records (R399) -/

/-- What an update step names: lane, slot, image (header and body), and the version before. -/
structure StepInfo where
  lane : Nat
  slot : Nat
  image : Bytes
  previous : Nat
deriving DecidableEq, Repr

/-- A step: its record, EV20, 0x2800:04 (R563, R577). -/
def Image.updateStep (im : Image) (step result : Nat) (x : StepInfo) : Image :=
  let digest := ((sha256 x.image).take 8)
  let p := [step, x.lane, x.slot, result] ++ le 4 (headerVersion x.image) ++ le 4 (headerF x.image) ++ le 4 x.previous ++ digest
  ((im.setReg 0x2800 4 step).occur 20 modScope ⟨x.lane, step, result⟩).draft ⟨3, 0x09, 0, 20, 0, p⟩

/-! ## Loading (R561, R562) -/

/-- The load is over: state and result. -/
def Image.updateDone (im : Image) (state result : Nat) : Image :=
  ((im.setReg 0x2800 2 state).setReg 0x2800 3 result)

/-- Command 1: both idle slots are being erased. -/
def Image.prepare (im : Image) : Image :=
  ((im.setReg 0x2800 2 1).onUpd (fun u => { u with
    load := [], lone := false, chunkSince := none, chunkPath := none, leap := .none })).setReg 0x2801 4 0

/-- The erase is complete: ready for loading. -/
def Image.prepareDone (im : Image) : Image :=
  if im.reg 0x2800 2 = 1 then im.setReg 0x2800 2 2 else im

/-- A chunk is written to NOR; its response waits for the standby's report while one is qualified. `lone`: no other lane
receives it. -/
def Image.loadChunk (im : Image) (p : Path) (data : Bytes) (wait lone : Bool) : Image :=
  im.onUpd (fun u => { u with
    load := u.load ++ data, lone := u.lone || lone, chunkSince := if wait then some im.now else none, chunkPath := if wait then some p else none })

/-- The verdict of R560 on the loaded image in a lane; `revoked`: the lane's revoked keys. The result codes of R568. -/
def verifyImage (load : Bytes) (revoked : Nat) : Nat :=
  let h := load.take 256
  let body := load.drop 256
  let len := ofLe ((h.drop 20).take 4)
  let k := (h.drop 18).headD 0
  if h.length < 256 || h.take 4 != [0x5A, 0x44, 0x49, 0x4D] || ofLe ((h.drop 4).take 2) != 1 ||
      ofLe ((h.drop 6).take 2) != 0x0D12 || 12 * 2 ^ 20 < 256 + len || body.length != len then 2
  else if (k != 1 && k != 2) || sha256 body != (h.drop 24).take 32 ||
      !Config.ecdsaValid k (sha256 (h.take 192)) ((h.drop 192).take 64) then 1
  else if bitOf revoked (k - 1) then 3
  else if headerF h < headerFmin h then 4
  else 0

/-- The registers that show the loaded image (0x2802). -/
def Image.showLoaded (im : Image) (h : Bytes) : Image :=
  ((im.setReg 0x2802 1 (headerVersion h)).setReg 0x2802 2
    (headerF h * 2 ^ 32 + headerFmin h * 2 ^ 16 + headerFback h)).setReg 0x2802 3 ((h.drop 18).headD 0)

/-! ## The service window (R566) -/

/-- Command 1: open; command 2: close. -/
def Image.windowCommand (im : Image) (raw : Nat) : Image :=
  im.onUpd (fun u => { u with windowAt := if raw = 1 then some im.clk.opMs else none })

/-- The window's time limit, in operating time; with command 6 in progress it closes once both lanes are operational. -/
def Image.windowExpiry (im : Image) (both : Bool) : Image :=
  match im.net.upd.windowAt with
  | some t =>
    if t + 1000 * im.reg 0x2809 3 ≤ im.clk.opMs && (!im.net.upd.windowUpdate || both) then im.onUpd (fun u => { u with windowAt := none })
    else im
  | none => im

/-! ## Store and restore (R520, R521) -/

/-- The stored set with one of its parts replaced; both are in ascending order. -/
def mergeSets : RegFile → RegFile → RegFile
  | m, [] => m
  | m, (k, v) :: xs => RegFile.ins (mergeSets m xs) k v

/-- A store begins (R520). -/
def Image.startStore (im : Image) (p : Path) (set : Nat) : Image := im.onUpd (fun u => { u with store := some (set, p, none) })

/-- The values a store keeps are those in force at section D of the frame after its write (R520, R526). -/
def Image.takeStoreValues (im : Image) : Image :=
  match im.net.upd.store with
  | some (set, p, none) =>
    let kept := im.stored.filter (fun e => !inSet set e.1)
    im.onUpd (fun u => { u with store := some (set, p, some (mergeSets kept (im.valuesOf set))) })
  | _ => im

/-- The store has completed: the new set is current, a restore marked for it lapses (R520, R524, R528). -/
def Image.storeDone (im : Image) (set : Nat) (new : RegFile) : Image :=
  let im := { im with
    stored := new, restoreComm := im.restoreComm && set == 3, restoreApp := im.restoreApp && set == 2
    commWaits := im.commWaits && set == 3 }
  ((im.setReg 0x2003 4 im.op).bump 0x2003 5).onUpd (fun u => { u with store := none })

/-- The default of a register by its key, one that depends on the node-ID computed from the node-ID in force (R521). -/
def Image.defaultInForce (im : Image) (k : Nat) : Nat :=
  let d := regDefault (k / 256) (k % 256)
  if d = nodeDefault then nodeDefaultValue (im.reg 0x2903 2) (k / 256) (k % 256) else d

/-- A load of defaults is marked (R521): configuration-change records with source 6 name the stored values it replaces;
one with no entries where there are none. -/
def Image.markRestore (im : Image) (auth : Bool) (set : Nat) : Image :=
  let fresh := fun (e : Nat × Nat) => inSet set e.1 && !((im.restoreComm && inSet 2 e.1) || (im.restoreApp && inSet 3 e.1))
  let gone := im.stored.filter (fun e => fresh e && wrap 32 e.2 != wrap 32 (im.defaultInForce e.1))
  let im := gone.foldl (fun (im : Image) e =>
    let idx := e.1 / 256
    let sub := e.1 % 256
    im.change 6 auth idx sub (wrap 32 e.2) (wrap 32 (im.defaultInForce e.1))) im
  let im := if gone.isEmpty then
      (im.occur 19 modScope Source.zero).draft ⟨3, 0x08, 0, 19, 0, changePayload 6 auth im.safetyDigest []⟩
    else im
  { im with
    restoreComm := im.restoreComm || set != 3, restoreApp := im.restoreApp || set != 2
    commWaits := match set with
      | 1 => im.commWaits || !im.restoreComm
      | 2 => false
      | _ => im.commWaits }

/-- The stored set a load of values takes: without the parts marked for default. -/
def Image.storedInForce (im : Image) (comm app : Bool) : RegFile :=
  im.stored.filter (fun e => !((comm && im.restoreComm && inSet 2 e.1) || (app && im.restoreApp && inSet 3 e.1)))

/-- The registers of a set take their stored values, or their defaults where none is stored (R466, R517, R521); a load of
the communication set alone leaves a mark that sub 01 has set. -/
def Image.loadSet (im : Image) (set : Nat) : Image :=
  let kept := set == 3 || (set == 2 && im.commWaits)
  let stored := im.storedInForce (!kept) (set != 2)
  let others := im.od.filter (fun e => !inSet set e.1)
  { im with
    od := mergeSets others (stored.filter (fun e => inSet set e.1))
    stored := stored
    restoreComm := im.restoreComm && kept
    restoreApp := im.restoreApp && set == 2
    commWaits := im.commWaits && kept }

/-- The reaction defaults of R578 (0x250F:01): 0x2501, 0x2502 and 0x250A. -/
def Image.restoreReactions (im : Image) (p : Path) : Image :=
  let im := im.put p 0x2501 1 0
  let im := (List.range 64).foldl (fun (im : Image) n => im.put p 0x2502 (n + 1) (evRow n).byte) im
  im.put p 0x250A 1 (regDefault 0x250A 1)

/-- A test occurrence (R589): no functional reaction, no latch, outside LG4, counted in 0x250D:02 alone. -/
def Image.testOccurrence (im : Image) (n : Nat) : Image :=
  let byte := im.reaction n
  let src : Source := ⟨0, 0xFE, 0⟩
  let im := im.bump 0x250D 2
  let im := im.onScope modScope (fun e => e.found n)
  let e : FifoEntry := ⟨n, .occurrence, 0, im.clk.frame, im.clk.stitch, src, byte, (evRow n).cls.code, im.eventWord,
    (im.ev.scopes.get modScope).latched, true⟩
  let im := if bitOf byte 0 then im.pushFifo e else im
  if bitOf byte 1 then { im with ev := { im.ev with emcy := im.ev.emcy ++ [⟨0xFF00 + n, n, 3, 0, src⟩] } } else im

/-- A write of the mode selector (R525): held at once, with EV19 and its record. -/
def Image.selectMode (im : Image) (p : Path) (v : Nat) : Image :=
  let old := im.reg 0x2FF0 2
  (im.setReg 0x2FF0 2 v).change p.source (im.authorised p) 0x2FF0 2 old v

/-- The error history is cleared (R473). -/
def Image.clearHistory (im : Image) : Image := (List.range 17).foldl (fun (im : Image) i => im.setReg 0x1003 i 0) im

/-- The seal latch is cleared (R234). -/
def Image.clearSeal (im : Image) : Image := { im with belt := { im.belt with sealLatch := false } }

end Sys2Proof.Machine
end

