-- ==== Sys2Proof/Machine/Restart.lean ====
section
/-! DEFINITION. The image a lane starts from: what its FRAM and NOR hold, what the hardware holds, and every other value
at its default (R129, R197, R198, R204, R321, R340, R433, R476, R517, R525). -/

namespace Sys2Proof.Machine

/-- Registers a start keeps beside those in FRAM: what the slots, the fuses, the plug and the relays hold, and what the
persistent set holds of cycles, ledger basis and breach (R340, R372, R435). -/
def keptRegister (idx sub : Nat) : Bool :=
  regPersist idx sub == .fram ||
  match nativePlace idx with
  | .door _ off => off == 0x0E && sub == 4
  | .module i =>
    i == 0x2608 || i == 0x260D || i == 0x2806 || (i == 0x2903 && sub == 1) ||
      (i == 0x2906 && (sub == 3 || sub ≤ 2)) || ((i == 0x2209 || i == 0x220A) && (2 ≤ sub && sub ≤ 7)) ||
      (i == 0x220B && sub == 5) || (i == 0x2000 && 2 ≤ sub) || (i == 0x1018) || (i == 0x2907 && sub == 6) ||
      (i == 0x210D && (sub == 3 || sub == 4)) || i == 0x2FF0
  | _ => false

/-- The registers of a start: kept ones, the stored set, defaults for the rest. -/
def startRegisters (fram : Image) (stored : RegFile) : RegFile :=
  mergeSets (fram.od.filter (fun e => keptRegister (e.1 / 256) (e.1 % 256))) stored

/-- The node-ID by the coding plug, else by LSS (R476), and its source. -/
def Image.takeNodeId (im : Image) : Image :=
  let plug := im.reg 0x2903 1
  let lss := im.reg 0x2903 3
  if 1 ≤ plug && plug ≤ 63 then (im.setReg 0x2903 2 plug).setReg 0x2903 4 1
  else if 1 ≤ lss && lss ≤ 127 then (im.setReg 0x2903 2 lss).setReg 0x2903 4 2
  else (im.setReg 0x2903 2 255).setReg 0x2903 4 0

/-- A port at a start: it listens where it is in use (R451), or keeps the rate that start phase 8 has found (R364); its
pending requests have ended as cancelled (R433). -/
def Image.startPort (im : Image) (fram hw : Image) (q : Port) : Image :=
  let im := im.bumpBy (canLedger q) 3 (fram.canPort q).pending
  let x := hw.canPort q
  im.onPort q (fun _ =>
    if im.bootReg (q.obj) 1 = 0 then CanPort.reset
    else if x.st = .active || x.st = .passive then { CanPort.reset with st := .active, activeSince := some im.now, bootDue := true }
    else { CanPort.reset with st := .detecting, bootDue := true, nomTry := x.nomTry, nomRun := x.nomRun })

/-- The registers that take effect at a restart come into force (R485, R508). -/
def Image.takeBoot (im : Image) : Image :=
  { im with net := { im.net with boot := im.od.filter (fun e => bootKey e.1) } }

/-- An input at a start: its last sample stands, filtered; nothing is in fault. -/
def DIn.fresh (x : DIn) : DIn := { DIn.reset with volts := x.volts, raw := x.raw, filt := x.raw, img := x.raw, latched := x.raw }

def EdgeState.fresh (e : EdgeState) : EdgeState := { EdgeState.reset with reading := e.reading, lastBand := e.lastBand, ohms := e.ohms }

/-- A doorway at a start: samples only; its state follows from R37. -/
def Doorway.fresh (w : Doorway) : Doorway :=
  { Doorway.reset with
    ea := w.ea.fresh
    eb := w.eb.fresh
    dis := w.dis.map DIn.fresh
    bankPresent := w.bankPresent
    bankVolts := w.bankVolts }

/-- An axis at a start: its Contour and travel from FRAM, its samples, at rest and unreferenced (R129). -/
def AxisState.fresh (hw fram : AxisState) : AxisState :=
  { AxisState.reset with
    plant := { hw.plant with pos := 0, vel := 0, acc := 0 }, therm := hw.therm, thermFine := hw.thermFine, opening := fram.opening, closing := fram.closing, openPhase := fram.openPhase, travelUm := fram.travelUm }

/-- A channel at a start: its switch as the hold cell drives it, its last samples. -/
def Channel.fresh (x : Channel) : Channel :=
  { Channel.reset with
    oc := x.oc, thDT := x.thDT, thTJ := x.thTJ, short := x.short, unseen := x.unseen, out := x.out, code := x.code, mean := x.mean, fine := x.fine, deltaT := x.deltaT, junction := x.junction }

/-- Supply quantities at a start: the samples, and what the backup domain holds (R234). -/
def Belt.fresh (b : Belt) : Belt :=
  { Belt.reset with
    input := b.input, vin := b.vin, link := b.link, bus := b.bus, ambient := b.ambient, holdup := b.holdup, cellMv := b.cellMv,
    sealLatch := b.sealLatch, pIn := b.pIn, pMotor := b.pMotor, converter := true }

/-- What FRAM keeps of an update (R561, R572, R573): a load cut off is discarded, a leapfrog cut off is interrupted. -/
def Image.startUpdate (im : Image) (fram : Image) : Image :=
  let st := fram.reg 0x2800 2
  let u := fram.net.upd
  let load := if st = 1 || st = 2 then [] else u.load
  let win := if u.windowUpdate then u.windowAt else none
  let im := im.onUpd (fun _ => { Update.reset with
    key := u.key, issued := u.issued, load := load, windowAt := win, windowUpdate := u.windowUpdate })
  if st = 1 || st = 2 then im.updateDone 0 9
  else if st = 4 || st = 5 then im.updateDone 6 9
  else im

/-- A token's and the loops' state at a start: what FRAM holds of the token, what the Buckle and the comparators hold. -/
def startPermits (hw fram : Permits) : Permits :=
  { Permits.reset with
    sideA := { SideState.reset with held := fram.sideA.held }
    sideB := { SideState.reset with held := fram.sideB.held }
    mask := hw.mask, maskRead := hw.maskRead, comparators := hw.comparators }

/-- The wall time at a start (R204): the RTC's, or the saved one with the invalid bit where the backup domain has lost
its supply. -/
def Clock.wallAtStart (c : Clock) (cycles : Nat) (powerUp : Bool) : Nat :=
  if !powerUp then c.wallUs else if c.backup then c.wallSaved else (Config.rtcMicros c.wallUs cycles)

/-- What takes effect at a start of both lanes, in the FRAM of a lane whose stored set is `nor`: sets marked for default
(R521), the mode selected (R525). -/
def Image.bothStart (im : Image) (nor : RegFile) : Image :=
  let st := { im with stored := nor }.storedInForce true true
  let im := { im with stored := st, restoreComm := false, restoreApp := false, commWaits := false }
  let mode := im.reg 0x2FF0 2
  if im.reg 0x2FF0 1 = mode then im else (im.setReg 0x2FF0 1 mode).bump 0x2FF0 3

/-- FIFO entries and records in the making that a start keeps: those of lane and update events (DESIGN CHOICE). -/
def keptEntry (e : FifoEntry) : Bool := e.ev == 12 || e.ev == 13 || e.ev == 14 || e.ev == 17 || e.ev == 20
def keptDraft (d : Draft) : Bool := d.type == 0x04 || d.type == 0x09 || d.type == 0x0D

/-- The peaks that run since power good: any other start leaves them (R199, R211, R351). -/
def sincePowerGood : List (Nat × Nat) :=
  [(0x2100, 5), (0x2101, 5), (0x2201, 3), (0x2203, 3), (0x2702, 2), (0x2905, 4)]

/-- The image a lane starts from. `fram`: the lane's persistent set; `nor`: its stored set; `hw`: the image whose samples
and hardware-held values stand; `powerUp`: after a power good; `count`: the lane's own stitches since its start; `op`: its operating time, ms (R198). The
peaks kept since power-up outlast any other start (R199, R211).
Blocks in flight at the last commit count as stranded (R440). -/
def startImage (fram : Image) (nor : RegFile) (hw : Image) (powerUp : Bool) (count op : Nat) : Image :=
  let c := { fram.clk with backup := hw.clk.backup }
  let wall := if powerUp then c.wallAtStart (fram.reg 0x2102 2) true else hw.clk.wallUs
  let clk : Clock := { Clock.reset with
    frame := count / 16, stitch := count % 16,
    opMs := op, opSaved := if powerUp then resumeOp c.opSaved else c.opSaved,
    wallUs := wall, wallSaved := c.wallSaved, invalid := c.backup || c.invalid, backup := c.backup, utcSynced := c.utcSynced }
  let m := (fram.ev.scopes.get modScope).latched
  let im : Image := { Image.reset with
    od := startRegisters fram nor
    stored := nor
    restoreComm := fram.restoreComm
    commWaits := fram.commWaits
    restoreApp := fram.restoreApp
    clk := clk
    belt := hw.belt.fresh
    doors := hw.doors.map Doorway.fresh
    axes := Vector.ofFn (fun a : Axis => (hw.axes.get a).fresh (fram.axes.get a))
    chans := hw.chans.map Channel.fresh
    tos := hw.tos
    inp := { Inputs.reset with tis := hw.inp.tis.map DIn.fresh, sup := { Supervision.reset with since := count / 16 } }
    permits := startPermits hw.permits fram.permits
    ev := { Events.reset with scopes := Vector.ofFn (fun k : Fin 13 => if k = 0 then EvState.start m else EvState.reset) }
    rcd := { Recorder.reset with
      log := fram.rcd.log, floor := fram.rcd.floor, gFloor := fram.rcd.gFloor
      fifo := hw.rcd.fifo.filter keptEntry
      drafts := hw.rcd.drafts.filter keptDraft }
    breach := fram.breach }
  let im := if powerUp then im else sincePowerGood.foldl (fun (im : Image) k => im.setReg k.1 k.2 (hw.reg k.1 k.2)) im
  let im := (im.takeBoot.startUpdate fram).takeNodeId
  let im := im.bumpBy 0x260C 1 fram.commit.flying
  let im := (im.startPort fram hw .x7).startPort fram hw .x8
  let im := im.eachAxis (fun im a => im.motorSet fram a)
  let ip := if im.reg 0x2907 1 = 0 then im.reg 0x2907 2 else 0
  let im := im.setReg 0x2907 5 ip
  ({ im with net := { im.net with bb := { im.net.bb with mask := im.reg 0x2907 3, gateway := im.reg 0x2907 4 } } }).takeFunctions

/-- R129: the axes of a doorway proven closed and locked, its step retracted, are referenced at position 0. -/
def Image.startAxes (im : Image) (d : Door) : Image :=
  let ok := im.closedProven d && im.lockedProven d && im.stepIn d
  (allFin 3).foldl (fun (im : Image) k =>
    im.onAxis (axisOf d k) (fun x => { x with referenced := ok && im.axisUsed (axisOf d k) })) im

/-- The first frame of a lane granted from no grant (R340): role-0 channels adopt the last drive, tokens held are
withdrawn, a cycle in progress is abandoned with outcome 3 and its record, with the relock of a doorway proven locked,
doorways and axes take their states. -/
def Image.readback (im : Image) (drive : Nat → Bool) : Image :=
  let im := (im.latchImage).readTrain false
  let im := im.eachChan (fun im c =>
    if im.chanRole c = 0 then
      let on := drive c.val
      (im.setCreg c 1 1 (b2n on)).onChan c (fun x => { x with cmd := on, out := on })
    else im.onChan c (fun x => { x with out := drive c.val }))
  let im := im.withdrawFound
  let im := im.eachDoor (fun im d =>
    let proven := im.closedProven d && im.lockedProven d
    let im := if im.inProgress d then
        (im.decideAction (.abandon d 3)).onDoor d (fun w => { w with
          cycle := some { Cycle.start im.now 0 with number := im.dreg d 0x0E 1 } }) |>.finishCycle d 3
      else im
    if im.unlocked d && proven then im.decideAction (.relock d) else im)
  im.eachDoor (fun im d => (im.startUp d).startAxes d)

end Sys2Proof.Machine
end

