-- ==== Sys2Proof/Machine/Resume.lean ====
section
/-! DEFINITION. A committed image resumed on what the slices and the hardware hold now (R141, R173, R190, R306, R335). -/

namespace Sys2Proof.Machine

/-- What a boundary shows (R56, R583): the states of the doorways that have no ledger action pending, and the events. -/
def Image.publishAll (im : Image) : Image :=
  (im.eachDoor (fun im d => if im.doorPending d then im else im.onDoor d Doorway.publish)).publishEvents

/-- Events the slices and the power hardware find, which each lane finds for itself. -/
def foundEvents : List Nat := [0, 1, 2, 3, 4, 5, 10, 27, 28, 29, 40, 41, 43, 44, 51, 52, 55, 56, 57, 58, 59, 60]
def foundMask : Nat := foundEvents.foldl (fun m n => m ||| 2 ^ n) 0

/-- A register that counts what the slices and the channels' own hardware find: pole slips, stalls and travel, presses and
obstacles, trips and retries. -/
def foundRegister (idx sub : Nat) : Bool :=
  match nativePlace idx with
  | .axis _ 3 => decide (6 ≤ sub)
  | .axis _ 4 => sub == 0x0D || sub == 0x0E
  | .axis _ 5 => sub == 9 || sub == 0x0C || sub == 0x0D
  | .door _ 0x0E => sub == 8 || sub == 9
  | .chan _ off => powerRegister off sub
  | _ => false
where
  powerRegister (off sub : Nat) : Bool := off == 3 || (off == 1 && sub == 7)

/-- A register of a channel's own hardware: its retries and its counters. -/
def chanRegister (idx sub : Nat) : Bool :=
  match nativePlace idx with
  | .chan _ _ => foundRegister idx sub
  | _ => false

/-- The registers a test picks as `found` has them, the others as `od` has them. -/
def withFound (od found : RegFile) (p : Nat → Nat → Bool) : RegFile :=
  mergeSets (od.filter (fun e => !p (e.1 / 256) (e.1 % 256))) (found.filter (fun e => p (e.1 / 256) (e.1 % 256)))

/-- A cycle of the committed image, with what the slices have measured of it. -/
def Cycle.takeOver (c h : Cycle) : Cycle :=
  if c.accepted != h.accepted then c
  else { c with
    peakOpen1 := h.peakOpen1, peakOpen2 := h.peakOpen2, peakClose1 := h.peakClose1, peakClose2 := h.peakClose2
    peakCurrent := h.peakCurrent, energy := h.energy, obstacles := h.obstacles, spoiled := c.spoiled || h.spoiled
    edgeFault := c.edgeFault || h.edgeFault }

/-- A generator goes on as its slice drives it; what a discarded frame has ordered is not obeyed, and an obstacle that the
slice has not found since the last applied commit stands as that commit has it: where a discarded frame had begun its
reaction, the stop has ended and the reaction is decided anew (R141, R173). `sh`: the committed one. -/
def Gen.goOn (sh hw : Gen) (frame : Nat) : Gen :=
  let g := { hw with orders := hw.orders.filter (fun o => match o.1 with | some k => decide (k ≤ frame + 1) | none => true) }
  if hw.obstacleSince frame then g
  else { g with
    obstacle := sh.obstacle, dirLimit := sh.dirLimit, reactionDue := sh.reactionDue
    stopEnded := sh.stopEnded || (sh.reactionDue && !hw.reactionDue) }

/-- A doorway of the new active: committed decisions, its own samples and set-points; the profile time of a drain is that
its slices have counted, and the open requests of discarded frames are due again (R12, R50). -/
def Doorway.takeOver (sh hw : Doorway) (frame : Nat) : Doorway :=
  { sh with
    ea := hw.ea, eb := hw.eb, dis := hw.dis, bankPresent := hw.bankPresent, bankVolts := hw.bankVolts, bankFault := hw.bankFault
    bankAbsent := hw.bankAbsent, pressed := ((hw.asked.filter (fun q => decide (frame < q.1))).map (·.2)).reverse, asked := []
    cycle := match sh.cycle, hw.cycle with
      | some c, some h => some (c.takeOver h)
      | c, _ => c
    leaves := sh.leaves.goOn hw.leaves frame, step := sh.step.goOn hw.step frame
    drain := match sh.drain, hw.drain with
      | some x, some y => some (if x.frame = y.frame then { x with ticks := max x.ticks y.ticks } else x)
      | x, _ => x }

/-- An axis of the new active. -/
def AxisState.takeOver (sh hw : AxisState) : AxisState :=
  { hw with
    referenced := sh.referenced, slip := hw.slip, disabled := sh.disabled
    drain := match sh.drain, hw.drain with
      | some x, some y => some (if x.frame = y.frame then { x with ticks := max x.ticks y.ticks } else x)
      | x, _ => x
    opening := sh.opening, closing := sh.closing
    openPhase := sh.openPhase, teach := sh.teach, seenOpen := sh.seenOpen, seenClose := sh.seenClose }

/-- A channel of the new active: its command from the committed state, its switch as the hardware has it. -/
def Channel.takeOver (sh hw : Channel) : Channel :=
  { hw with
    cmd := sh.cmd, phaseOn := sh.phaseOn, phaseSince := sh.phaseSince, disabled := sh.disabled, drain := sh.drain, shed := sh.shed
    flashing := sh.flashing }

/-- The events of a scope: those the lane finds itself as they stand, the others as committed. -/
def EvState.takeOver (sh hw : EvState) : EvState :=
  let mix := fun (a b : Nat) => (a &&& (2 ^ 64 - 1 - foundMask)) ||| (b &&& foundMask)
  { sh with active := mix sh.active hw.active, latched := mix sh.latched hw.latched }

/-- The Belt of an image whose frame is discarded: its scheduler, its samples and its times go on; the level decided is the
committed one (R190, R208, R227). -/
def Belt.takeOver (sh hw : Belt) : Belt :=
  { hw with next := sh.next, rest := sh.rest, restWaking := sh.restWaking, restSince := sh.restSince }

/-- The credit totals that frames after the committed one have added are not lost: each stitch counts once (R227). -/
def Image.countCredits (im : Image) (belt : Belt) (frame : Nat) : Image :=
  (belt.totals.filter (fun t => decide (frame < t.1))).foldl (fun (im : Image) t =>
    ((im.bumpBy 0x2108 2 t.2.1).bumpBy 0x2108 3 t.2.2.1).bumpBy 0x2108 4 t.2.2.2) im

/-- The lane switch of a side stands as its line is driven: at a switchover from the new active's shadow decisions (R77). -/
def SideState.withLane (x hw : SideState) : SideState :=
  { x with command := hw.command, laneClosed := hw.laneClosed, laneDiffer := hw.laneDiffer }

/-- The decisions of a committed image on what the hardware and the slices hold now (R190, R335). -/
def Image.resume (sh hw : Image) : Image :=
  let f := sh.now
  let found := hw.rcd.fifo.filter (fun e => foundEvents.contains e.ev && decide (f < e.frame))
  { { sh with od := withFound sh.od hw.od foundRegister }.countCredits hw.belt f with
    clk := hw.clk
    belt := sh.belt.takeOver hw.belt
    doors := Vector.ofFn (fun d : Door => (sh.doors.get d).takeOver (hw.doors.get d) f)
    axes := Vector.ofFn (fun a : Axis => (sh.axes.get a).takeOver (hw.axes.get a))
    chans := Vector.ofFn (fun c : Chan => (sh.chans.get c).takeOver (hw.chans.get c))
    tos := hw.tos
    inp := { hw.inp with sup := sh.inp.sup, suspend := sh.inp.suspend }
    permits := { sh.permits with
      mask := hw.permits.mask, maskRead := hw.permits.maskRead, comparators := hw.permits.comparators
      sideA := sh.permits.sideA.withLane hw.permits.sideA, sideB := sh.permits.sideB.withLane hw.permits.sideB }
    ev := { sh.ev with scopes := Vector.ofFn (fun k : Fin 13 => (sh.ev.scopes.get k).takeOver (hw.ev.scopes.get k)) }
    rcd := { sh.rcd with fifo := sh.rcd.fifo ++ found }
    outs := [] }

/-- What a new active finds: its own slices, receivers and times, and the power hardware and ports both lanes share. -/
def Image.ofSlices (hw own : Image) : Image :=
  { own with
    od := withFound own.od hw.od chanRegister
    chans := hw.chans, tos := hw.tos, net := hw.net, commit := hw.commit, due := hw.due
    permits := { own.permits with mask := hw.permits.mask, maskRead := hw.permits.maskRead, comparators := hw.permits.comparators }
    doors := Vector.ofFn (fun d : Door =>
      let h := hw.doors.get d
      { own.doors.get d with bankPresent := h.bankPresent, bankVolts := h.bankVolts, bankFault := h.bankFault, bankAbsent := h.bankAbsent }) }

end Sys2Proof.Machine
end

