-- ==== Sys2Proof/Machine/SeamBytes.lean ====
section
/-! DEFINITION. The bytes of the Seam's blocks: the header and CRC of every block (R308), and the payloads the spec lays
out: commit (R315), acknowledgement (R317), link acknowledgement (R310), fault report (R357). The sections of the state
image have no layout in the spec, so that delta, record, image and digest blocks are their headers alone. -/

namespace Sys2Proof.Machine

/-- The first 16 bytes of a block (R308). -/
def seamHeader (l : Lane) (granted resend : Bool) (kind epoch seq : Nat) (h : BlockHead) : Bytes :=
  [kind, b2n resend * 128 + b2n (l == .b) * 64 + b2n granted * 32] ++ le 2 epoch ++ le 4 seq ++ le 4 h.frame ++ le 2 h.index ++
    le 2 h.count

/-- A block whose payload is known: header, 492 bytes of payload, CRC-32C over both (R308). -/
def seamWire (header payload : Bytes) : Bytes :=
  let body := header ++ padTo 492 payload
  body ++ le 4 (crc32c body)

/-- A ledger action in a commit block: kind, doorway or side, outcome or cause, the count it leads to (R315); `im`: the
image before it. -/
def Image.actionBytes (im : Image) : LedgerAction → Bytes
  | .unlock d => [1, d.val + 1, 0, 0] ++ le 4 (im.dreg d 0x0E 1 + b2n (!im.unlocked d))
  | .relock d => [2, d.val + 1, b2n (im.inProgress d), 0] ++ le 4 (im.dreg d 0x0E 1)
  | .abandon d n => [3, d.val + 1, n, 0] ++ le 4 (im.dreg d 0x0E 1)
  | .grant k => [4, (match k with | .a => 1 | .b => 2), 0, 0] ++ le 4 (im.reg (tokenObj k) 4 + 1)
  | .withdraw k n => [5, (match k with | .a => 1 | .b => 2), n, 0] ++ le 4 (im.reg (tokenObj k) 4)

/-- The Belt state of a commit block, 96 bytes (R315). -/
def Image.beltBytes (im : Image) : Bytes :=
  let b := im.belt
  let rest := match b.clearSince with | some f => min 65535 (im.now - f) | none => 0
  [b.level, b.condBits % 256] ++ le 2 rest ++ [im.clk.gc, 0] ++ le 2 im.clk.g ++ le 2 (encInt 16 (im.clk.gRate / 16000)) ++
    le 4 b.pool ++ le 2 (b.fraction * 256 / 16000) ++ [b.ring] ++ zeros 7 ++ ((b.deficits.toList.map (fun x => le 2 (encInt 16 x))).flatten)

/-- The commit block's payload (R315); `im`: the image sealed in the frame, `c`: its commit, `blocks`: its delta blocks.
The delta digest is over payloads whose layout the spec leaves open. -/
def Image.commitPayload (im : Image) (c : CommitRec) (blocks : Nat) : Bytes :=
  let survey := b2n (im.now % 64 == 0)
  le 8 im.clk.frame ++ le 2 blocks ++ le 4 (Config.deltaDigest im.clk.frame).toNat ++
    [c.actions.length, survey * 128 + b2n im.commit.singleLane * 32 + b2n c.handover * 16] ++
    padTo 128 ((c.actions.map im.actionBytes).flatten) ++
    le 24 (bitsToNat (im.chans.toList.map (·.out))) ++ le 4 im.permits.mask ++
    [bitsToNat [im.permits.sideA.command, im.permits.sideB.command], bitsToNat (im.tos.toList.map (·.on)),
      bitsToNat [im.permits.sideA.held, im.permits.sideB.held], 0] ++ im.beltBytes ++
    le 6 (im.reg 0x2700 2) ++ le 2 c.records.length ++ le 5 im.op ++ le 4 (im.reg 0x2102 2)

/-- A reading of an edge as the acknowledgement packs it. -/
def Doorway.edgeByte (w : Doorway) : Nat := w.ea.reading % 4 + w.eb.reading % 4 * 4

/-- The acknowledgement block's payload (R317); `im`: the standby's image, `frame`: the frame acknowledged, `result`: 0
applied, 1 digest mismatch. -/
def Image.ackPayload (im : Image) (frame result flags sections : Nat) : Bytes :=
  let bits := fun (f : DIn → Bool) (w : Doorway) => le 2 (bitsToNat (w.dis.toList.map f))
  let doors := im.doors.toList
  let fault := fun (x : DIn) => decide (x.fault ≠ 0)
  le 8 frame ++ [result, flags] ++ le 2 sections ++ le 4 (im.reg 0x2102 2) ++
    ((doors.map (bits (·.latched))).flatten) ++ le 2 (bitsToNat (im.inp.tis.toList.map (·.latched))) ++
    doors.map Doorway.edgeByte ++ ((doors.map (bits fault)).flatten) ++ le 2 (bitsToNat (im.inp.tis.toList.map fault)) ++
    le 2 im.belt.vin ++ le 2 im.belt.link ++ le 2 im.belt.bus ++ le 2 (encInt 16 im.belt.ambient) ++
    ((doors.map (fun w => le 2 w.bankVolts)).flatten)

/-- A link acknowledgement's payload: up to 120 sequence numbers in the order of arrival (R310). -/
def linkAckPayload (seqs : List Nat) : Bytes := ((seqs.take 120).map (le 4)).flatten

/-- A fault report's payload (R357). -/
def Clock.faultPayload (c : Clock) (event checker unit group : Nat) : Bytes :=
  [event, checker, unit, group] ++ le 8 c.frame ++ [c.stitch, c.core / 50]

end Sys2Proof.Machine
end

