-- ==== Sys2Proof/Machine/SeamOps.lean ====
section
/-! DEFINITION. The Seam (R307 to R326): links and blocks in flight, commits and their acknowledgement, the effect of a
commit (R319, R511, R512), the full copy, qualification and its loss, the survey (R434). -/

namespace Sys2Proof.Machine

/-- A note in FRAM that is made whichever lane runs: on the working image and on what each lane's FRAM holds. -/
def State.note (s : State) (f : Image → Image) : State :=
  { s with img := f s.img, committed := f s.committed, shadow := f s.shadow, trail := s.trail.map f }

/-- A lane event or counter: on the working image while a lane runs, else noted. -/
def State.report (s : State) (f : Image → Image) : State := if s.running then s.edit f else s.note f

/-! ## Links (R311) -/

/-- EV10 while exactly one link is up; it clears when both are. -/
def State.linkEvent (s : State) : State :=
  match s.seam.upCount with
  | 1 => s.edit (fun im => im.raise 10 modScope Source.zero)
  | 2 => s.edit (fun im => im.clearEv 10 modScope Source.zero)
  | _ => s

/-- The other link. -/
def otherLink : Link → Link
  | .one => .two
  | .two => .one

/-- A link is faulted: its blocks in flight move to the other link, where their re-send counts restart. -/
def State.linkFault (s : State) (k : Link) : State :=
  let s := s.onSeam (fun m => { m.setLink k 3 with
    flights := m.flights.map (fun f => if f.link = k then { f with link := otherLink k, resends := 0, age := 0 } else f) })
  (s.edit (fun im => im.bump 0x2202 9)).linkEvent

/-- A link comes up; the Seam monitor lets the qualified line go. -/
def State.linkUp (s : State) (k : Link) : State :=
  ((s.onSeam (fun m => m.setLink k 2)).onBuckle (fun b => { b with monitor := false, bothDown := 0 })).linkEvent

/-- A retraining of a link that is not up: 64 test blocks acknowledged without a re-send return it to service (R311). -/
def State.retrain (s : State) (k : Link) (acked : Nat) : State :=
  if s.seam.linkState k = 2 then s
  else if acked = 64 then s.linkUp k
  else s.onSeam (fun m => m.setLink k (if m.linkState k = 3 then 3 else 1))

/-! ## Sending (R310, R313, R314) -/

/-- The link a block first goes out on: the only one up, else as the implementation spreads blocks (R314). -/
def State.linkFor (s : State) (seq : Nat) : Link :=
  if !s.seam.up .one then .two else if !s.seam.up .two then .one else if Config.secondLink seq then .two else .one

/-- A block leaves on a link. -/
def State.emit (s : State) (l : Lane) (k : Link) (kind seq : Nat) (resend : Bool) (h : BlockHead) (payload : Option Bytes) : State :=
  let header := seamHeader l (s.granted == some l) resend kind s.epoch seq h
  s.edit (fun im => im.send (.seam l k kind seq resend (match payload with | some p => seamWire header p | none => header)))

/-- A lane sends a new block on a link; types 0x01 to 0x05 of the granted lane count in LG7 (R313). -/
def State.sendOn (s : State) (l : Lane) (k : Link) (body : BlockBody) (h : BlockHead) (payload : Option Bytes) : State :=
  let seq := s.seam.nextSeq.get l
  let counted := decide (body.type ≤ 5) && s.granted == some l
  let s := s.onSeam (fun m => { m with
    nextSeq := m.nextSeq.on l (fun n => wrap 32 (n + 1))
    flights := m.flights ++ [⟨l, k, seq, h, payload, 0, 0, counted, body⟩] })
  let s := if counted then s.edit (fun im => im.bump 0x2202 3) else s
  s.emit l k body.type seq false h payload

/-- A lane sends a block. With no link up nothing is sent. -/
def State.sendBlock (s : State) (l : Lane) (body : BlockBody) (h : BlockHead) (payload : Option Bytes) : State :=
  if s.seam.upCount = 0 then s else s.sendOn l (s.linkFor (s.seam.nextSeq.get l)) body h payload

/-- The block a link acknowledgement or a re-send timeout names (R310). -/
def Flight.named (f : Flight) (l : Lane) (k : Link) (seqs : List Nat) : Bool := f.sender == l && f.link == k && seqs.contains f.seq

/-- A link acknowledgement has come to lane `l` (R310, R313): blocks it lists are no longer in flight; each counts once as
acknowledged. -/
def State.linkAcked (s : State) (l : Lane) (k : Link) (seqs : List Nat) : State :=
  let done := s.seam.flights.filter (fun f => f.named l k seqs)
  let s := s.onSeam (fun m => { m with flights := m.flights.filter (fun f => !f.named l k seqs) })
  s.edit (fun im => im.bumpBy 0x2202 4 (done.filter (·.counted)).length)

/-- A block of lane `l` not acknowledged within 3 stitches is sent again; after the fourth re-send its link is faulted. -/
def State.resend (s : State) (l : Lane) (k : Link) (seq : Nat) : State :=
  match s.seam.flights.find? (fun f => f.named l k [seq]) with
  | none => s
  | some f =>
    if f.age < 3 then s
    else if 4 ≤ f.resends then s.linkFault k
    else
      let s := s.onSeam (fun m => { m with
        flights := m.flights.map (fun x => if x.named l k [seq] then { x with age := 0, resends := x.resends + 1 } else x) })
      (s.edit (fun im => im.bump 0x2202 6)).emit l k f.body.type seq true f.head f.payload

/-- The epoch ends: what was in flight is stranded (R313); the next active counts it with its first commit (R440). -/
def State.strand (s : State) : State :=
  s.onSeam (fun m => { m with flights := [], rx := [], toAck := [], received := ⟨[], []⟩ })

/-! ## The effect of a commit (R319, R320, R511, R512) -/

/-- Answers leave the block. -/
def Image.sendAnswers (im : Image) (xs : List Answer) : Image :=
  xs.foldl (fun (im : Image) a => im.reply a.path a.idx a.sub 0 []) im

/-- What ledger actions do where they take effect: counts and outputs, the lock channels, the states of their doorways as
published (R56, R319). -/
def Image.land (im : Image) (as : List LedgerAction) : Image :=
  let im := (im.applyActions as).unlockChans as
  as.foldl (fun (im : Image) a => match a.door? with
    | some d => im.onDoor d Doorway.publish
    | none => im) im

/-- Released commits take effect: their ledger actions, the gate mask of the state they commit, their answers and their
records. `stitch`: where the actions land (R189). -/
def State.takeEffect (s : State) (cs : List CommitRec) (view : Image) (stitch : Nat) : State :=
  let as := sortActions (cs.map (·.actions)).flatten
  let answers := (cs.map (·.answers)).flatten
  let seqs := (cs.map (·.records)).flatten
  let label := fun (im : Image) => if as.isEmpty then im else { im with clk := { im.clk with effectStitch := stitch } }
  let seen := (label (view.land as)).writeMask
  let s := s.edit (fun im => ((label (im.land as)).setMask seen.permits.mask).sendAnswers answers)
  let s := { s with committed := { seen with outs := [] } }
  match s.activeLane with
  | some l => s.onStore l (fun x => x.push (seqs.filter (fun q => decide (x.newest < q))))
  | none => s

/-- The image sealed in a frame, as the standby applied it or as it waits for it. -/
def State.sealedAt (s : State) (frame : Nat) : Image :=
  match s.sealed.find? (fun x => x.now == frame) with
  | some x => x
  | none => if frame ≤ s.shadow.now && 3 ≤ s.seam.standby then s.shadow else s.img

/-- The commits up to a frame take effect. Without a standby that waits for them, their sealed images are done with. -/
def State.settle (s : State) (frame : Nat) : State :=
  let done := s.img.commit.out.filter (fun c => decide (c.frame ≤ frame))
  match done.getLast? with
  | none => s
  | some last =>
    let view := s.sealedAt last.frame
    let s := s.edit (fun im => { im with commit := { im.commit with out := im.commit.out.filter (fun c => !decide (c.frame ≤ frame)) } })
    let s := s.takeEffect done view s.img.clk.stitch
    if 2 ≤ s.seam.standby then s else { s with sealed := s.sealed.filter (fun x => decide (frame < x.now)) }

/-- The last frame that has been released. -/
def State.releasedFrame (s : State) : Nat := if s.release.isSome then s.img.now - 1 else s.img.now

/-! ## Loss of qualification (R320, R326) -/

/-- The standby is unqualified: its line clears, the active runs single-lane with EV11, and what waits for an
acknowledgement takes effect in the next stitch. -/
def State.unqualify (s : State) (cause : Nat) : State :=
  match s.activeLane with
  | none => s
  | some l =>
    let was := s.seam.standby
    let s := s.onBuckle (fun b => { b with qualified := b.qualified.on l.other (fun _ => false) })
    let s := s.onSeam (fun m => { m with
      standby := if s.standbyUp then 1 else 0, sections := 0, copyNext := none, copyDone := none, rx := [], unbroken := false, declared := some s.releasedFrame })
    if was = 4 || !s.img.commit.singleLane then
      let s := s.edit (fun im => ((({ im with commit := { im.commit with singleLane := true } }).setReg 0x2204 4 cause).bump 0x2204 5).raise
        11 modScope ⟨0, cause, 0⟩)
      { s with landing := some s.releasedFrame, trail := none, trailG := [], drained := [], bus := s.bus.alone }
    else s.edit (fun im => im.raise 11 modScope ⟨0, cause, 0⟩)

/-- The standby's filtered image of frame f is compared in section D of frame f + 1, where the acknowledgement has come by
then (R288, R289). -/
def Image.standbyImage (im : Image) (a : AckPayload) : Image :=
  if a.frame = im.now then { im with inp := { im.inp with other := some (a.di, a.ti) } } else im

/-- The acknowledgement a standby sends for a frame (R317): 0 applied, 1 digest mismatch. -/
def State.sendAck (s : State) (l : Lane) (frame result : Nat) : State :=
  let m := s.seam
  let im := s.trail.getD s.shadow
  let flags := 128 * b2n (m.standby == 4) + 64 * b2n (decide (3 ≤ m.standby)) + 32 * b2n (s.lanes.get l).current +
    16 * b2n (m.standbyBreach == 0) + 8 * b2n (m.up .one) + 4 * b2n (m.up .two)
  let a : AckPayload := ⟨frame, result, flags, m.sections, [], 0⟩
  s.sendBlock l (.ack a) ⟨frame, 0, 1⟩ (some (im.ackPayload frame result flags m.sections))

/-- An acknowledgement at the active (R317, R319, R320, R349): what it carries takes effect in the next stitch. One of a
frame released before the standby was declared unqualified is late and counted; those of the copy are not noticed. -/
def State.commitAck (s : State) (a : AckPayload) : State :=
  if !s.running then s
  else if s.img.commit.singleLane then
    if s.seam.declared.any (fun f => decide (a.frame ≤ f)) then s.edit (fun im => im.bump 0x2203 5) else s
  else if !(s.img.commit.out.any (fun c => c.frame == a.frame)) then s
  else if a.result ≠ 0 then s.unqualify 6
  else
    let stitch := if s.img.now = a.frame then s.img.clk.stitch else 255
    let s := s.edit (fun im => (im.standbyImage a).setReg 0x2203 4 stitch)
    let s := if s.img.commit.out.any (fun c => c.handover && decide (c.frame ≤ a.frame)) then { s with handoverAcked := true } else s
    { s with landing := some (match s.landing with | some f => max f a.frame | none => a.frame) }

/-- The acknowledgement of the oldest commit has not arrived within 3 frames. -/
def State.ackLate (s : State) : State :=
  match s.img.commit.out with
  | c :: _ => if !s.img.commit.singleLane && decide (c.frame + 3 ≤ s.img.now) then s.unqualify 1 else s
  | [] => s

/-! ## The standby's reception (R310, R318) -/

/-- Every block of the frame is here, the commit block among them. -/
def RxFrame.complete (r : RxFrame) : Bool := r.commit.isSome && decide (r.count ≤ r.got.length)

/-- Note a delta or commit block of a frame; `tick`: the present stitch. -/
def Seam.rxBlock (m : Seam) (b : SeamBlock) (commit : Option Bool) (tick : Nat) : Seam :=
  let e : RxFrame := (m.rx.find? (fun r => r.frame == b.frame)).getD ⟨b.frame, [], b.count, none, none, false⟩
  let e := { e with
    got := if e.got.contains b.index then e.got else e.got ++ [b.index], count := b.count, commit := commit.orElse (fun _ => e.commit) }
  let e := if e.complete && e.whole.isNone then { e with whole := some tick } else e
  { m with rx := (m.rx.filter (fun r => r.frame != b.frame)) ++ [e] }

/-- The standby applies the oldest commit it has whole (R318); with a digest mismatch it applies nothing and says so.
Its FRAM is kept current from the section copy on (R322). -/
def State.applyCommit (s : State) : State :=
  match s.sealed, s.activeLane with
  | head :: rest, some l =>
    match s.seam.rx.find? (fun r => r.frame == wrap 32 head.now) with
    | none => s
    | some r =>
      if !r.complete || !s.standbyUp || s.seam.standby < 2 then s
      else
        let drop := s.onSeam (fun m => { m with rx := m.rx.filter (fun x => x.frame != r.frame) })
        if r.commit == some false then
          drop.sendAck l.other head.now 1
        else
          let full := 533 ≤ s.seam.sections || s.seam.standby ≥ 3
          let seqs := ((head.commit.out.find? (fun c => c.frame == head.now)).map (·.records)).getD []
          let s := { drop with
            sealed := rest
            shadow := if full then head else s.shadow
            trail := if 3 ≤ s.seam.standby then some (match s.trail with | some t => head.resume t | none => head) else none
            drained := s.drained.filter (fun d => decide (head.now < d.1)), bus := s.bus.applied head.now }
          let s := s.onSeam (fun m => { m with lastApplied := head.now })
          let s := if full then s.onLane l.other (fun x => { x with current := true }) else s
          let s := s.onStore l.other (fun x => x.push (seqs.filter (fun q => decide (x.newest < q))))
          s.sendAck l.other head.now 0
  | _, _ => s

/-- An image block: the section is held; the copy is complete with all 4,096. -/
def State.sectionHeld (s : State) (sectionNo : Nat) : State :=
  if s.seam.standby < 2 then s
  else if s.seam.standby = 2 && sectionNo = s.seam.sections then
    let n := s.seam.sections + 1
    s.onSeam (fun m => { m with
      sections := n, standby := if n = 4096 then 3 else 2, copyDone := if n = 4096 then some s.img.now else m.copyDone })
  else s

/-- A digest mismatch (R325): in an unused section a latent divergence, at the third survey in a row cause 4; in a live
one cause 3 at once. -/
def State.digestCompared (s : State) (sameLive sameUnused : Bool) (sectionNo : Nat) : State :=
  let s := if sameUnused then s
    else
      let run := if s.img.reg 0x2205 2 = sectionNo && s.img.reg 0x2205 3 ≠ 0 then min 3 (s.img.reg 0x2205 3 + 1) else 1
      let s := s.edit (fun im => ((((im.bump 0x2205 1).setReg 0x2205 2 sectionNo).setReg 0x2205 3 run).occur 16 modScope ⟨0, 0, sectionNo⟩))
      let s := s.onSeam (fun m => { m with again := some sectionNo, digestLatent := true })
      if run = 3 then s.unqualify 4 else s
  if sameLive then s
  else ((s.edit (fun im => im.bump 0x2205 4)).onSeam (fun m => { m with digestLive := true })).unqualify 3

/-! ## The full copy (R322) -/

/-- An unqualified standby starts a full copy with a link up; its FRAM is not current until it has been written. -/
def State.startCopy (s : State) : State :=
  match s.activeLane with
  | none => s
  | some l =>
    if s.standbyUp && s.seam.standby ≤ 1 && s.seam.upCount ≠ 0 then
      let s := s.onSeam (fun m => { m with
        standby := 2, sections := 0, copyNext := some 0, copyDone := none, unbroken := true, lastApplied := s.img.now, rx := [],
        digestLive := false, digestLatent := false, standbyBreach := 0 })
      { s.onLane l.other (fun x => { x with current := false, phase := 10 }) with sealed := s.sealed.filter (fun x => decide (s.releasedFrame < x.now)), drained := [], trail := none, trailG := [] }
    else s

/-! ## The survey (R324, R434) -/

/-- The standby qualifies (R323): its line is set, and it holds the active's stored set (R522). -/
def State.qualify (s : State) : State :=
  match s.activeLane with
  | none => s
  | some l =>
    let s := s.onSeam (fun m => { m with standby := 4 })
    let s := s.onBuckle (fun b => { b with qualified := b.qualified.on l.other (fun _ => !b.monitor) })
    let s := { s with nor := s.nor.on l.other (fun _ => s.nor.get l) }
    let op := max s.img.clk.opMs ((s.lanes.get l.other).opMs s.tick)
    let s := s.onLane l.other (fun x => { x with startTick := s.tick - (16 * s.img.now + s.img.clk.stitch), opBase := op, opTick := s.tick })
    let s := s.edit (fun im => { im with clk := { im.clk with opMs := op } }.bump 0x2204 3)
    if s.img.reg 0x220B 5 = 0 then s.edit (fun im => im.setReg 0x220B 5 (min 65535 (s.tick / 16))) else s

/-- A survey (R434, R435): each lane evaluates its equations, the standby what it has applied; the standby qualifies with
a survey that follows its copy (R323). Both digests of the stored set and all sections agree unless a digest block has
said otherwise. -/
def State.survey (s : State) : State :=
  match s.activeLane with
  | none => s
  | some l =>
    let other := if 3 ≤ s.seam.standby then
        (let es := s.shadow.ledger s.shadow.commit.flying; some (breachedEquations es ||| s.seam.standbyBreach, es))
      else none
    let standbyMask := other.map (·.1)
    let mine := breachedEquations (s.img.ledger s.flying)
    let s := s.edit (fun im => let im := im.survey s.flying l.code other; { im with commit := { im.commit with survey := false } })
    let s := if standbyMask.getD 0 ≠ 0 && mine = 0 then s.unqualify 3 else s
    let after := match s.seam.copyDone with | some f => decide (f ≤ s.img.now) | none => false
    let same := !s.seam.digestLive && !s.seam.digestLatent
    let s := if 3 ≤ s.seam.standby && same then s.edit (fun im => im.setReg 0x2205 3 0) else s
    let ok := s.seam.standby = 3 && s.seam.unbroken && after && same && mine = 0 && standbyMask.getD 0 = 0
    let s := s.onSeam (fun m => { m with digestLive := false, digestLatent := false, standbyBreach := 0 })
    if ok then s.qualify else s

end Sys2Proof.Machine
end

