-- ==== Sys2Proof/Machine/LaneOps.lean ====
section
/-! DEFINITION. The lanes: start phases (R364 to R369), failed starts and slots (R370 to R376), lane faults (R357, R358,
R375), run-time injection (R362), power good and the failure of the logic supply. -/

namespace Sys2Proof.Machine

/-! ## What a lane keeps -/

/-- The persistent set a lane holds in its FRAM. -/
def State.framOf (s : State) (l : Lane) : Image := if l == s.owner then s.committed else s.shadow

/-- Sets marked for default and the mode selected take effect in both lanes (R521, R525). -/
def State.takeBoth (s : State) : State :=
  let own := s.committed.bothStart (s.nor.get s.owner)
  let other := s.shadow.bothStart (s.nor.get s.owner.other)
  { s with
    committed := own
    shadow := other
    nor := (s.nor.on s.owner (fun _ => own.stored)).on s.owner.other (fun _ => other.stored) }

/-- A store is mounted (R407): 0 by headers, 1 by a scan, 2 failed. Records of the queue that never reached NAND count as
lost at this start, with the first of them. -/
def Store.mounted (x : Store) (method : Nat) : Store :=
  { x with
    st := if method = 2 then 4 else 1, newest := (if x.queue.isEmpty then x.newest else x.queue.headD 1 - 1)
    mount := method, lost := x.queue.length, firstLost := x.queue.headD 0, queue := [] }

/-- A lane begins a start at phase 2. `free`: the limit of R371 does not hold it back. -/
def State.beginStart (s : State) (l : Lane) (kind : Nat) (free : Bool) : State :=
  let s := s.onLane l (fun x => { x with
    st := .starting, phase := 2, active := false, faulted := false, withhold := false, kind := kind, freeStart := free,
    result := none, opAt := none, recordDue := false, startTick := s.tick
    opBase := 10 * resumeOp (s.framOf l).clk.opSaved, opTick := s.tick, overran := none })
  s.onBuckle (fun b => { b with
    strobe := b.strobe.on l (fun _ => false), before := b.before.on l (fun _ => false), present := b.present.on l (fun _ => 0),
    qualified := b.qualified.on l (fun _ => false), request := b.request.on l (fun _ => false) })

/-- A lane halts in its boot ROM (R374). -/
def State.halt (s : State) (l : Lane) : State := s.onLane l (fun x => { x with st := .halted, active := false })

/-! ## Lane faults -/

/-- The payload of a power-up record (R395); `readback`: the record follows a grant from no grant. -/
def State.powerUpPayload (s : State) (l : Lane) (readback : Bool) : Bytes :=
  let im := s.img
  let x := s.lanes.get l
  let y := s.stores.get l
  let o := startObj l
  let f : Nat × Nat := match x.latch with | some f => (f.event, f.checker) | none => (0, 0)
  let ds := match x.result with | some r => r.durations | none => []
  [x.kind, l.code, im.reg 0x210D 3, im.reg 0x210D 4] ++ le 2 im.belt.cellMv ++
    [im.reg o 2, im.reg o 1, f.1, f.2, im.reg o 6, y.mount] ++ padTo 14 ((ds.map (le 2)).flatten) ++ le 2 (im.reg o 7) ++
    le 24 (if readback then s.hold.atStart else 0) ++ le 2 (if readback then im.reg 0x2206 5 else 0) ++ le 4 y.lost ++ le 6 y.firstLost ++
    le 4 x.version

/-- The power-up record of a lane's start waits for section R (R371, R395). -/
def State.powerUpRecord (s : State) (l : Lane) (trigger : Nat) (readback : Bool) : State :=
  let p := s.powerUpPayload l readback
  s.edit (fun im => im.draft ⟨1, 0x04, 0, trigger, 0, p⟩)

/-- The event of a fault latch that no other lane has reported is raised by the restarted lane, once (R357). -/
def State.latchEvent (s : State) (l : Lane) : State × Nat :=
  let x := s.lanes.get l
  match x.latch with
  | some f =>
    if (f.event = 7 || f.event = 13 || f.event = 14) && x.reported.1 = 0 then
      ((s.onLane l (fun x => { x with reported := (f.event, f.checker) })).report (fun im => im.occur f.event modScope ⟨0, f.checker, f.unit⟩),
        f.event)
    else (s, 0xFF)
  | none => (s, 0xFF)

/-- A failed start (R370, R371): its phase and count are kept, EV17 and its record, and the lane restarts at phase 2. -/
def State.startFailed (s : State) (l : Lane) (phase : Nat) : State :=
  let o := startObj l
  let s := s.report (fun im => ((im.setReg o 6 phase).bump o 0x0A).occur 17 modScope ⟨0, phase, l.code⟩)
  let r := s.latchEvent l
  (r.1.powerUpRecord l (if r.2 = 0xFF then 17 else r.2) false).beginStart l 2 false

/-- The counters of a fault report (R388). -/
def State.countFault (s : State) (l : Lane) (f : FaultLatch) : State :=
  let o := lockstepObj l
  s.report (fun im =>
    if f.event = 13 then (((im.bump o 1).setReg o 2 f.unit).setReg o 3 f.group).setReg o 4 f.checker
    else if f.event = 14 then im.bump o 6
    else im)

/-- A lane fault (R357): the lane stops strobing and halts, its fault latch is set, and its report goes out on every link
that is up. A fault in a start fails the start; one within 10 s of phase 9 makes it a failed start (R370). A lane that is
not granted is reset at once, by its LANE_RESTART. -/
def State.laneFault (s : State) (l : Lane) (event checker unit group : Nat) : State :=
  let x := s.lanes.get l
  if !s.powered || x.faulted then s
  else
    let c := s.img.clk
    let f : FaultLatch := ⟨event, checker, unit, group, c.frame, c.stitch⟩
    match x.st with
    | .starting =>
      ((s.countFault l f).onLane l (fun x => { x with latch := some f, reported := (0, 0) })).startFailed l x.phase
    | .operational | .lining =>
      let early := x.st = .operational && (match x.opAt with | some t => decide (c.opMs < t + 10000) | none => false)
      let s := s.countFault l f
      let s := if early then
          (s.report (fun im => ((im.setReg (startObj l) 6 9).bump (startObj l) 0x0A).occur 17 modScope ⟨0, 9, l.code⟩)).powerUpRecord l 17 false
        else s
      let s := s.onLane l (fun x => { x with
        faulted := true, latch := some f, reported := (0, 0),
        faults := if x.st = .operational then x.faults ++ [c.opMs] else x.faults })
      let s := s.onBuckle (fun b => { b with request := b.request.on l (fun _ => false) })
      [Link.one, Link.two].foldl (fun (s : State) k =>
        if s.seam.up k then
          s.sendOn l k (.fault ⟨event, checker, unit, group⟩) ⟨c.frame, 0, 1⟩ (some (c.faultPayload event checker unit group))
        else s) s
    | _ => s

/-- An uncorrectable memory error (R358): a lane fault, event 7 in the granted lane and 8 in the other. -/
def State.memoryFault (s : State) (l : Lane) : State :=
  let x := s.lanes.get l
  if !s.powered || x.faulted || x.st = .off then s
  else (s.report (fun im => im.bump (lockstepObj l) 9)).laneFault l (if s.granted == some l then 7 else 8) 0 0 0

/-- Faults of the last 3,600 s of operating time. -/
def LaneState.recentFaults (x : LaneState) (op : Nat) : Nat := (x.faults.filter (fun t => decide (op < t + 3600000))).length

/-- The other lane runs and this one is its standby no longer: EV08 until the lane runs again (R346, R375). -/
def State.standbyGone (s : State) (l : Lane) : State :=
  match s.activeLane with
  | some k =>
    if k = l then s
    else ((s.unqualify 5).onSeam (fun m => { m with standby := 0 })).edit (fun im => im.raise 8 modScope Source.zero)
  | none => s

/-- The reset of a faulted lane that is not granted (R357, R375, R383). -/
def State.restartLane (s : State) (l : Lane) : State :=
  let x := s.lanes.get l
  if !s.powered || !x.faulted || s.granted == some l then s
  else if x.st = .lining then
    (s.onLane l (fun x => { x with faulted := false, active := false })).onBuckle (fun b => { b with
      request := b.request.on l (fun _ => true), present := b.present.on l (fun _ => 0) })
  else
    let s := s.standbyGone l
    if s.img.reg 0x220B 3 ≤ x.recentFaults s.img.clk.opMs then
      s.onLane l (fun x => { x with st := .faultRate, faulted := false, active := false })
    else s.beginStart l 2 false

/-! ## Run-time injection (R362) -/

/-- Lane A becomes operational in the frame in which Lane B has: it counts as the first. -/
def State.twin (s : State) (l : Lane) : Bool :=
  l == .a && s.lanes.b.st == .operational && s.lanes.b.opAt == some s.img.clk.opMs

/-- The first due time of a lane that becomes operational: 600 s on, or 300 s after the other's next. -/
def State.firstInjection (s : State) (l : Lane) : Nat :=
  let y := s.lanes.get l.other
  if y.st = .operational && !s.twin l then y.injDue + 300000 else s.img.clk.opMs + 600000

/-- An injection that is due: in a frame that is no survey frame and carries nothing over, or 10 s late in any that is no
survey frame. -/
def State.inject (s : State) (l : Lane) (r : Injection) : State :=
  let x := s.lanes.get l
  let c := s.img.clk
  let carried := decide (0 < c.frame) && x.overran == some (c.frame - 1, true)
  let survey := c.frame % 64 == 0
  if !s.powered || x.st != .operational || x.faulted || c.opMs < x.injDue || survey || (carried && c.opMs < x.injDue + 10000) then s
  else
    let s := s.onLane l (fun x => { x with injDue := x.injDue + 600000 })
    match r with
    | .passed => (s.report (fun im => im.bump (lockstepObj l) 5)).onLane l (fun x => { x with injLast := c.opMs })
    | .rawMissing unit group checker => s.laneFault l 14 (wrap 8 checker) (wrap 8 unit) (wrap 8 group)
    | .residual unit group => s.laneFault l 13 3 (wrap 8 unit) (wrap 8 group)

/-! ## Slots (R365, R372, R373) -/

/-- The candidate slot of a lane, if it holds one. -/
def State.candidate? (s : State) (l : Lane) : Option Nat :=
  if s.slotState l 1 = 1 then some 1 else if s.slotState l 2 = 1 then some 2 else none

/-- The step an update names for a lane's slot. -/
def State.stepInfo (s : State) (l : Lane) (n : Nat) : StepInfo :=
  let x := s.lanes.get l
  ⟨l.code, n, (((x.slot n).header).map (· ++ (x.slot n).body)).getD [], x.version⟩

/-- The update under way ends where a lane falls back (R563, R568: result 6). -/
def Image.updateFallback (im : Image) : Image :=
  let u := im.net.upd
  if u.leap = .none && !u.windowUpdate then im
  else ((im.updateDone 0 6).bump 0x2808 2).onUpd (fun u => { u with leap := .none, windowUpdate := false })

/-- A candidate with two starts behind it is rejected, with the fallback's record and EV20. -/
def State.rejectCandidate (s : State) (l : Lane) : State :=
  match s.candidate? l with
  | some n =>
    if 2 ≤ s.img.reg (startObj l) 5 then
      let info := s.stepInfo l n
      s.report (fun im => ((im.setReg (startObj l) (2 + n) 3).setReg (startObj l) 5 0).updateStep 8 0 info |>.updateFallback)
    else s
  | none => s

/-- The slot the boot ROM chooses: the candidate, else the confirmed one; of two confirmed ones the one it last ran. -/
def State.chosenSlot (s : State) (l : Lane) : Nat :=
  match s.candidate? l with
  | some n => n
  | none =>
    let run := s.runningSlot l
    if (run = 1 || run = 2) && s.slotState l run = 2 then run
    else if s.slotState l 1 = 2 then 1 else if s.slotState l 2 = 2 then 2 else 1

/-- A slot is booted. -/
def State.boot (s : State) (l : Lane) (n : Nat) : State :=
  let h := ((s.lanes.get l).slot n).header
  let s := s.report (fun im =>
    let im := im.setReg (startObj l) 2 n
    if im.reg (startObj l) (2 + n) = 1 then im.setReg (startObj l) 5 (im.reg (startObj l) 5 + 1) else im)
  match h with
  | some h => s.onLane l (fun x => { x with version := headerVersion h, format := headerF h })
  | none => s

/-- A slot that fails verification. -/
def State.markUnverifiable (s : State) (l : Lane) (n : Nat) : State :=
  s.report (fun im => if im.reg (startObj l) (2 + n) = 0 then im else im.setReg (startObj l) (2 + n) 4)

/-- What the boot ROM checks of a header beside the signature: it names the ZD12, and the image is at most 12 MiB (R365). -/
def Slot.bootable (x : Slot) : Bool :=
  match x.header with
  | some h => ofLe ((h.drop 6).take 2) == 0x0D12 && decide (256 + ofLe ((h.drop 20).take 4) ≤ 12 * 2 ^ 20)
  | none => true

/-- Phase 3: the failed-start counter, the slot, its verification; `false`: the lane has halted. -/
def State.phaseImage (s : State) (l : Lane) (ok : Bool × Bool) : State × Bool :=
  let o := startObj l
  let n := s.img.reg o 1
  let limit := s.img.reg 0x220B 1
  let s := s.onLane l (fun x => { x with phase := 3 })
  if limit ≤ n && !(s.lanes.get l).freeStart then (s.halt l, false)
  else
    let s := (s.report (fun im => (im.setReg o 1 (min 15 (n + 1))).bump o 9)).rejectCandidate l
    let first := s.chosenSlot l
    let second := 3 - first
    let good := fun (k : Nat) => s.slotState l k != 0 && (if k = 1 then ok.1 else ok.2) && ((s.lanes.get l).slot k).bootable
    if good first then (s.boot l first, true)
    else if good second then ((s.markUnverifiable l first).boot l second, true)
    else
      let s := (s.markUnverifiable l first).markUnverifiable l second
      ((s.report (fun im => (((im.setReg o 1 limit).setReg o 6 3).bump o 0x0A).occur 17 modScope ⟨0, 3, l.code⟩)).halt l, false)

/-! ## The phases -/

/-- The lane's grant request (R330, R369, R341): with its persistent set current at once, else after the wait of R341. -/
def State.mayRequest (s : State) (l : Lane) : Bool := (s.lanes.get l).current

/-- Phase 9 (R364): strobes and the grant request; beside a running lane it is the standby, unqualified. -/
def State.becomeOperational (s : State) (l : Lane) : State :=
  let op := s.img.clk.opMs
  let due := s.firstInjection l
  let s := if s.twin l then s.onLane .b (fun x => { x with injDue := due + 300000 }) else s
  let s := s.report (fun im => im.setReg (startObj l) 7 (min 65535 ((s.tick - (s.lanes.get l).startTick) / 16)))
  let s := s.onLane l (fun x => { x with
    st := .operational, phase := 9, opAt := some op, injDue := due, injLast := op, recordDue := true, freeStart := false, waitFrom := s.tick })
  let ask := s.mayRequest l
  let s := s.onBuckle (fun b => { b with request := b.request.on l (fun _ => ask) })
  match s.activeLane with
  | some _ =>
    let r := ((s.onSeam (fun m => { m with standby := 1 })).edit (fun im => im.clearEv 8 modScope Source.zero)).latchEvent l
    (r.1.powerUpRecord l r.2 false).onLane l (fun x => { x with recordDue := false })
  | none => s

/-- A port has settled its rate, or is out of use. -/
def CanPort.settled (x : CanPort) : Bool := x.st != .detecting

/-- Phase 8: rate detection ends when every port has a rate, or by RATE_DETECTION_TIMEOUT. -/
def State.phaseRates (s : State) (l : Lane) : State :=
  let s := s.onLane l (fun x => { x with phase := 8 })
  if s.img.net.x7.settled && s.img.net.x8.settled then s.becomeOperational l else s

/-- Lanes that wait in phase 8 go on once every port has a rate. -/
def State.ratesFound (s : State) : State :=
  [Lane.a, Lane.b].foldl (fun (s : State) l =>
    let x := s.lanes.get l
    if x.st = .starting && x.phase = 8 then s.phaseRates l else s) s

/-- Phase 7 (R368): the hold cells and the gate-drive monitor as the lane has read them, both lane switches open unless a lane
is granted, the Buckle's rails and self-test, fresh samples from every receiver group. -/
def State.phaseReadback (s : State) (l : Lane) : State :=
  let s := s.onLane l (fun x => { x with phase := 7 })
  let ok := match (s.lanes.get l).result with | some r => r.readbackOk | none => false
  let p := s.img.permits
  let lanes := s.granted.isSome || !(p.sideA.laneClosed || p.sideB.laneClosed)
  let fresh := s.img.inp.stale.toList.all (fun n => decide (n < 8))
  if ok && lanes && fresh && s.buckle.agree && s.buckle.selfTest then s.phaseRates l else s.startFailed l 7

/-- The status block of phase 6 (R367). The spec gives its content and no layout. -/
def State.sendStatus (s : State) (l : Lane) : State :=
  let x := s.lanes.get l
  s.sendBlock l (.status ⟨s.img.reg 0x2102 2, x.version, x.format, x.current, x.phase, 0, none, none⟩) ⟨s.img.now, 0, 1⟩ none

/-- Lanes that wait in phase 6 go on once a link has trained. -/
def State.linksFound (s : State) : State :=
  [Lane.a, Lane.b].foldl (fun (s : State) l =>
    let x := s.lanes.get l
    if x.st = .starting && x.phase = 6 && s.seam.upCount ≠ 0 then (s.sendStatus l).phaseReadback l else s) s

/-- A lane runs its start phases, as far as it gets. -/
def State.laneStart (s : State) (l : Lane) (r : StartResult) : State :=
  let x := s.lanes.get l
  if !s.powered || x.st != .starting || x.phase ≠ 2 then s
  else
    let s := s.report (fun im => im.setReg 0x2906 3 0)
    let s := s.edit (fun im => im.measureCell r.cell)
    match s.phaseImage l r.slotOk with
    | (s, false) => s
    | (s, true) =>
      let s := s.onLane l (fun x => { x with result := some r, phase := 4 })
      match r.injection with
      | .rawMissing u g k => s.laneFault l 14 (wrap 8 k) (wrap 8 u) (wrap 8 g)
      | .residual u g => s.laneFault l 14 3 (wrap 8 u) (wrap 8 g)
      | .passed =>
        let s := s.onLane l (fun x => { x with phase := 5 })
        if !r.sramOk || !r.norOk then s.startFailed l 5
        else
          let s := s.onLane l (fun x => { x with current := x.current && r.framOk, phase := 6 })
          let s := s.onStore l (fun x => x.mounted (min 2 r.mount))
          let s := if r.link1 then s.linkUp .one else s
          let s := if r.link2 then s.linkUp .two else s
          if s.seam.upCount = 0 then s else ((s.sendStatus l).phaseReadback l).linksFound

/-- 800 ms without a trained link: the lane goes on alone (R367). -/
def State.seamLate (s : State) (l : Lane) : State :=
  let x := s.lanes.get l
  if x.st = .starting && x.phase = 6 then s.phaseReadback l else s

/-- 500 ms of phase 8 have passed. -/
def State.ratesLate (s : State) (l : Lane) : State :=
  let x := s.lanes.get l
  if x.st = .starting && x.phase = 8 then s.becomeOperational l else s

/-- A service-window update is complete once both lanes run confirmed slots (R566). -/
def State.windowDone (s : State) (l : Lane) : State :=
  let ok := fun (k : Lane) => s.slotState k (s.runningSlot k) = 2
  if s.img.net.upd.windowUpdate && ok l && ok l.other then
    s.report (fun im => ((im.bump 0x2808 1).setReg 0x2808 4 im.op).onUpd (fun u => { u with windowUpdate := false }))
  else s

/-- Ten seconds in phase 9 without a lane fault (R370, R371, R373, R560): the counter clears, a candidate slot is
confirmed, and its header may blow the fuse of the other key, which makes a slot signed with it unverifiable. -/
def State.cleanRun (s : State) (l : Lane) : State :=
  let x := s.lanes.get l
  let o := startObj l
  match x.opAt with
  | none => s
  | some t =>
    if x.st != .operational || x.faulted || s.img.clk.opMs < t + 10000 || s.img.reg o 1 = 0 then s
    else
      let n := s.runningSlot l
      let confirm := s.slotState l n = 1
      let h := ((x.slot n).header).getD []
      let info := s.stepInfo l n
      let gone := fun (k : Nat) => match (x.slot (3 - n)).header with | some h => (h.drop 18).headD 0 == k | none => false
      let s := s.report (fun im =>
        let im := im.setReg o 1 0
        if !confirm then im
        else
          let im := (im.setReg o (2 + n) 2).setReg o 5 0
          let im := if im.net.upd.leap = .none then im.updateStep 7 0 info else im
          if bitOf ((h.drop 19).headD 0) 0 then
            let other := if (h.drop 18).headD 0 = 1 then 1 else 0
            let im := im.setReg 0x2806 (1 + l.code) (im.reg 0x2806 (1 + l.code) ||| 2 ^ other)
            if gone (other + 1) then im.setReg o (5 - n) 4 else im
          else im)
      s.windowDone l

/-! ## Power good, power loss, restarts of both lanes -/

/-- The image whose samples stand while no lane runs. -/
def State.idleImage (s : State) (powerUp : Bool) : State :=
  { s with img := startImage s.committed (s.nor.get s.owner) s.img powerUp 0 (10 * resumeOp s.committed.clk.opSaved) }

/-- Both lanes restart (R333, R380): their frame counters restart from 0 (R197). -/
def State.restartBoth (s : State) (kind : Nat) (free : Bool) : State :=
  (s.beginStart .a kind free).beginStart .b kind free

/-- Power good (R234, R364): the backup flag and the seal latch are copied, the frame counter and the epoch are 0, the Buckle runs its self-test, both lanes start. -/
def State.powerGood (s : State) (dc : Bool) (vin : Nat) (plug : Nat) (ok : Bool) : State :=
  if s.powered then s
  else
    let s := s.takeBoth
    let s := s.note (fun im => ((im.bump 0x2102 2).setReg 0x2903 1 plug).setReg 0x220B 5 0)
    let flag := s.img.clk.backup
    let cover := s.img.belt.sealLatch
    let s := s.note (fun im => (im.setReg 0x210D 3 (b2n flag)).setReg 0x210D 4 (b2n cover))
    let hw := { s.img with
      net := Net.reset
      chans := s.img.chans.map (fun x => { x with out := false })
      tos := Vector.replicate 4 ⟨false, false⟩
      permits := { s.img.permits with mask := 0, maskRead := 0 }
      rcd := { s.img.rcd with fifo := [], drafts := [] }
      belt := { s.img.belt with input := if dc then 2 else 1, vin := vin } }
    let s := { s.dropWork with
      img := hw, powered := true, tick := 0, sealed := []
      buckle := { Buckle.reset with selfTest := ok }
      seam := { Seam.reset with link1 := 1, link2 := 1 }
      hold := Hold.reset, takeover := none, handoverAcked := false, rerun := false, drained := [], bus := BusMemory.reset
      stores := ⟨{ s.stores.a with peak := 0 }, { s.stores.b with peak := 0 }⟩
      lanes := ⟨{ s.lanes.a with latch := none, faults := [], statusAt := 0 }, { s.lanes.b with latch := none, faults := [], statusAt := 0 }⟩ }
    (s.idleImage true).restartBoth 1 true

/-- The logic supply fails (R487, R497): nothing runs, the bypass relays close, the Buckle and the hold cells lose what
they hold. -/
def State.supplyFail (s : State) : State :=
  if !s.powered then s
  else
    let s := s.note (fun im => ((im.setReg 0x2906 3 1).setReg 0x2906 1 0).setReg 0x2906 2 0)
    let stop := fun (x : LaneState) => { x with st := LaneSt.off, phase := 0, active := false, faulted := false, withhold := false, result := none }
    { s.dropWork with
      powered := false, sealed := [], buckle := Buckle.reset, seam := Seam.reset, hold := Hold.reset
      lanes := ⟨stop s.lanes.a, stop s.lanes.b⟩
      takeover := none, handoverAcked := false, rerun := false, drained := [], bus := BusMemory.reset }

/-- One further start of a halted lane (R376). -/
def State.restartHalted (s : State) (l : Lane) : State := s.beginStart l 2 true

/-! ## Lining mode (R377 to R385) -/

/-- The image Lining mode runs on: no doorway, axis, channel or loop work; the node is pre-operational (R378). -/
def State.liningImage (s : State) : State :=
  let s := s.idleImage false
  s.edit (fun im =>
    let im := im.setReg 0x2903 5 (if im.configured then 127 else 0)
    let im := im.eachChan (fun im c => im.onChan c (fun x => { x with out := im.creg c 0 2 == 1 && (im.door (chanDoor c)).bankPresent }))
    let im := { im with tos := im.tos.map (fun t => { t with on := false }), belt := { im.belt with converter := false } }
    allPorts.foldl (fun (im : Image) q => if (im.canPort q).st = .detecting then im else im.bootUp q) im)

/-- The payload of the Lining record (R379). -/
def State.liningPayload (s : State) (reason : Nat) : Bytes :=
  let im := s.img
  let slots := fun (l : Lane) => im.reg (startObj l) 3 * 16 + im.reg (startObj l) 4
  let ev := fun (l : Lane) => match (s.lanes.get l).latch with | some f => f.event | none => 0
  [reason, im.reg 0x2209 1, im.reg 0x220A 1, im.reg 0x2209 6, im.reg 0x220A 6, slots .a, slots .b, 0] ++
    le 4 (im.reg 0x2006 3) ++ [ev .a, ev .b]

/-- Lining mode is entered (R377): a lane has halted under R371 or R365, and the other has too or has sent no status block
for 10 s (R386). While the
other lane runs the module it stays single-lane (R374). -/
def State.liningEntry (s : State) : State :=
  let ha := s.lanes.a.st = .halted
  let hb := s.lanes.b.st = .halted
  let silent := fun (x : LaneState) => decide (x.statusAt + 160000 ≤ s.tick)
  if !s.powered || s.running || s.lining || !((ha && hb) || (ha && silent s.lanes.b) || (hb && silent s.lanes.a)) then s
  else
    let l : Lane := if ha then .a else .b
    let image := fun (l : Lane) => (s.lanes.get l).st = .halted && s.img.reg (startObj l) 6 = 3
    let reason := if image .a || image .b then 3 else if ha && hb then 1 else 2
    let s := s.report (fun im => ((im.setReg 0x2006 1 reason).bump 0x2006 3).occur 17 modScope ⟨0, 0, l.code⟩)
    let payload := s.liningPayload reason
    let s := s.edit (fun im => im.draft ⟨1, 0x0D, 0, 17, 0, payload⟩)
    let enter := fun (x : LaneState) => if x.st = .halted then { x with st := LaneSt.lining, active := false } else x
    let s := { s with lanes := ⟨enter s.lanes.a, enter s.lanes.b⟩ }
    let s := s.onBuckle (fun b => { b with request := ⟨b.request.a || ha, b.request.b || hb⟩ })
    s.liningImage

end Sys2Proof.Machine
end

