-- ==== Sys2Proof/Machine/Grants.lean ====
section
/-! DEFINITION. The Buckle's grant and what follows a change of it (R327 to R350): revocation, switchover, hold cells,
the grant from no grant, rail disagreement, belief mismatch. -/

namespace Sys2Proof.Machine

/-! ## Hold cells (R339) -/

/-- Every cell holds its last drive. -/
def State.holdCells (s : State) : State :=
  { s with
    hold := { s.hold with
      st := 1, drive := s.img.chans.map (·.out), outs := s.img.tos.map (·.on), epoch := s.epoch, stitches := 0 }
    img := { s.img with chans := s.img.chans.map (fun x => { x with held := true }) } }

/-- The channels a vector of drives has on, bit c−1. -/
def driveMask (v : Vector Bool 192) : Nat := bitsToNat v.toList

/-- The cells' safe states (R130, R263, R304): coils off, channels in theirs, train outputs off. -/
def Image.safeOutputs (im : Image) : Image :=
  let im := im.eachChan (fun im c =>
    im.onChan c (fun x => { x with out := im.creg c 0 2 == 1 && (im.door (chanDoor c)).bankPresent, held := false }))
  { im with
    tos := im.tos.map (fun t => { t with on := false })
    axes := im.axes.map (fun x => { x with drive := { x.drive with applied := bridgesOpen, loaded := bridgesOpen } }) }

/-- Both lane switches open: no lane is granted to command them (R77). -/
def Image.openLoops (im : Image) : Image :=
  [Side.a, Side.b].foldl (fun (im : Image) k => im.onSide k (fun x => { x with command := false, laneClosed := false })) im

/-! ## Changes of the grant -/

/-- Moving doorways (R350). -/
def Image.movingDoors (im : Image) : Nat := ((allFin 12).filter (fun d => !(im.door d).leaves.atRest || !(im.door d).step.atRest)).length

/-- The actions of the last applied commit that have not taken effect (R335). -/
def Image.openActions (im : Image) : Nat := ((im.commit.out.map (·.actions)).flatten).length

/-- No lane is granted (R329, R333): the epoch advances, the cells hold, the loops open, the hold window runs. -/
def State.dropGrant (s : State) : State :=
  let s := (s.holdCells.strand).edit Image.openLoops
  let s := s.onBuckle (fun b => { b with
    railP := 0, railQ := 0, epoch := b.epoch + 1, missing := 0, window := some 0, qualified := ⟨false, false⟩ })
  { (s.note (fun im => im.bump 0x2201 4)).dropWork with takeover := none, handoverAcked := false, rerun := false }

/-- The grant moves to the other lane (R329, R334). -/
def State.moveTo (s : State) (l : Lane) (cause : Nat) : State :=
  let old := match s.granted with | some k => k.code | none => 0
  let c := s.img.clk
  let discarded := (s.seam.rx.map (fun r => r.got.length)).foldl (· + ·) 0
  let was := match s.granted with | some k => (s.lanes.get k).reported | none => (0, 0)
  let t : Takeover := ⟨cause, old, l.code, s.epoch, wrap 16 (s.buckle.epoch + 1), c.frame, c.stitch, decide (3 ≤ c.stitch), s.seam.lastApplied,
    discarded, s.shadow.openActions, s.img.movingDoors, 0, was.1, was.2, 0, false, false, none⟩
  let s := s.holdCells.strand
  let s := s.onBuckle (fun b => { b with
    railP := l.code, railQ := l.code, epoch := b.epoch + 1, missing := 0, window := none, qualified := ⟨false, false⟩ })
  { s with takeover := some t, release := none, landing := none, work := none }

/-- The granted lane's strobe has been missing at 4 boundaries (R329): the other lane is granted where its line is set
and it strobed at the boundary before, else none. -/
def State.revoke (s : State) : State :=
  match s.granted with
  | none => s
  | some l =>
    if s.buckle.missing < 4 then s
    else if s.buckle.qualified.get l.other && s.buckle.before.get l.other && !s.lining then
      s.moveTo l.other (if (s.lanes.get l).withhold then 3 else 1)
    else s.dropGrant

/-- The rails disagree or hold the invalid code (R333). -/
def State.railFault (s : State) : State :=
  if !s.powered || s.buckle.latched then s
  else
    let s := s.report (fun im => (im.bump 0x2201 5).latch 12 modScope Source.zero false)
    s.dropGrant.onBuckle (fun b => { b with latched := true })

/-- 50 ms after the last grant dropped (R304, R333): coils off, safe states. After a rail disagreement both lanes
restart, and the self-test frees the rails and EV12. -/
def State.windowEnd (s : State) : State :=
  match s.buckle.window with
  | none => s
  | some n =>
    if n < 800 then s
    else
      let s := s.onBuckle (fun b => { b with window := none })
      let s := [Lane.a, Lane.b].foldl (fun (s : State) l => s.onLane l (fun x => { x with waitFrom := s.tick })) s
      let s := { s with hold := { s.hold with st := 2 } }
      let s := s.edit (fun im => im.safeOutputs)
      let s := s.note (fun im => im.setReg 0x2206 2 (min 65535 s.hold.stitches))
      if s.buckle.latched then
        let s := s.restartBoth 3 false
        let s := s.onBuckle (fun b => { b with latched := false, selfTest := true })
        s.note (fun im => im.release 12 modScope)
      else s

/-- A role that differs from the grant line (R332): an active lane whose line is off, and a standby whose line is on with
no new epoch, demote themselves. -/
def State.belief (s : State) (l : Lane) : State :=
  let x := s.lanes.get l
  let lost := x.active && s.granted != some l
  let stray := !x.active && s.granted == some l && s.takeover.isNone && x.st = .operational
  if !s.powered || x.faulted || !(lost || stray) then s
  else
    let s := s.onLane l (fun x => { x with active := false, withhold := stray })
    let s := s.report (fun im => (im.bump 0x2200 8).occur 15 modScope ⟨0, 0, l.code⟩)
    let s := s.report (fun im => (im.setReg 0x2204 4 7).bump 0x2204 5)
    s.onSeam (fun m => { m with standby := if s.standbyUp then 1 else 0 })

/-! ## The image of a new active (R298, R306, R335) -/

/-- A port of the new active (R450): its transmit error counter starts at 0, so that it is not bus-off; pending requests end as cancelled; those still pending in the controller are submitted
again with their tags (R433, R479). -/
def Image.takePort (im : Image) (hw : Image) (q : Port) : Image :=
  let old := (im.canPort q).boxes
  let x := hw.canPort q
  let im := im.bumpBy (canLedger q) 3 (im.canPort q).pending
  let im := im.onPort q (fun y => { x with
    st := if x.st = .busOff then .active else x.st
    activeSince := if x.st = .busOff then some im.now else x.activeSince
    boxes := Vector.replicate 32 none, emcyQueue := y.emcyQueue, hbTag := y.hbTag, bootDue := y.bootDue && x.bootDue })
  let im := im.setErrors q 0 (im.preg q 0x0B)
  (allFin 32).foldl (fun (im : Image) k =>
    match old.get k with
    | some r => if x.boxes.get k = some r then im.submit q k r else im
    | none => im) im

/-- The image a new active resumes from: its last applied commit, with what the hardware and its own slices hold. The
channels' cells hold their drive, and cycles in progress show the switchover. `anew`: the frame of the grant is decided
anew, its boundary among it. -/
def Image.takeOver (sh hw : Image) (anew : Bool) : Image :=
  let r := if anew then (sh.resume hw).publishAll else sh.resume hw
  let r := if anew then { r with clk := { r.clk with gc := sh.clk.gc, core := sh.clk.core }, belt := { r.belt with level := sh.belt.level } } else r
  let im : Image := { r with
    doors := r.doors.map (fun w => { w with
      takenOver := true, cycle := w.cycle.map (fun c => { c with switchover := true }) })
    chans := r.chans.map (fun x => { x with held := true })
    inp := { r.inp with other := none }
    commit := { sh.commit with singleLane := true, handover := false, flying := 0
                               out := sh.commit.out.map (fun c => if hw.commit.out.any (fun x => x.frame == c.frame) then c else { c with answers := [] }) } }
  let im := im.bumpBy 0x260C 1 sh.commit.flying
  let im := (im.takePort hw .x7).takePort hw .x8
  im.net.bb.tcp.foldl (fun (im : Image) p => (im.send (.tcpReset p)).tcpClose p) im

/-- The requests a new active drains anew (R545): those after the last commit it has applied; a write that a discarded
commit carried is lost in native mode (R512). -/
def BusMemory.takeOver (b : BusMemory) (overlay : Bool) (applied frame : Nat) : BusMemory :=
  let again := b.requests.filter (fun x => decide (applied < x.1))
  ⟨[], [], again.map (fun x => (x.2.1, x.2.2.1, x.2.2.2, !overlay && decide (x.1 ≤ frame)))⟩

/-- What the new active saw the old one send after the last commit it has applied, heeded in its first frame; a request
pending in that commit and sent since is accounted for (R545). -/
def Image.takeEcho (im sh hw : Image) (b : BusMemory) (anew : Bool) : Image :=
  let seen := b.sent.filter (fun x => decide (sh.now < x.1))
  let first := if anew then hw.now else hw.now + 1
  let echo := seen.map (fun x => (first, x.2.1, x.2.2))
  let gone := allPorts.flatMap (fun q => (allFin 32).filterMap (fun k =>
    match (sh.canPort q).boxes.get k with
    | some r => if r.answers && (hw.canPort q).boxes.get k != some r then some (first, q, r.id, r.data) else none
    | none => none))
  let left := gone.foldl (fun (xs : List (Nat × Port × Nat × Bytes)) g => dropFirst (fun e => e == g) xs) echo
  { im with net := { im.net with co := { im.net.co with echo := left } } }

/-- The standby granted with a new epoch takes over (R335). -/
def State.switchover (s : State) : State :=
  match s.granted, s.takeover with
  | some l, some t =>
    let x := s.lanes.get l
    if l == s.owner || t.taken || x.st != .operational || x.faulted then s
    else
      let y := s.lanes.get l.other
      let hw := match s.trail with | some t => s.img.ofSlices t | none => s.img
      let again := (s.drained.filter (fun d => decide (s.shadow.now < d.1))).map (·.2)
      let im := s.shadow.takeOver hw (decide (t.stitch < 3))
      let im := { im with due := (again ++ hw.due).filter (fun d => !(d.tcp || d.path == Path.sdo1 || d.path == Path.sdo2)) }
      let im := im.takeEcho s.shadow hw s.bus (decide (t.stitch < 3))
      let im := (im.bump 0x2200 4).setReg 0x2200 5 t.cause
      let im := im.occur 9 modScope ⟨0, t.cause, 0⟩
      let im := if t.cause = 2 then im.setReg 0x2201 7 1
        else
          let im := im.occur 7 modScope ⟨0, y.reported.1, 0⟩
          let im := if y.reported.1 = 13 || y.reported.1 = 14 then im.occur y.reported.1 modScope ⟨0, y.reported.2, 0⟩ else im
          if hw.commit.handover then im.setReg 0x2201 7 3 else im
      let im := im.raise 11 modScope Source.zero
      let s := s.onLane l (fun x => { x with active := true })
      let s := s.onLane l.other (fun x => if t.cause = 2 then { x with active := false }
        else { x with reported := if x.reported.1 = 0 then (7, 0) else x.reported })
      let up := (s.lanes.get l.other).st = .operational && !(s.lanes.get l.other).faulted
      let s := s.onSeam (fun m => { m with
        standby := if up then 1 else 0, sections := 0, copyNext := none, copyDone := none, rx := [], unbroken := false })
      { s.dropWork with
        img := im, committed := s.shadow, shadow := s.committed, owner := l, sealed := [], drained := [], bus := s.bus.takeOver s.img.overlay s.shadow.now hw.now, handoverAcked := false, rerun := decide (t.stitch < 3), takeover := some { t with taken := true } }
  | _, _ => s

/-- The first commit of a new active has taken effect: the hold release may follow (R337). -/
def State.firstCommit (s : State) : State :=
  match s.takeover with
  | some t =>
    if t.taken && !t.committed then
      { s with takeover := some { t with committed := true } }.edit (fun im => im.eachChan Image.seeChan)
    else s
  | none => s

/-- The hold release (R337): each cell's drive is compared with the committed output and takes the active's drive. -/
def State.holdRelease (s : State) : State :=
  match s.takeover with
  | none => s
  | some t =>
    if !t.committed || t.released.isSome then s
    else
      let diff := (allFin 192).filter (fun c => s.hold.drive.get c != (s.img.chan c).out)
      let outs := (allFin 4).filter (fun k => s.hold.outs.get k != (s.img.tos.get k).on)
      let n := diff.length + outs.length
      let mask := diff.foldl (fun m c => m + 2 ^ c.val) 0
      let s := s.edit (fun im => { im.bumpBy 0x2206 3 n with chans := im.chans.map (fun x => { x with held := false }) })
      let s := s.edit (fun im => im.setReg 0x2206 2 (min 65535 s.hold.stitches))
      { s with
        hold := { s.hold with st := 0, drive := s.img.chans.map (·.out), outs := s.img.tos.map (·.on) }
        takeover := some { t with released := some (min 255 t.age, min 255 n, mask) } }

/-- The payload of the switchover record (R350). -/
def Takeover.payload (t : Takeover) : Bytes :=
  let r := t.released.getD (0, 0, 0)
  [t.cause, t.old * 16 + t.new] ++ le 2 t.oldEpoch ++ le 2 t.newEpoch ++ [0, 0] ++ le 8 t.frame ++
    [t.stitch, b2n t.firstNext, r.1, r.2.1] ++ le 8 t.lastApplied ++ le 2 t.discarded ++
    [min 255 t.actions, t.moving] ++ le 4 t.stale ++ [t.report, t.checker] ++ le 24 r.2.2

/-- The first frame that begins after the hold release writes the switchover record. -/
def State.switchoverRecord (s : State) : State :=
  match s.takeover with
  | some t =>
    if t.released.isSome then { s.edit (fun im => im.draft ⟨1, 0x0A, 0, 9, 0, t.payload⟩) with takeover := none } else s
  | none => s

/-! ## Handover (R334) -/

/-- The boundary that begins the frame after the one whose commit carries the handover flag: the grant moves if that
commit has been acknowledged; else the handover is discarded. -/
def State.moveGrant (s : State) : State :=
  match s.activeLane with
  | none => s
  | some l =>
    let c := s.img.commit
    let flagged := c.out.any (·.handover)
    let drop := fun (s : State) => { s.edit (fun im =>
      { im.setReg 0x2201 7 3 with commit := { im.commit with handover := false, out := im.commit.out.map (fun c => { c with handover := false }) } })
        with handoverAcked := false }
    if !c.handover then s
    else if s.handoverAcked && s.qualified then s.moveTo l.other 2
    else if flagged || s.handoverAcked || c.singleLane then drop s
    else s

/-! ## The grant from no grant (R330, R340) -/

/-- The lane the Buckle grants: strobed at 4 boundaries, asking; Lane A first. -/
def State.applicant (s : State) : Option Lane :=
  let b := s.buckle
  let ok := fun (l : Lane) =>
    let x := s.lanes.get l
    (x.st == .operational || x.st == .lining) && !x.faulted && !x.withhold && decide (4 ≤ b.present.get l) && b.request.get l
  if !s.powered || b.granted.isSome || b.railP ≠ 0 || b.railQ ≠ 0 || b.latched || !b.selfTest || b.window.isSome then none
  else if ok .a then some .a else if ok .b then some .b else none

/-- Both rails take a lane's code, with a new epoch. -/
def State.grantNew (s : State) (l : Lane) : State :=
  let s := s.onBuckle (fun b => { b with railP := l.code, railQ := l.code, epoch := b.epoch + 1, missing := 0, window := none })
  let s := s.strand.onLane l (fun x => { x with active := true, withhold := false })
  if l == s.owner then s else { s with owner := l, committed := s.shadow, shadow := s.committed }

/-- A lane's first frame after a grant from no grant (R340); one whose persistent set was not current starts a new basis
(R341, R439). -/
def State.grantFirst (s : State) (l : Lane) : State :=
  let old := s.epoch
  let hw := s.img
  let s := s.grantNew l
  let s := { s with hold := { s.hold with atStart := driveMask s.hold.drive } }
  let count := s.tick - (s.lanes.get l).startTick
  let op := max hw.clk.opMs ((s.lanes.get l).opMs s.tick)
  let im := startImage s.committed (s.nor.get l) hw false count op
  let im := im.setReg 0x2903 5 (if im.configured then 127 else 0)
  let im := if (s.lanes.get l).current then im else im.setReg 0x260D 1 3
  let im := im.readback (fun c => s.hold.drive.toList.getD c false)
  let im := im.setReg 0x2206 5 (min 65535 s.hold.stitches)
  let im := im.setReg 0x2200 5 4
  let im := (im.bump 0x2200 4).occur 9 modScope ⟨0, 4, 0⟩
  let im := im.raise 11 modScope Source.zero
  let im := allPorts.foldl (fun (im : Image) q => if (im.canPort q).transmits then im.bootUp q else im) im
  let im := { im with chans := im.chans.map (fun x => { x with held := true }) }
  let t : Takeover := ⟨4, 0, l.code, old, s.epoch, im.clk.frame, im.clk.stitch, false, s.committed.now, 0, 0, 0, 0, 0, 0, 0, true, false, none⟩
  let up := (s.lanes.get l.other).st = .operational && !(s.lanes.get l.other).faulted
  let s := { s.dropWork with
    img := im, sealed := [], drained := [], bus := BusMemory.reset, rerun := true, handoverAcked := false, takeover := some t
    hold := { s.hold with st := 1 } }
  let s := s.onSeam (fun m => { m with standby := if up then 1 else 0, sections := 0, copyNext := none, copyDone := none, unbroken := false })
  let record := fun (s : State) (k : Lane) (rb : Bool) =>
    if (s.lanes.get k).recordDue then
      let r := s.latchEvent k
      (r.1.powerUpRecord k r.2 rb).onLane k (fun x => { x with recordDue := false })
    else s
  (record (record s l true) l.other false).linkEvent

/-- A lane in Lining mode is granted (R378). -/
def State.grantLining (s : State) (l : Lane) : State :=
  let same := l == s.owner
  let s := s.grantNew l
  let s := { s with takeover := none, hold := { s.hold with st := 0 } }
  if same then s else s.liningImage

/-- The Buckle grants the first lane that qualifies (R330). -/
def State.grantFromNone (s : State) : State :=
  match s.applicant with
  | none => s
  | some l => if (s.lanes.get l).st = .lining then s.grantLining l else s.grantFirst l

end Sys2Proof.Machine
end

