-- ==== Sys2Proof/Machine/Leapfrog.lean ====
section
/-! DEFINITION. The update commands that concern the lanes: prepare, verify, leapfrog, rollback, abort and the
service-window update (R561 to R566, R572 to R575). -/

namespace Sys2Proof.Machine

/-- Command 1: both idle slots are being erased (R561). -/
def State.updatePrepare (s : State) : State := s.edit (fun im => im.prepare)

/-- The erase is complete: each idle slot is empty and ready for loading. -/
def State.prepareComplete (s : State) : State :=
  if s.img.reg 0x2800 2 ≠ 1 then s
  else
    let wipe := fun (s : State) (l : Lane) =>
      let n := s.idleSlot l
      let s := s.edit (fun im => im.setReg (startObj l) (2 + n) 0)
      s.onLane l (fun x => if n = 2 then { x with slot2 := ⟨none, []⟩ } else { x with slot1 := ⟨none, []⟩ })
    (wipe (wipe s .a) .b).edit (fun im => im.prepareDone)

/-- The loaded image's header is written to a lane's idle slot, which becomes candidate. -/
def State.writeHeader (s : State) (l : Lane) : State :=
  let n := s.idleSlot l
  let load := s.img.net.upd.load
  let held := if s.img.net.upd.lone && l != s.server then load.take (s.img.reg 0x2801 4) else load
  let slot : Slot := ⟨some (load.take 256), held.drop 256⟩
  let s := s.onLane l (fun x => if n = 2 then { x with slot2 := slot } else { x with slot1 := slot })
  s.edit (fun im => (im.setReg (startObj l) (2 + n) 1).setReg (startObj l) 5 0)

/-- What the update's steps name: the lane's slot concerned, and the image loaded or taken back to. -/
def State.leapInfo (s : State) (l : Lane) (n : Nat) : StepInfo :=
  let x := s.lanes.get l
  ⟨l.code, n, (((x.slot n).header).map (· ++ (x.slot n).body)).getD s.img.net.upd.load, x.version⟩

/-- Command 2: verification in each lane (R560, R562); in Lining mode a pass writes the headers. -/
def State.updateVerify (s : State) : State :=
  let load := s.img.net.upd.load
  let h := load.take 256
  let ra := verifyImage load (s.img.reg 0x2806 2)
  let rb := verifyImage load (s.img.reg 0x2806 3)
  let l := s.server
  let info : StepInfo := ⟨l.code, s.idleSlot l, load, (s.lanes.get l).version⟩
  let s := s.edit (fun im => im.updateStep 1 0 info)
  let r := if ra ≠ 0 then ra else rb
  if r ≠ 0 then s.edit (fun im => (im.updateStep 9 r info).updateDone 0 r)
  else
    let s := s.edit (fun im => ((im.updateStep 2 0 info).updateDone 3 0).showLoaded h)
    if s.lining then
      let s := (s.writeHeader .a).writeHeader .b
      s.edit (fun im => (im.updateStep 2 0 (s.leapInfo .a (s.idleSlot .a))).updateStep 2 0 (s.leapInfo .b (s.idleSlot .b)))
    else s

/-- The step of a leapfrog or rollback under way. -/
def Image.setLeap (im : Image) (x : Leap) : Image := im.onUpd (fun u => { u with leap := x })

/-- A running standby restarts at phase 2 (R346, cause 7). -/
def State.restartStandby (s : State) (l : Lane) : State :=
  let s := s.unqualify 7
  (s.onSeam (fun m => { m with standby := 1 })).beginStart l 2 false

/-- The update ends with step 10 and a result (R563, R565). -/
def State.leapAbort (s : State) (code : Nat) : State :=
  let l := s.server
  let info := s.leapInfo l (s.idleSlot l)
  s.edit (fun im => (((im.updateStep 10 code info).updateDone 0 code).setLeap .none).bump 0x2808 2)

/-- Lane `l` is put on the new image: its header is written, or in a rollback its previous slot is marked as candidate, and
it restarts (R563, R565). -/
def State.leapRestart (s : State) (l : Lane) (rollback : Bool) : State :=
  let s := if rollback then s.edit (fun im => (im.setReg (startObj l) (2 + s.idleSlot l) 1).setReg (startObj l) 5 0) else s.writeHeader l
  s.restartStandby l

/-- Command 3 or 4 is accepted: step 3. After an interruption, the steps already reached are not repeated (R572): a lane
that runs the loaded image does not restart again, and once the active runs it the other lane alone is left. -/
def State.leapBegin (s : State) (rollback : Bool) : State :=
  match s.activeLane with
  | none => s
  | some l =>
    let v := headerVersion (s.img.net.upd.load.take 256)
    let again := s.img.reg 0x2800 2 = 6 && v ≠ 0
    let s := s.edit (fun im => im.updateDone (if rollback then 5 else 4) (im.reg 0x2800 3))
    if rollback then (s.edit (fun im => im.setLeap (.running true 3 l.other false))).leapRestart l.other true
    else if again && (s.lanes.get l).version = v then
      let s := s.edit (fun im => im.setLeap (.running false 6 l false))
      if (s.lanes.get l.other).version = v then s else s.leapRestart l.other false
    else if again && (s.lanes.get l.other).version = v then s.edit (fun im => im.setLeap (.running false 4 l.other false))
    else (s.edit (fun im => im.setLeap (.running false 3 l.other false))).leapRestart l.other false

/-- A lane's running slot is confirmed. -/
def State.confirmed (s : State) (l : Lane) : Bool := s.slotState l (s.runningSlot l) = 2

/-- Every condition of the step under way holds (R563). -/
def State.leapReached (s : State) (step : Nat) (first : Lane) : Bool :=
  match step with
  | 3 => (s.lanes.get first).st = .operational && !(s.lanes.get first).faulted
  | 4 => s.qualified
  | 7 => s.confirmed first
  | 5 => s.activeLane == some first
  | _ => (s.lanes.get first.other).st = .operational && s.qualified && s.confirmed first.other

/-- A step is complete: its record and EV20, and the next step (R563). A step that failed ends the update; so does
command 5, at the boundary between two steps. -/
def State.leapStep (s : State) (ok : Bool) : State :=
  match s.img.net.upd.leap with
  | .none => s
  | .running rollback step first stop =>
    if !ok then s.leapAbort (if step = 4 then 5 else 6)
    else if !s.leapReached step first then s
    else
      let lane := if step = 6 then first.other else first
      let s := s.edit (fun im => im.updateStep step 0 (s.leapInfo lane (s.runningSlot lane)))
      let go := fun (s : State) (n : Nat) => s.edit (fun im => im.setLeap (.running rollback n first stop))
      if step = 6 then
        s.edit (fun im =>
          let im := ((im.updateDone 0 0).setLeap .none).setReg 0x2808 4 im.op
          if rollback then im.bump 0x2808 3 else im.bump 0x2808 1)
      else if stop then s.leapAbort 8
      else match step with
        | 3 => go s 4
        | 4 => go s 7
        | 7 => (go s 5).edit (fun im => { im with commit := { im.commit with handover := true } })
        | _ => (go s 6).leapRestart first.other rollback

/-- Command 5: a load ends at once, a leapfrog at its next step boundary (R565). -/
def State.updateAbort (s : State) : State :=
  match s.img.net.upd.leap with
  | .running r n f _ => s.edit (fun im => im.setLeap (.running r n f true))
  | .none => s.leapAbort 8

/-- Command 6: both headers are written, and both lanes restart on their candidates (R566). -/
def State.windowUpdate (s : State) : State :=
  let s := (s.writeHeader .a).writeHeader .b
  let a := s.img.reg 0x2209 (2 + s.idleSlot .a)
  let s := s.note (fun im =>
    (im.onUpd (fun u => { u with windowUpdate := true, windowAt := s.img.net.upd.windowAt })).updateDone 0 0)
  let keep := fun (s : State) (l : Lane) => s.note (fun im => (im.setReg (startObj l) (2 + s.idleSlot l) a).setReg (startObj l) 5 0)
  ((keep (keep s .a) .b)).restartBoth 3 true

/-- A chunk's report has not come within 500 ms (R561): the standby is unqualified, and the load goes on. -/
def State.chunkLate (s : State) : State :=
  match s.img.net.upd.chunkSince with
  | some t =>
    if s.img.now < t + 500 then s
    else
      let p := s.img.net.upd.chunkPath
      let s := if s.qualified then s.unqualify 5 else s
      let s := s.edit (fun im => im.onUpd (fun u => { u with lone := true, chunkSince := none, chunkPath := none }))
      match p with
      | some p => s.edit (fun im => im.reply p 0x2801 2 0 [])
      | none => s
  | none => s

/-- The standby's byte count (R561): a chunk it has written too is answered. -/
def State.bytesReported (s : State) (n : Nat) : State :=
  let s := s.edit (fun im => im.setReg 0x2801 4 n)
  match s.img.net.upd.chunkSince with
  | some _ =>
    if n = s.img.net.upd.load.length then
      let p := s.img.net.upd.chunkPath
      let s := s.edit (fun im => im.onUpd (fun u => { u with chunkSince := none, chunkPath := none }))
      (match p with
       | some p => s.edit (fun im => im.reply p 0x2801 2 0 [])
       | none => s)
    else s
  | none => s

end Sys2Proof.Machine
end

