-- ==== Sys2Proof/Machine/Legacy.lean ====
section
/-! DEFINITION. Overlay mode on X7: what the legacy objects read and which native value a legacy write sets (R536 to
R542), and the G-records (R548 to R551). -/

namespace Sys2Proof.Machine

/-! ## Values of the legacy objects (R538 to R542) -/

/-- Legacy state codes (R539). -/
def DState.legacy : DState → Nat
  | .locked => 0
  | .released => 1
  | .stepExtending | .opening => 2
  | .opened => 3
  | .warning => 4
  | .closing => 5
  | .reversing => 6
  | .closedUnlocked | .locking | .stepRetracting => 7
  | .faultHeld => 8
  | .isolated => 9
  | .emergency => 10
  | .manual => 11

/-- The doorways of a GDC-8. -/
def legacyDoors : List Door := (allFin 12).filter (fun d => decide (d.val < 8))

/-- The module status (R542), bit 0 first. -/
def State.legacyStatus (s : State) (im : Image) : Nat :=
  let any := fun (n : Nat) => (allFin 13).any (fun k => im.evActive n k)
  bitsToNat [im.healthy, decide (1 ≤ im.belt.level), im.belt.rest, legacyDoors.any (fun d => (im.door d).shown == .faultHeld),
    legacyDoors.any (fun d => im.obstacleActive d),
    im.commit.singleLane || any 5 || any 23 || any 53, s.lining]

/-- The train interface word (0x2002:01), bit 0 first. -/
def Image.legacyTrain (im : Image) : Nat :=
  let p := im.permits
  bitsToNat [p.relA.reading, p.relB.reading, p.zero.reading, p.traction, p.sideA.held, p.sideB.held, p.conducting .a, p.conducting .b]

/-- The legacy event word, Lining mode's code among them. -/
def State.legacyWord (s : State) (im : Image) : Nat := legacyEvents im.shownWord + (if s.lining then 2 ^ 11 else 0)

/-- A native signed value divided, in 16 bits. -/
def scaled (x : Int) (n : Nat) : Nat := encInt 16 (clampInt (-32768) 32767 (divRound x n))

/-- A native unsigned value divided, in 16 bits. -/
def scaledU (x : Nat) (n : Nat) : Nat := min 65535 (divRound (Int.ofNat x) n).toNat

/-- The legacy objects of a doorway. -/
def Image.legacyDoor (im : Image) (d : Door) (off sub : Nat) : Nat :=
  match off, sub with
  | 0, n => im.dreg d 0 n
  | 1, 1 => (im.door d).shown.legacy
  | 1, 2 => wrap 16 (im.doorFlags d)
  | 1, 3 => im.num .sdo1 (bBase d.val + 1) 5
  | 2, 1 => im.dreg d 2 1
  | 2, 2 => im.dreg d 2 2
  | 2, 3 => (match im.dreg d 0x11 1 with | 1 => 1 | 3 => 2 | _ => 0)
  | 3, 1 => im.dreg d 3 1
  | 3, 2 => im.dreg d 3 2
  | 3, 3 => im.dreg d 7 1
  | 3, 4 => im.dreg d 3 5
  | 3, 5 => im.dreg d 3 9
  | 4, 1 => im.dreg d 4 1
  | 4, 2 => scaledU (im.dreg d 4 2) 100
  | 4, 3 => im.dreg d 5 5
  | 4, 4 => im.dreg d 5 6
  | 4, 5 => im.dreg d 5 3
  | 5, 1 => wrap 32 (im.dreg d 0x0E 1)
  | 5, 2 => wrap 32 (im.dreg d 0x0E 8)
  | 5, 3 => min 65535 (im.dreg d 0x0F 3)
  | 5, 4 => min 65535 (im.dreg d 0x0F 4)
  | 5, 5 => im.dreg d 0x0F 5
  | _, _ => 0

/-- The legacy objects of an axis; a PMSM shows steps of 90° electrical (R541). -/
def Image.legacyAxis (im : Image) (a : Axis) (off sub : Nat) : Nat :=
  let x := im.axis a
  let pmsm := im.areg a 0 1 = 2
  match off, sub with
  | 0, 1 => if pmsm then 4 * im.areg a 0 3 else im.areg a 0 2
  | 0, 2 => scaledU (im.areg a 0 4) 100
  | 0, 3 => im.areg a 0 7
  | 0, 4 => im.areg a 5 2
  | 1, 1 => scaledU (im.areg a 1 1) 1000
  | 1, 2 => scaledU (im.areg a 1 2) 1000
  | 1, 3 => scaledU (im.areg a 1 3) 1000
  | 1, 4 => scaledU (im.areg a 1 5) 1000
  | 1, 5 => scaledU (im.areg a 6 1) 100
  | 2, 1 => encInt 32 (divRound x.plant.pos 100)
  | 2, 2 => scaled x.plant.vel 1000
  | 2, 3 => scaled x.plant.current 1
  | 2, 4 => scaled x.plant.angle 1
  | 2, 5 => scaled x.force.shown 1
  | 2, 6 => wrap 16 (im.axisFlags a)
  | _, _ => 0

/-- A channel shows as faulty: tripped, latched, open load or a sense fault. -/
def Channel.legacyFault (x : Channel) : Bool :=
  x.oc || x.ocLatched || x.thDT || x.thTJ || x.openLoad || x.senseFault

/-- The legacy objects of a channel bank. -/
def Image.legacyBank (im : Image) (d : Door) (sub : Nat) : Nat :=
  let bits := fun (f : Fin 16 → Bool) => bitsToNat (((allFin 16).filter (fun n => decide (n.val < 12))).map f)
  if sub ≤ 12 then (if h : 1 ≤ sub ∧ sub ≤ 12 then im.creg (chanOf d ⟨sub - 1, by omega⟩) 1 1 else 12)
  else if sub = 0x0D then bits (fun n => (im.chan (chanOf d n)).out)
  else if sub = 0x0E then bits (fun n => (im.chan (chanOf d n)).legacyFault)
  else bitsToNat (((im.door d).dis.toList.take 8).map (·.img))

/-! ## G-records (R548 to R551) -/

/-- Payload fields. -/
def Record.field (r : Record) (off n : Nat) : Nat := ofLe ((r.payload.drop off).take n)

/-- The first power-up record of each power good or reset of both lanes, in a list of ascending records: a lane's record of
the same start as the other's is none. -/
def firstPowerUps : List Record → (Nat × Nat × List Nat) → List Nat
  | [], _ => []
  | r :: rs, g =>
    if r.type ≠ 0x04 then firstPowerUps rs g
    else
      let kind := r.field 0 1
      let lane := r.field 1 1
      if kind = 2 then firstPowerUps rs g
      else if kind = g.1 && r.cycles = g.2.1 && !g.2.2.contains lane then firstPowerUps rs (kind, r.cycles, lane :: g.2.2)
      else r.seq :: firstPowerUps rs (kind, r.cycles, [lane])

/-- The kind of a record's G-record, 0: it has none. `ups`: the power-up records that count. -/
def Record.gKind (r : Record) (ups : List Nat) : Nat :=
  match r.type with
  | 0x01 | 0x0B => 1
  | 0x03 => if (legacyCode (r.field 0 1)).isSome then 2 else 0
  | 0x04 => if ups.contains r.seq then 3 else 0
  | 0x05 => 4
  | 0x07 => 5
  | _ => 0

/-- A stroke time between two phases of a door cycle. -/
def strokeTime (g off a b : Nat) : Nat :=
  if a = 0xFFFFFFFF || b = 0xFFFFFFFF then (Config.legacyStroke g off).toNat else wrap 16 (b - a)

/-- The first obstacle entry of a closing phase (2 or 3): position, force, source; an edge or the light curtain has no
legacy code, and its source is a free value. -/
def Record.closingObstacle (r : Record) (offs : List Nat) : Nat × Nat × Nat :=
  match offs.find? (fun o => r.field (o + 1) 1 ≠ 0 && (r.field o 1 = 2 || r.field o 1 = 3)) with
  | some o =>
    let src := r.field (o + 1) 1
    (wrap 16 (encInt 16 (divRound (decInt 32 (r.field (o + 4) 4)) 100)), r.field (o + 8) 2,
      if src = 1 then 1 else if src = 5 then 4 else (Config.legacyStroke (wrap 32 r.seq) 34).toNat % 256)
  | none => (0xFFFF, 0, 0)

/-- Bytes 14 to 39 of a G-record. -/
def Record.gBody (r : Record) (kind : Nat) : Bytes :=
  let g := wrap 32 r.seq
  let top := fun (a b : Nat) => le 2 (if decInt 16 a < decInt 16 b then b else a)
  if kind = 1 && r.type = 0x01 then
    let o := r.closingObstacle [64, 80, 96, 112]
    [r.field 6 1, wrap 7 (r.field 7 1)] ++ le 2 (strokeTime g 16 (r.field 20 4) (r.field 24 4)) ++
      le 2 (strokeTime g 18 (r.field 32 4) (r.field 36 4)) ++ le 2 (strokeTime g 20 (r.field 36 4) (r.field 40 4)) ++
      [r.field 10 1, r.field 11 1] ++ le 2 (r.field 52 2) ++ le 2 (r.field 54 2) ++ top (r.field 48 2) (r.field 50 2) ++
      le 2 o.1 ++ le 2 o.2.1 ++ [o.2.2, 0] ++ le 4 (r.field 0 6)
  else if kind = 1 then
    let o := r.closingObstacle [96]
    [1, 0x80] ++ le 2 (min 65535 (r.field 36 4)) ++ le 2 (min 65535 (r.field 44 4)) ++ [0, 0] ++
      [min 255 (r.field 26 2), min 255 (r.field 10 2)] ++ le 2 (r.field 52 2) ++ le 2 (r.field 54 2) ++
      top (r.field 48 2) (r.field 50 2) ++ le 2 o.1 ++ le 2 o.2.1 ++ [o.2.2, 0] ++ le 4 (r.field 20 6)
  else
    let x := match kind with
      | 2 => ((legacyCode (r.field 0 1)).getD 0xFF00) - 0xFF00
      | _ => r.field 0 1
    [x, 0] ++ zeros 24

/-- The 64 bytes of a G-record. -/
def Record.gBytes (r : Record) (kind : Nat) (utc : Int) : Bytes :=
  let head := le 4 (wrap 32 r.seq) ++ [kind, r.scope] ++ le 4 (r.op / 100) ++ le 4 (encInt 32 (Int.ofNat r.tai - utc))
  let bytes := padTo 62 (head ++ r.gBody kind ++ le 4 r.legacy)
  let bits := (bytes.map (bitsMsb 8)).flatten
  bytes ++ le 2 (crcMsb 16 0x1021 0xFFFF bits)

/-- The committed records that have a G-record, ascending, with their kinds. -/
def Image.gRecords (im : Image) : List (Record × Nat) :=
  let log := im.committedLog
  let ups := firstPowerUps log (0, 0, [])
  (log.map (fun r => (r, r.gKind ups))).filter (fun r => r.2 != 0)

/-- The lowest G number a read may return. -/
def State.gOldest (s : State) : Nat :=
  max ((s.stores.get s.server).oldest s.committed.rcd.floor) s.committed.rcd.gFloor

/-- A write of the G position (0x2004:01): 0 the oldest, 0xFFFFFFFF the newest. -/
def State.setGPos (s : State) (v : Nat) : State :=
  let newest := ((s.committed.gRecords.getLast?).map (fun r => r.1.seq)).getD 0
  let pos := if v = 0 then s.gOldest else if v = 0xFFFFFFFF then newest else v
  s.edit (fun im => { im with rcd := { im.rcd with gPos := pos } })

/-- A read of 0x2005:01 (R550), served from the lane's store. -/
def State.readG (s : State) : Bytes × State :=
  let low := s.gOldest
  let pos := s.img.rcd.gPos
  let move := fun (n : Nat) => s.edit (fun im => { im with rcd := { im.rcd with gPos := n } })
  if pos < low then ([1, 0, 0, 0], move low)
  else
    let held := (s.stores.get s.server).held
    let rs := ((s.committed.gRecords.filter (fun r => decide (pos ≤ r.1.seq) && held.contains r.1.seq))).take s.img.rcd.gRead
    match rs.getLast? with
    | none => ([2, 0, 0, 0], s)
    | some l =>
      ([0, rs.length, 0, 0] ++ (rs.map (fun r => r.1.gBytes r.2 s.committed.utcOffset)).flatten, move (l.1.seq + 1))

/-- The G-record clear (R551): the floor is the next sequence; nothing is erased. -/
def Image.clearG (im : Image) : Image :=
  let floor := im.reg 0x2700 2 + 1
  let old := im.rcd.gFloor
  ({ im with rcd := { im.rcd with gFloor := floor } }).change 1 false 0x2007 2 (wrap 32 old) (wrap 32 floor)

/-! ## Reading on X7 -/

/-- A legacy object of the module. -/
def State.legacyModule (s : State) (im : Image) (idx sub : Nat) : Nat :=
  match idx, sub with
  | 0x2000, 1 => 0x00470008
  | 0x2000, 2 => im.reg 0x1018 4
  | 0x2000, 3 => 0x0305
  | 0x2001, 1 => s.legacyStatus im
  | 0x2001, 2 => s.legacyWord im
  | 0x2002, 1 => im.legacyTrain
  | 0x2003, 1 => wrap 8 im.fittedWord
  | 0x2004, 1 => wrap 32 im.rcd.gPos
  | 0x2004, 2 => im.rcd.gRead
  | 0x2006, 1 => ((im.gRecords.getLast?).map (fun r => wrap 32 r.1.seq)).getD 0
  | 0x2006, 2 => (((im.gRecords.filter (fun r => decide (s.gOldest ≤ r.1.seq))).head?).map (fun r => wrap 32 r.1.seq)).getD 0
  | 0x2007, 2 => wrap 32 im.rcd.gFloor
  | _, _ => 0

/-- A numeric sub of the legacy dictionary; `none`: it is the native one. -/
def State.legacyNum (s : State) (im : Image) (idx sub : Nat) : Option Nat :=
  if idx = 0x1018 && sub = 2 then some 0x00470008
  else if idx = 0x1018 && sub = 3 then some 0x00030005
  else match legacyPlace idx with
    | .legacyDoor d off => if h : d < 12 then some (im.legacyDoor ⟨d, h⟩ off sub) else none
    | .legacyAxis a off => if h : a < 36 then some (im.legacyAxis ⟨a, h⟩ off sub) else none
    | .legacyBank d => if h : d < 12 then some (im.legacyBank ⟨d, h⟩ sub) else none
    | .module i => if 0x2000 ≤ i then some (s.legacyModule im i sub) else none
    | _ => none

/-- The strings of R537. -/
def legacyText (idx : Nat) : Option Bytes :=
  if idx = 0x1008 then some (textBytes "GDC-8")
  else if idx = 0x1009 || idx = 0x100A then some (textBytes "GDC-8 3.05")
  else none

/-- A sub-entry as a path reads it, over an image: the native dictionary, or the legacy one on X7. -/
def State.readOn (s : State) (im : Image) (p : Path) (idx sub : Nat) : Bytes :=
  if im.legacyAt p idx then
    match im.rowFor p idx sub with
    | none => []
    | some r =>
      if sub = 0 && 0x2000 ≤ idx then [r.dflt]
      else match legacyText idx with
        | some t => t
        | none =>
          match s.legacyNum im idx sub with
          | some v => le r.ty.bytes v
          | none => s.readBytes im p idx sub
  else s.readBytes im p idx sub

/-- PDO times as the GDC-8 rounds them (R535): event timers up to 2 ms, inhibit times up to 20 × 100 µs; the top values
round to the highest multiple of the register (DESIGN CHOICE). -/
def legacyPdoTime (sub raw : Nat) : Nat :=
  if sub = 5 then min 65534 ((raw + 1) / 2 * 2) else if sub = 3 then min 65520 ((raw + 19) / 20 * 20) else raw

end Sys2Proof.Machine
end

