-- ==== Sys2Proof/Machine/Writes.lean ====
section
/-! DEFINITION. What an accepted write of any object does, the answer that waits for its commit (R512), writes that take
effect at once and writes that wait for section D (R511). -/

namespace Sys2Proof.Machine

/-! ## CAN ports and SDO servers -/

/-- The path of an SDO server. -/
def serverPath (k : Fin 2) : Path := if k = 0 then .sdo1 else .sdo2

/-- A server ends its transfer with an abort (R467). -/
def Image.abortServer (im : Image) (code : Nat) (k : Fin 2) : Image :=
  let t := (im.net.co.servers.get k).job.target
  im.sdoAnswer (serverPath k) t.1 t.2 code

/-- A control of a port (P:08): 1 enable, 2 disable, 3 disable forced (R477, R11). A forced disable of a port that is disabled
already changes nothing and raises EV49 with a count of 0 (DEDUCED, log entry 27). -/
def Image.portControl (im : Image) (q : Port) (raw : Nat) : Image :=
  let im := im.setPreg q 9 0
  let x := im.canPort q
  match raw with
  | 1 => im.enablePort q
  | 2 => if x.drain.isSome || x.st = .disabled then im else im.drainPort q (fun im k => im.abortServer abState k)
  | 3 => if x.st = .disabled then im.ev49 modScope q.code 6 0 else (im.portDisabled q).ev49 modScope q.code 6 x.pending
  | _ => im

/-! ## Lining and lanes -/

/-- The retry start (R380): both lanes are reset for one attempt each, with stored marks and the mode selected in effect. -/
def State.retryStart (s : State) : State :=
  let s := s.takeBoth
  let s := s.note (fun im => im.setReg 0x2006 1 0)
  s.idleImage false |>.restartBoth 4 true

/-! ## Module objects -/

/-- An update command (R561 to R566). -/
def State.updateCommand (s : State) (raw : Nat) : State :=
  match raw with
  | 1 => s.updatePrepare
  | 2 => s.updateVerify
  | 3 => s.leapBegin false
  | 4 => s.leapBegin true
  | 5 => s.updateAbort
  | 6 => s.windowUpdate
  | _ => s

/-- The oldest sequence the serving lane's store holds. -/
def State.gOldestHeld (s : State) : Nat := (s.stores.get s.server).oldest s.committed.rcd.floor

/-- What a write of a module object does, and the abort code of one that fails in being done. -/
def State.moduleWrite (s : State) (p : Path) (idx sub : Nat) (data : Bytes) : State × Nat :=
  let raw := ofLe data
  let ed := fun (f : Image → Image) => (s.edit f, 0)
  let lane := if raw = 2 then Lane.b else Lane.a
  match idx, sub with
  | 0x1003, 0 => ed (fun im => im.clearHistory)
  | 0x1010, _ => ed (fun im => im.startStore p sub)
  | 0x1011, _ => ed (fun im => im.markRestore (im.authorised p) sub)
  | 0x2006, 2 => (s.retryStart, 0)
  | 0x2103, 3 => ed (fun im => im.setWall.getD im)
  | 0x210C, 1 => ed (fun im => if raw = 1 then im.enterRest else im.leaveRest)
  | 0x210D, 5 => ed (fun im => im.clearSeal)
  | 0x2201, 1 => ed (fun im => { im with commit := { im.commit with handover := true } })
  | 0x220B, 4 => (s.restartHalted lane, 0)
  | 0x230C, 3 => ed (fun im => (im.loopReset (if raw = 2 then .b else .a)).getD im)
  | 0x2503, 1 => ed (fun im => im.clearModule)
  | 0x250D, 1 => ed (fun im => im.testOccurrence raw)
  | 0x250F, 1 => ed (fun im => im.restoreReactions p)
  | 0x2705, 1 => ed (fun im => im.setCursor 0 raw s.gOldestHeld (s.committed.reg 0x2700 2))
  | 0x2706, 1 => ed (fun im => im.setCursor 1 raw s.gOldestHeld (s.committed.reg 0x2700 2))
  | 0x2707, 1 => ed (fun im => im.setCursor 2 raw s.gOldestHeld (s.committed.reg 0x2700 2))
  | 0x2708, 1 => ed (fun im => im.setCursor 3 raw s.gOldestHeld (s.committed.reg 0x2700 2))
  | 0x2712, 1 => ed (fun im => im.startClear raw p.source)
  | 0x2800, 1 => (s.updateCommand raw, 0)
  | 0x2801, 2 => ed (fun im => im.loadChunk p data s.qualified (!s.lining && !s.standbyUp))
  | 0x2804, 1 => ed (fun im => if raw = 1 then im.issueChallenge p else im.closeAuth p)
  | 0x2804, 3 => let r := s.img.answerChallenge p data; ({ s with img := r.1 }, r.2)
  | 0x2807, 1 => ed (fun im => im.setKey p data)
  | 0x2809, 1 => ed (fun im => im.windowCommand raw)
  | 0x280A, 3 => ed (fun im => im.startImport data)
  | 0x2900, 8 => ed (fun im => im.portControl .x7 raw)
  | 0x2901, 8 => ed (fun im => im.portControl .x8 raw)
  | 0x2FF0, 2 => ed (fun im => im.selectMode p raw)
  | idx, sub => ed (fun im => im.put p idx sub raw)

/-! ## Any object -/

/-- A PDO object is written: its run-time state starts anew with its COB-ID; times are rounded in Overlay mode (R535). -/
def Image.pdoWrite (im : Image) (p : Path) (base n idx sub raw : Nat) : Image :=
  let raw := if im.overlay && (base = 0x1400 || base = 0x1800) then legacyPdoTime sub raw else raw
  let im := im.put p idx sub raw
  if h : n < 32 then
    (if base = 0x1800 && sub = 1 then
       im.onCo (fun c => { c with tpdos := c.tpdos.set n TpdoState.reset })
     else if base = 0x1400 && sub = 1 then im.onCo (fun c => { c with rpdoSeen := c.rpdoSeen.set n none })
     else im)
  else im

/-- A write of a native object. -/
def State.applyNative (s : State) (p : Path) (idx sub : Nat) (data : Bytes) : State × Nat :=
  let raw := ofLe data
  let ed := fun (f : Image → Image) => (s.edit f, 0)
  match nativePlace idx with
  | .door d off => if h : d < 12 then ed (fun im => im.doorWrite p ⟨d, h⟩ off sub raw) else (s, abIndex)
  | .axis a off => if h : a < 36 then ed (fun im => im.axisWrite p ⟨a, h⟩ off sub data) else (s, abIndex)
  | .chan c off => if h : c < 192 then ed (fun im => im.chanWrite p ⟨c, h⟩ off sub raw) else (s, abIndex)
  | .pdo base n => ed (fun im => im.pdoWrite p base n idx sub raw)
  | .module _ => s.moduleWrite p idx sub data
  | _ => (s, abIndex)

/-- The value of a staged entry: the native value in 32 bits, sign-extended where its type is signed (R46). -/
def stagedValue (idx sub v : Nat) : Nat :=
  match nativeRow idx sub with
  | some r => if r.ty.signed then encInt 32 (decInt r.ty.bits (wrap r.ty.bits v)) else wrap 32 v
  | none => wrap 32 v

/-- A write of a legacy object (R538 to R541, R550, R551). -/
def State.applyLegacy (s : State) (p : Path) (idx sub raw : Nat) : State × Nat :=
  let ed := fun (f : Image → Image) => (s.edit f, 0)
  let v := s.legacyRule idx sub raw
  if v.code ≠ 0 then
    (match v.result with
     | some x => s.edit (fun im => im.setReg x.1 x.2.1 x.2.2)
     | none => s, v.code)
  else match idx, sub with
  | 0x2004, 1 => (s.setGPos raw, 0)
  | 0x2004, 2 => ed (fun im => { im with rcd := { im.rcd with gRead := raw } })
  | 0x2007, 1 => ed (fun im => im.clearG)
  | idx, sub =>
    match s.img.legacyTarget idx sub raw with
    | none => (s, abSub)
    | some (ni, ns, v) =>
      match s.img.legacyStage idx with
      | some d => ed (fun im => im.stage d ⟨ni, ns, stagedValue ni ns v⟩)
      | none =>
        let ty := ((nativeRow ni ns).map (·.ty)).getD .u8
        s.applyNative p ni ns (le ty.bytes (wrap ty.bits v))

/-- A write through the legacy dictionary of X7, or the native one. -/
def State.applyWrite (s : State) (p : Path) (idx sub : Nat) (data : Bytes) : State × Nat :=
  let s := s.edit (fun im => match nativeRow idx sub with
    | some r => if subAccess idx sub r = .rwa then im.touchAuth p else im
    | none => im)
  if s.img.legacyAt p idx && 0x2000 ≤ idx then s.applyLegacy p idx sub (ofLe data)
  else s.applyNative p idx sub data

/-! ## Answers -/

/-- Writes whose answer comes with something later: a store (R520), a chunk the standby has to report (R561). -/
def State.answersLater (s : State) (idx sub : Nat) : Bool :=
  idx == 0x1010 || (idx == 0x2801 && sub == 2 && s.img.net.upd.chunkSince.isSome)

/-- The answer to a write that has been applied: with its commit (R512); in Lining mode at once. -/
def State.answerWrite (s : State) (p : Path) (idx sub : Nat) (tcp : Bool := false) : State :=
  if s.answersLater idx sub then s
  else if s.running then
    s.edit (fun im => { im with commit := { im.commit with answers := im.commit.answers ++ [⟨p, idx, sub, tcp⟩] } })
  else s.edit (fun im => im.reply p idx sub 0 [])

/-- A write is applied and answered; one that fails in being done is answered at once. -/
def State.finishWrite (s : State) (p : Path) (idx sub : Nat) (data : Bytes) (tcp : Bool := false) : State :=
  match s.applyWrite p idx sub data with
  | (s, 0) => s.answerWrite p idx sub tcp
  | (s, c) => s.edit (fun im => im.reply p idx sub c [])

/-- A write that a row of the table names: checked and applied in its own step. -/
def State.writeRow (s : State) (p : Path) (idx sub : Nat) (data : Bytes) : State :=
  let v := s.checkWrite p idx sub data
  if v.code ≠ 0 then s.edit (fun im => im.refuse p idx sub v)
  else s.finishWrite p idx sub data

/-- A write that has been checked: refused, or due in section D. -/
def State.takeWrite (s : State) (v : Verdict) (p : Path) (idx sub : Nat) (data : Bytes) (tcp : Bool := false) : State :=
  if v.code ≠ 0 then s.edit (fun im => im.refuse p idx sub v)
  else s.edit (fun im => { im with due := im.due ++ [⟨p, idx, sub, data, tcp⟩] })

/-- A write received in section N: checked now, applied in section D of the next frame (R511). -/
def State.queueWrite (s : State) (p : Path) (idx sub : Nat) (data : Bytes) : State :=
  s.takeWrite (s.checkWrite p idx sub data) p idx sub data

/-- Of several writes to one sub-entry the last received is applied (R511). -/
def lastOnes : List DueWrite → List (DueWrite × Bool)
  | [] => []
  | d :: ds => (d, !ds.any (fun x => x.idx == d.idx && x.sub == d.sub)) :: lastOnes ds

/-- An authorisation that a response has opened just now ends with the TCP connection it came over (R498, R567). -/
def State.openedOver (s : State) (w : DueWrite) : State :=
  if w.idx = 0x2804 && w.sub = 3 && (s.img.auth w.path).openedAt == some s.img.now then
    s.edit (fun im => im.onAuth w.path (fun x => { x with tcp := w.tcp }))
  else s

/-- One due write: overwritten ones are answered as successful; the state check is made again at application. -/
def State.applyDue (s : State) (d : DueWrite × Bool) : State :=
  let w := d.1
  if !d.2 then s.answerWrite w.path w.idx w.sub w.tcp
  else
    let native := !s.img.legacyAt w.path w.idx || w.idx < 0x2000
    let v := if native then s.stateRule w.path w.idx w.sub (ofLe w.data) else Verdict.ok
    if v.code ≠ 0 then s.edit (fun im => im.refuse w.path w.idx w.sub v)
    else (s.finishWrite w.path w.idx w.sub w.data w.tcp).openedOver w

/-- The due writes that a test picks are taken, in the order received, each with whether it is the last to its sub-entry; they
are kept until the standby has applied the frame's commit (R545). -/
def State.takeDue (s : State) (p : DueWrite → Bool) : State × List (DueWrite × Bool) :=
  let ds := s.img.due.filter p
  ({ s.edit (fun im => { im with due := im.due.filter (fun d => !p d) }) with
    drained := if 2 ≤ s.seam.standby then s.drained ++ ds.map (fun d => (s.img.now, d)) else [] }, lastOnes ds)

/-- Every due write, in the order received. -/
def State.applyAllDue (s : State) : State :=
  let r := s.takeDue (fun _ => true)
  r.2.foldl State.applyDue r.1

/-- A forced isolation that is to be carried out. -/
def DueWrite.forced (d : DueWrite × Bool) : Bool :=
  d.2 && decide (0x3000 ≤ d.1.idx ∧ d.1.idx < 0x3180) && d.1.idx % 32 == 0x11 && d.1.sub == 1 && ofLe d.1.data == 2

/-- The place of a write in the order of R18: plain writes and resets, isolation, close, open. -/
def DueWrite.rank (d : DueWrite × Bool) : Nat :=
  if d.1.idx < 0x3000 || 0x3180 ≤ d.1.idx || d.1.sub != 1 then 0
  else if d.1.idx % 32 = 0x11 then 1
  else if d.1.idx % 32 = 2 then (match ofLe d.1.data with | 2 => 2 | 1 => 3 | _ => 0)
  else 0

/-- Writes in the order of R18, those of one rank in the order received. -/
def byRank (ds : List (DueWrite × Bool)) : List (DueWrite × Bool) :=
  [0, 1, 2, 3].flatMap (fun r => ds.filter (fun d => DueWrite.rank d == r))

/-! ## Reads -/

/-- A read on a path (R511): the value committed in the last frame whose commit has taken effect; cursors and G-records
are read with their effect. `unread`: sequences whose page cannot be read. Abort code and data. -/
def State.readRow (s : State) (p : Path) (idx sub : Nat) (unread : List Nat) : State × Nat × Bytes :=
  let code := s.checkRead p idx sub
  if code ≠ 0 then (s, code, [])
  else if s.img.legacy p && idx = 0x2005 && sub = 1 then
    let r := s.readG
    (r.2, 0, r.1)
  else if 0x2705 ≤ idx && idx ≤ 0x2708 && sub = 5 && !s.img.legacy p then
    let k : Fin 4 := ⟨(idx - 0x2705) % 4, Nat.mod_lt _ (by decide)⟩
    let r := s.readCursor k unread
    (r.2, 0, r.1)
  else
    let im := if s.running then s.committed else s.img
    (s, 0, s.readOn im p idx sub)

end Sys2Proof.Machine
end

