-- ==== Sys2Proof/Machine/AxisRows.lean ====
section
/-! DEFINITION. The commands of the axes and their obstacles. -/

namespace Sys2Proof.Machine

/-- AXIS_TARGET_WRITE (R144): A+2:03. -/
def execAxisTargetWrite (p : Path) (a : Axis) (x : Int) (s : State) : Result :=
  s.serve (fun s => s.writeRow p (aBase a.val + 2) 3 (le 4 (encInt 32 x)))

/-- RETARGET_STOP_COMPLETE (R121). -/
def execRetargetStopComplete (d : Door) (g : Group) (s : State) : Result := s.act (fun im => im.retargetDone d g)

/-- The sub of a live limit in A+1. -/
def liveSub : LiveLimit → Nat
  | .vMax => 8
  | .aAcc => 9
  | .aDec => 10

/-- LIVE_LIMIT_WRITE (R122). -/
def execLiveLimitWrite (p : Path) (a : Axis) (l : LiveLimit) (v : Nat) (s : State) : Result :=
  s.serve (fun s => s.writeRow p (aBase a.val + 1) (liveSub l) (le 4 v))

/-- The load angle has exceeded its limit for A+5:06 stitches (R125). -/
def Image.stallReached (im : Image) (a : Axis) : Bool := decide (im.areg a 5 6 ≤ (im.axis a).force.stall)

/-- A confirmed stall, with its obstacle where R126 says so; the stitches are counted anew after it. -/
def Image.stalled (im : Image) (a : Axis) : Image :=
  if im.stallReached a then
    (im.onAxis a (fun x => { x with force := { x.force with stall := 0 } })).stallClass a
  else im

/-- STALL_CONFIRMED (R125, R126). -/
def execStallConfirmed (a : Axis) (s : State) : Result := s.act (fun im => im.stalled a)

/-- LOCK_ZONE_STALL_RELEASE (R126). -/
def execLockZoneStallRelease (a : Axis) (s : State) : Result := s.act (fun im => im.zoneRelease a)

/-- AXIS_OVERCURRENT_TRIP (R131): the bridges' own comparators. -/
def execAxisOvercurrentTrip (a : Axis) (s : State) : Result :=
  s.act (fun im => if im.axisUsed a then im.overcurrentTrip a else im)

/-- AXIS_RETRY_DUE (R132, R134). -/
def execAxisRetryDue (a : Axis) (s : State) : Result := s.act (fun im => im.axisRetry a)

/-- AXIS_RETRY_RESTORE (R132). -/
def execAxisRetryRestore (a : Axis) (s : State) : Result := s.act (fun im => im.axisRetryRestore a)

/-- AXIS_THERMAL_LATCH (R133). -/
def execAxisThermalLatch (a : Axis) (s : State) : Result := s.act (fun im => im.thermalLatch a)

/-- AXIS_THERMAL_CLEAR (R133). -/
def execAxisThermalClear (a : Axis) (s : State) : Result := s.act (fun im => im.thermalClear a)

/-- AXIS_ENABLE (R136): 1 to A+2:01. -/
def execAxisEnable (p : Path) (a : Axis) (s : State) : Result := s.serve (fun s => s.writeRow p (aBase a.val + 2) 1 [1])

/-- AXIS_DISABLE (R135): 2 to A+2:01. -/
def execAxisDisable (p : Path) (a : Axis) (s : State) : Result := s.serve (fun s => s.writeRow p (aBase a.val + 2) 1 [2])

/-- AXIS_DISABLE_FORCED (R135): 3 to A+2:01. -/
def execAxisDisableForced (p : Path) (a : Axis) (s : State) : Result := s.serve (fun s => s.writeRow p (aBase a.val + 2) 1 [3])

/-- AXIS_CLEAR_OVERCURRENT (R132): 4 to A+2:01. -/
def execAxisClearOvercurrent (p : Path) (a : Axis) (s : State) : Result :=
  s.serve (fun s => s.writeRow p (aBase a.val + 2) 1 [4])

/-- A source has confirmed an obstacle on an axis. -/
def Image.confirmObstacle (im : Image) (a : Axis) (src : ObstacleSource) : Image :=
  match src with
  | .stall => im.stalled a
  | src => if im.axisUsed a && im.obstacleBy a src then im.obstacleFrom a src else im

/-- An open phase found on an axis of an isolated doorway: its Contour is untaught, and EV54 says so after the return to
service (R44, R151). -/
def Image.openPhaseFound (im : Image) (a : Axis) : Image :=
  if im.axisUsed a && (im.door (axisDoor a)).st = .isolated then
    (im.untaughtBy a).onAxis a (fun x => { x with openPhase := true })
  else im

/-- OPEN_PHASE_DETECTED (R44). -/
def execOpenPhaseDetected (a : Axis) (s : State) : Result := s.act (fun im => im.openPhaseFound a)

/-- OBSTACLE_CONFIRMED (R159, R161, R163, R168). -/
def execObstacleConfirmed (a : Axis) (src : ObstacleSource) (s : State) : Result := s.act (fun im => im.confirmObstacle a src)

/-- The estimate has been invalid for more than 32 stitches on a moving axis that is to be compared (R148, R160). -/
def Image.estimateLost (im : Image) (a : Axis) : Image :=
  let x := im.axis a
  if im.compareState a = 4 && decide (32 < x.force.invalidRun) then im.obstacle a 1 ⟨x.plant.pos, x.force.shown, -1⟩ none else im

/-- ESTIMATE_INVALID_OBSTACLE (R148). -/
def execEstimateInvalidObstacle (a : Axis) (s : State) : Result := s.act (fun im => im.estimateLost a)

/-- OBSTACLE_STOP_END (R169, R170). -/
def execObstacleStopEnd (d : Door) (g : Group) (s : State) : Result :=
  s.act (fun im => if im.obstacleStopOver d g then im.obstacleReaction d g else im)

/-- OBSTACLE_STOP_TIMEOUT (R169, R170): movers still moving are shorted. -/
def execObstacleStopTimeout (d : Door) (g : Group) (s : State) : Result :=
  s.act (fun im => if im.obstacleStopLate d g then (im.shortMovers d).obstacleReaction d g else im)

/-- EV43 clears once the edge has read normal for 1 s (R165). -/
def Image.edgeClear (im : Image) (d : Door) (e : Edge) : Image :=
  let x := (im.door d).edge e
  if x.fault && x.reading == 0 && decide (x.normalSince + 1000 ≤ im.now) then
    let im := im.onEdge d e (fun y => { y with fault := false })
    let other := ((im.door d).edge (match e with | .ea => .eb | .eb => .ea)).fault
    im.clearItem 43 (doorScope d) ⟨e.item, 0, x.ohms⟩ other
  else im

/-- EDGE_FAULT_CLEAR (R165). -/
def execEdgeFaultClear (d : Door) (e : Edge) (s : State) : Result := s.act (fun im => im.edgeClear d e)

end Sys2Proof.Machine
end

