-- ==== Sys2Proof/Machine/CanopenOps.lean ====
section
/-! DEFINITION. The CANopen node (R465 to R476): NMT, the SDO servers, RPDOs and TPDOs, SYNC, TIME, heartbeat, LSS. Bytes of
the frames follow CiA 301 and CiA 305 (PRESUMED, log entry 19); USDO frames carry the same bytes in longer frames
(UNVERIFIED, log entry 19). -/

namespace Sys2Proof.Machine

/-! ## NMT (R466, R474) -/

/-- Every enabled port that takes requests. -/
def Image.openPorts (im : Image) : List Port := allPorts.filter (fun q => (im.canPort q).accepts)

/-- The NMT state changes; a heartbeat that is still pending carries the new one (R474). PDOs that stop leave nothing
behind; RPDO command sources count as timed out from entry to operational until their first reception. -/
def Image.setNmt (im : Image) (v : Nat) : Image :=
  let was := im.nmt
  if was = v then im
  else
    let im := im.setReg 0x2903 5 v
    let im := allPorts.foldl (fun (im : Image) q => im.onPort q (fun x => match x.boxes.get 0 with
      | some r => if r.by_ = .heartbeat || r.by_ = .beacon then { x with boxes := x.boxes.set 0 (some { r with data := [v] }) } else x
      | none => x)) im
    if v = 5 then (allFin 32).foldl Image.loseRpdo im
    else if was = 5 then im.onCo (fun c => { c with
      rpdoSync := [], syncAt := none, rpdoSeen := Vector.replicate 32 none, tpdos := Vector.replicate 32 TpdoState.reset })
    else im

/-- An NMT command concerns the node: broadcast, or its own node-ID. -/
def Image.nmtFor (im : Image) (q : Port) (node : Nat) : Bool :=
  (im.canPort q).transmits && im.configured && (node == 0 || node == im.nodeId)

/-- The error behaviour of 0x1029:01 on a communication error: it changes only the NMT state. -/
def Image.commError (im : Image) : Image :=
  match im.reg 0x1029 1 with
  | 0 => if im.nmt = 5 then im.setNmt 127 else im
  | 2 => if im.nmt = 5 || im.nmt = 127 then im.setNmt 4 else im
  | _ => im

/-- Reset Communication (R466, R476): 0x1000 to 0x1FFF from stored values, a node-ID stored by LSS in effect, boot-up,
pre-operational; authorisations close (R567). -/
def Image.resetCommunication (im : Image) : Image :=
  let im := (im.loadSet 2).takeNodeId.closeAllAuth
  let im := allPorts.foldl (fun (im : Image) q =>
    (im.endAll q .cancelled).onPort q (fun x => { x with bootDue := x.enabled, hbTag := none, emcyQueue := [] })) im
  let im := im.onCo (fun c => { Canopen.reset with lss := { c.lss with configuring := false } })
  let im := im.setReg 0x2903 5 (if im.configured then 127 else 0)
  allPorts.foldl (fun (im : Image) q => if (im.canPort q).transmits then im.bootUp q else im) im

/-- Reset Node may reload 0x2000 to 0x5FFF (R466). -/
def Image.mayResetNode (im : Image) : Bool :=
  (allFin 12).all (fun d => !im.fitted d ||
    (let st := (im.door d).st; st == .locked || st == .isolated || st == .faultHeld)) &&
    !im.permits.sideA.held && !im.permits.sideB.held

/-- Reset Node (R466, R525): the mode selected takes effect with the reload. -/
def Image.resetNode (im : Image) : Image :=
  if im.mayResetNode then
    let im := (im.loadSet 1).reloaded im
    let mode := im.reg 0x2FF0 2
    let im := if im.reg 0x2FF0 1 = mode then im else (im.setReg 0x2FF0 1 mode).bump 0x2FF0 3
    im.resetCommunication
  else im.resetCommunication.bump 0x2903 6

/-! ## SDO and USDO (R467) -/

/-- A response length on the bus: eight bytes, or the next length an FD frame can have. -/
def frameLength (n : Nat) : Nat := ([8, 12, 16, 20, 24, 32, 48, 64].find? (fun k => decide (n ≤ k))).getD 64

/-- The most bytes an expedited transfer and a segment carry. -/
def Image.expeditedMax (im : Image) (q : Port) : Nat := if im.isFd q then 56 else 4
def Image.segmentMax (im : Image) (q : Port) : Nat := if im.isFd q then 61 else 7

/-- A server is offered on a port: server 2 once it has COB-IDs, one USDO server on an FD port, server 1 alone in Overlay
and Lining mode. -/
def State.serverOn (s : State) (q : Port) (k : Fin 2) : Bool :=
  let im := s.img
  (im.canPort q).transmits && (im.canPort q).drain.isNone && (im.servicesOn || s.lining) && im.configured &&
    (k == 0 || (!bitOf (im.reg 0x1201 1) 31 && !im.isFd q && !im.overlay && !s.lining))

/-- A response frame of a server. -/
def Image.respond (im : Image) (k : Fin 2) (bytes : Bytes) : Image := im.sdoFrame k (padTo (frameLength bytes.length) bytes)

/-- What a server does changes; the time of the transfer's last frame is now. -/
def Image.setJob (im : Image) (k : Fin 2) (j : SdoTransfer) : Image :=
  im.onServer k (fun v => { v with job := j, last := im.now, port := if j = .idle then none else v.port })

/-- Address bytes of an initiation. -/
def muxBytes (idx sub : Nat) : Bytes := le 2 idx ++ [sub]

/-- A frame that fits no transfer of the server. -/
def Image.sdoStray (im : Image) (q : Port) (k : Fin 2) : Image :=
  let im := im.onServer k (fun v => { v with port := some q })
  (im.respond k (0x80 :: (muxBytes 0 0 ++ le 4 abCommand))).onServer k (fun v => { v with job := .idle, port := none })

/-- The download is complete: its write is checked, and answered when its commit has taken effect (R512). -/
def State.sdoWrite (s : State) (k : Fin 2) (idx sub spec : Nat) (data : Bytes) : State :=
  let s := s.edit (fun im => (im.setJob k (.owed idx sub)).onServer k (fun v => { v with spec := spec }))
  s.queueWrite (serverPath k) idx sub data

/-- The next segment of a block upload, and the end frame once all is confirmed; the CRC is the CCITT polynomial's with
initial value 0. -/
def Image.blockSegment (im : Image) (k : Fin 2) : Image :=
  match (im.net.co.servers.get k).job with
  | .blockUpload idx sub data sent size seq false =>
    let seg := (data.drop sent).take 7
    let more := decide (sent + seg.length < data.length)
    if seq < size && (sent < data.length || seq = 0 && data.isEmpty) then
      (im.respond k ((seq + 1 + (if more then 0 else 0x80)) :: seg)).setJob k
        (.blockUpload idx sub data (sent + seg.length) size (seq + 1) false)
    else im
  | _ => im

/-- The client confirms a sub-block, or the end (R467). -/
def Image.blockNext (im : Image) (k : Fin 2) : Image :=
  match (im.net.co.servers.get k).job with
  | .blockUpload _ _ _ _ _ _ true => im.setJob k .idle
  | .blockUpload idx sub data sent size seq false =>
    if seq = 0 then im.blockSegment k
    else if data.length ≤ sent then
      let free := if data.isEmpty then 7 else (7 - data.length % 7) % 7
      let crc := crcMsb 16 0x1021 0 ((data.map (bitsMsb 8)).flatten)
      (im.respond k ((0xC1 + 4 * free) :: le 2 crc)).setJob k (.blockUpload idx sub data sent size seq true)
    else if seq < size then im
    else (im.setJob k (.blockUpload idx sub data sent size 0 false)).blockSegment k
  | _ => im

/-- A response frame has left: a block upload goes on with its next segment. -/
def Image.responseSent (im : Image) (q : Port) (box : Fin 32) : Image :=
  let k : Fin 2 := if box = 3 then 1 else 0
  if (box = 2 || box = 3) && (im.net.co.servers.get k).port == some q then
    (match (im.net.co.servers.get k).job with
     | .blockUpload _ _ _ _ _ seq false => if seq = 0 then im else im.blockSegment k
     | _ => im)
  else im

/-- An upload is initiated: the value is read now; its answer is expedited, in segments, or by block. -/
def State.sdoRead (s : State) (q : Port) (k : Fin 2) (idx sub : Nat) (block : Option Nat) : State :=
  let s := s.edit (fun im => im.setJob k (.upload idx sub [] false))
  let r := s.readRow (serverPath k) idx sub []
  let s := r.1
  let data := r.2.2
  if r.2.1 ≠ 0 then s.edit (fun im => im.reply (serverPath k) idx sub r.2.1 [])
  else
    let s := s.answer (serverPath k) idx sub 0 data
    match block with
    | some size =>
      s.edit (fun im => (im.respond k (0xC6 :: (muxBytes idx sub ++ le 4 data.length))).setJob k
        (.blockUpload idx sub data 0 size 0 false))
    | none =>
      if 1 ≤ data.length && data.length ≤ s.img.expeditedMax q then
        let spec := 0x43 + 4 * (4 - min 4 data.length)
        s.edit (fun im => (im.respond k (spec :: (muxBytes idx sub ++ data))).setJob k .idle)
      else
        s.edit (fun im => (im.respond k (0x41 :: (muxBytes idx sub ++ le 4 data.length))).setJob k (.upload idx sub data false))

/-- A segment of a segmented upload. -/
def Image.uploadSegment (im : Image) (q : Port) (k : Fin 2) (t : Bool) : Image :=
  match (im.net.co.servers.get k).job with
  | .upload idx sub data tog =>
    if t != tog then im.abortServer abToggle k
    else
      let m := im.segmentMax q
      let seg := data.take m
      let rest := data.drop m
      let spec := 0x10 * b2n t + 2 * (7 - min 7 seg.length) + b2n rest.isEmpty
      let im := im.respond k (spec :: seg)
      im.setJob k (if rest.isEmpty then .idle else .upload idx sub rest (!tog))
  | _ => im.sdoStray q k

/-- A segment of a segmented download. -/
def State.downloadSegment (s : State) (q : Port) (k : Fin 2) (t : Bool) (seg : Bytes) (last : Bool) : State :=
  match (s.img.net.co.servers.get k).job with
  | .download idx sub size data tog false =>
    let all := data ++ seg
    let spec := 0x20 + 0x10 * b2n t
    if t != tog then s.edit (fun im => im.abortServer abToggle k)
    else if !last then s.edit (fun im => (im.respond k [spec]).setJob k (.download idx sub size all (!tog) false))
    else if size ≠ 0 && size ≠ all.length then s.edit (fun im => im.abortServer abLength k)
    else s.sdoWrite k idx sub spec all
  | _ => s.edit (fun im => im.sdoStray q k)

/-- A sub-block of a block download with its confirmation, and its end. -/
def State.blockDownload (s : State) (q : Port) (k : Fin 2) (seg : Bytes) (crcOk last : Bool) : State :=
  match (s.img.net.co.servers.get k).job with
  | .download idx sub size data tog true =>
    let all := data ++ seg
    if !last then s.edit (fun im => (im.respond k [0xA2, divUp seg.length 7, 127]).setJob k (.download idx sub size all tog true))
    else if !crcOk then s.edit (fun im => im.abortServer 0x05040004 k)
    else if size ≠ 0 && size ≠ all.length then s.edit (fun im => im.abortServer abLength k)
    else s.sdoWrite k idx sub 0xA1 all
  | _ => s.edit (fun im => im.sdoStray q k)

/-- A request initiates a transfer. -/
def initiates : SdoReq → Option (Nat × Nat)
  | .download i j _ | .downloadInit i j _ | .upload i j | .blockDownloadInit i j _ | .blockUploadInit i j _ => some (i, j)
  | _ => none

/-- The response a server owes will still come; it will not where a switchover has discarded its commit (R512). -/
def Image.stillOwed (im : Image) (p : Path) (idx sub : Nat) : Bool :=
  let mine := fun (x : Path) (i j : Nat) => x == p && i == idx && j == sub
  im.due.any (fun w => mine w.path w.idx w.sub) || im.commit.answers.any (fun a => mine a.path a.idx a.sub) ||
    im.commit.out.any (fun c => c.answers.any (fun a => mine a.path a.idx a.sub)) ||
    im.net.upd.chunkPath == some p || (match im.net.upd.store with | some x => x.2.1 == p | none => false)

/-- A server is at work for a client. -/
def Image.serverBusy (im : Image) (k : Fin 2) : Bool :=
  match (im.net.co.servers.get k).job with
  | .idle => false
  | .owed idx sub => im.stillOwed (serverPath k) idx sub
  | _ => true

/-- A request frame of a client (R467). -/
def State.sdoRequest (s : State) (q : Port) (k : Fin 2) (r : SdoReq) : State :=
  let v := s.img.net.co.servers.get k
  if !s.serverOn q k then s
  else match initiates r with
  | some m =>
    if s.img.serverBusy k && v.port != some q then
      s.edit (fun im => im.resubmit q (if k = 0 then 2 else 3) ⟨im.sdoCob k, 0x80 :: (muxBytes m.1 m.2 ++ le 4 abState), none,
        if k = 0 then .sdo1 else .sdo2⟩)
    else
      let s := s.edit (fun im => im.onServer k (fun v => { v with port := some q }))
      let noBlock := s.img.overlay || s.img.isFd q
      match r with
      | .download idx sub data =>
        if data.length ≤ s.img.expeditedMax q then s.sdoWrite k idx sub 0x60 data else s.edit (fun im => im.setJob k .idle)
      | .downloadInit idx sub size =>
        s.edit (fun im => (im.respond k (0x60 :: muxBytes idx sub)).setJob k (.download idx sub size [] false false))
      | .upload idx sub => s.sdoRead q k idx sub none
      | .blockDownloadInit idx sub size =>
        if noBlock then s.edit (fun im => (im.setJob k (.owed idx sub)).abortServer abCommand k)
        else s.edit (fun im => (im.respond k (0xA4 :: (muxBytes idx sub ++ [127, 0, 0, 0]))).setJob k (.download idx sub size [] false true))
      | .blockUploadInit idx sub size =>
        if noBlock then s.edit (fun im => (im.setJob k (.owed idx sub)).abortServer abCommand k)
        else if size = 0 || 127 < size then s.edit (fun im => (im.setJob k (.owed idx sub)).abortServer 0x05040002 k)
        else s.sdoRead q k idx sub (some size)
      | _ => s
  | none =>
    if v.port != some q then s.edit (fun im => if v.port.isNone then im.sdoStray q k else im)
    else match r with
      | .downloadSegment t seg last => s.downloadSegment q k t seg last
      | .uploadSegment t => s.edit (fun im => im.uploadSegment q k t)
      | .blockDownload seg crcOk last => s.blockDownload q k seg crcOk last
      | .blockUploadNext => s.edit (fun im => im.blockNext k)
      | _ => s.edit (fun im => im.setJob k .idle)

/-- A request frame is answered, and kept until its commit has been applied (R545). -/
def State.sdoReceived (s : State) (q : Port) (k : Fin 2) (r : SdoReq) : State :=
  let s := if 2 ≤ s.seam.standby then { s with bus := { s.bus with requests := s.bus.requests ++ [(s.img.now + 1, q, k, r)] } } else s
  s.sdoRequest q k r

/-- A transfer has waited more than 1,000 ms for its next frame (R467). -/
def Image.sdoTimeout (im : Image) (k : Fin 2) : Image :=
  let v := im.net.co.servers.get k
  let waits : Bool := match v.job with
    | .download .. | .upload .. | .blockUpload .. => true
    | _ => false
  if waits && decide (v.last + 1000 < im.now) then im.abortServer abTimeout k else im

/-! ## RPDOs (R468, R469, R534) -/

/-- One mapped object of a received RPDO. A doorway's command byte issues its command when it changes (R17, R295). -/
def State.rpdoObject (s : State) (n : Fin 32) (idx sub : Nat) (data : Bytes) : State :=
  let t := s.img.mapTarget idx sub
  let raw := ofLe data
  match nativePlace t.1 with
  | .door d 2 =>
    if h : d < 12 then
      let sup := s.img.inp.sup
      if t.2 ≠ 1 || sup.rpdoCmd.get ⟨d, h⟩ = raw then s
      else
        let s := s.edit (fun im => { im with
          inp := { im.inp with sup := { sup with rpdoCmd := sup.rpdoCmd.set d raw } }
          due := im.due.filter (fun w => !(w.path == .rpdo n && w.idx == idx && w.sub == sub)) })
        if raw = 0 then s else s.queueWrite (.rpdo n) idx sub data
    else s
  | _ => s.queueWrite (.rpdo n) idx sub data

/-- The content of an RPDO goes to its objects, bit by bit from the least significant. -/
def State.rpdoApply (s : State) (n : Fin 32) (data : Bytes) : State :=
  let word := ofLe data
  ((s.img.rpdoMap n).foldl (fun (acc : State × Nat) e =>
    (acc.1.rpdoObject n e.1 e.2.1 (le ((e.2.2 + 7) / 8) (wrap e.2.2 (word / 2 ^ acc.2))), acc.2 + e.2.2)) (s, 0)).1

/-- Bits an RPDO's mapping takes. -/
def Image.rpdoBits (im : Image) (n : Fin 32) : Nat := ((im.rpdoMap n).map (·.2.2)).foldl (· + ·) 0

/-- PDOs are exchanged on a port. -/
def Image.pdoOn (im : Image) (q : Port) : Bool := im.operational && im.configured && (im.canPort q).transmits

/-- The module offers PDO n: 16 in Overlay mode (R533). -/
def Image.pdoOffered (im : Image) (n : Fin 32) : Bool := !im.overlay || decide (n.val < 16)

/-- The permit is among the objects of RPDO n, and the RPDO is a permit source (R87). -/
def Image.rpdoPermits (im : Image) (n : Fin 32) : Bool :=
  (im.rpdoTargets n).any (fun e => e.1 == 0x2305) && im.reg 0x2305 3 != 1

/-- An RPDO is received. -/
def State.rpdoReceived (s : State) (q : Port) (n : Fin 32) (data : Bytes) : State :=
  let im := s.img
  if !(im.pdoOn q && im.pdoOffered n && im.rpdoValid n && im.pdoPort 1 n.val q) then s
  else if 8 * data.length < im.rpdoBits n then s.edit (fun im => im.emit (ciaEmcy 0x8210 q))
  else
    let s := s.edit (fun im => im.onCo (fun c => { c with rpdoSeen := c.rpdoSeen.set n (some im.now) }))
    let s := if s.img.rpdoSource n then s.edit (fun im => im.rpdoSeen n) else s
    let s := if s.img.rpdoPermits n then s.edit Image.permitSeen else s
    if s.img.reg (0x1400 + n.val) 2 ≤ 240 then
      s.edit (fun im => im.onCo (fun c => { c with rpdoSync := c.rpdoSync.filter (fun x => x.1 != n.val) ++ [(n.val, data)] }))
    else s.rpdoApply n data

/-- Deadline monitoring of an RPDO that is no command source (R468). -/
def Image.rpdoDeadline (im : Image) (n : Fin 32) : Image :=
  let t := im.reg (0x1400 + n.val) 5
  match im.net.co.rpdoSeen.get n with
  | some f =>
    if im.operational && im.rpdoValid n && !im.rpdoSource n && t != 0 && decide (f + t ≤ im.now) then
      (im.onCo (fun c => { c with rpdoSeen := c.rpdoSeen.set n none })).emit ⟨0x8250, 0xFF, 1, 0, Source.zero⟩
    else im
  | none => im

/-! ## TPDOs (R468, R534) -/

/-- The content of TPDO n, from the committed state. -/
def State.tpdoData (s : State) (n : Fin 32) : Bytes :=
  let im := s.img
  let es := (List.range (min 64 (im.reg (0x1A00 + n.val) 0))).map (fun i => im.reg (0x1A00 + n.val) (i + 1))
  let r := es.foldl (fun (acc : Nat × Nat) e =>
    let bits := e % 0x100
    let v := ofLe (s.readOn s.committed (.rpdo n) (e / 0x10000) (e / 0x100 % 0x100))
    (acc.1 + wrap bits v * 2 ^ acc.2, acc.2 + bits)) (0, 0)
  le ((r.2 + 7) / 8) r.1

/-- TPDO n is valid. -/
def Image.tpdoValid (im : Image) (n : Fin 32) : Bool := im.pdoOffered n && !bitOf (im.reg (0x1800 + n.val) 1) 31

def Image.tpdo (im : Image) (n : Fin 32) : TpdoState := im.net.co.tpdos.get n
def Image.onTpdo (im : Image) (n : Fin 32) (f : TpdoState → TpdoState) : Image :=
  im.onCo (fun c => { c with tpdos := upd c.tpdos n f })

/-- The mailbox a TPDO takes on a port: the one that holds its earlier request, else the first free of 6 to 31 (R458). -/
def Image.tpdoBox (im : Image) (q : Port) (n : Fin 32) : Option (Fin 32) :=
  let own := (allFin 32).find? (fun k => match (im.canPort q).boxes.get k with | some r => r.by_ == .tpdo n | none => false)
  match own with
  | some k => some k
  | none => (allFin 32).find? (fun k => decide (6 ≤ k.val) && ((im.canPort q).boxes.get k).isNone)

/-- Submit TPDO n on its ports; one that finds no free mailbox waits and is counted. -/
def Image.submitTpdo (im : Image) (n : Fin 32) (data : Bytes) : Image :=
  let qs := im.openPorts.filter (fun q => im.pdoPort 2 n.val q)
  let r := qs.foldl (fun (acc : Image × Bool) q =>
    match acc.1.tpdoBox q n with
    | some k => (acc.1.resubmit q k ⟨wrap 11 (acc.1.reg (0x1800 + n.val) 1), data, none, .tpdo n⟩, acc.2)
    | none => (acc.1, true)) (im, false)
  if r.2 then
    (if (im.tpdo n).waiting then r.1 else r.1.bump 0x2904 5).onTpdo n (fun t => { t with waiting := true })
  else if qs.isEmpty then r.1
  else r.1.onTpdo n (fun t => { t with waiting := false, lastSent := some im.now, data := data })

/-- An event-driven TPDO is due: changed content, its event timer, or a wait for a mailbox; its inhibit time has
passed. -/
def State.tpdoDue (s : State) (n : Fin 32) : Bool :=
  let im := s.img
  let t := im.tpdo n
  let o := 0x1800 + n.val
  let timer := im.reg o 5
  let free := match t.lastSent with | none => true | some f => decide (10 * f + im.reg o 3 ≤ 10 * im.now)
  let ran := match t.lastSent with | none => false | some f => timer != 0 && decide (f + timer ≤ im.now)
  free && (t.waiting || ran || t.lastSent.isNone || t.data != s.tpdoData n)

/-- An event-driven TPDO is submitted, in Overlay mode in the second frame of a pair. -/
def State.tpdoTransmit (s : State) (n : Fin 32) : State :=
  let im := s.img
  if im.operational && im.configured && im.tpdoValid n && decide (254 ≤ im.reg (0x1800 + n.val) 2) &&
      (!im.overlay || im.now % 2 == 1) && s.tpdoDue n then
    s.edit (fun im => im.submitTpdo n (s.tpdoData n))
  else s

/-! ## SYNC (R469, R470) -/

/-- A synchronous TPDO counts a SYNC and is sampled and submitted when it is its turn. -/
def State.syncTpdo (s : State) (n : Fin 32) (counter : Option Nat) : State :=
  let im := s.img
  let o := 0x1800 + n.val
  let ty := im.reg o 2
  if !(im.tpdoValid n && decide (ty ≤ 240)) then s
  else if ty = 0 then
    (if (im.tpdo n).lastSent.isNone || (im.tpdo n).data != s.tpdoData n then s.edit (fun im => im.submitTpdo n (s.tpdoData n)) else s)
  else
    let first := im.reg o 6
    let begun := (im.tpdo n).started || first = 0 || im.reg 0x1019 0 = 0 || counter == some first
    if !begun then s
    else
      let c := (im.tpdo n).syncs + 1
      let s := s.edit (fun im => im.onTpdo n (fun t => { t with started := true, syncs := if ty ≤ c then 0 else c }))
      if ty ≤ c then s.edit (fun im => im.submitTpdo n (s.tpdoData n)) else s

/-- A SYNC is received: synchronous RPDOs become due, synchronous TPDOs are sampled. -/
def State.syncReceived (s : State) (q : Port) (counter : Option Nat) : State :=
  if !((s.img.canPort q).transmits && s.img.servicesOn) then s
  else
    let s := s.edit (fun im => im.setReg 0x2905 3 (counter.getD 0))
    if !s.img.operational then s
    else
      let waiting := s.img.net.co.rpdoSync
      let s := s.edit (fun im => im.onCo (fun c => { c with rpdoSync := [], syncAt := some im.now }))
      let s := waiting.foldl (fun (s : State) w => if h : w.1 < 32 then s.rpdoApply ⟨w.1, h⟩ w.2 else s) s
      (allFin 32).foldl (fun (s : State) n => s.syncTpdo n counter) s

/-- A mailbox holds a synchronous TPDO. -/
def Image.holdsSync (im : Image) (q : Port) (k : Fin 32) : Bool :=
  match (im.canPort q).boxes.get k with
  | some r => (match r.by_ with | .tpdo n => decide (im.reg (0x1800 + n.val) 2 ≤ 240) | _ => false)
  | none => false

/-- The synchronous window closes (R469): synchronous TPDOs not yet sent are cancelled. -/
def Image.syncWindow (im : Image) : Image :=
  let w := im.reg 0x1007 0
  match im.net.co.syncAt with
  | some f =>
    if w = 0 || im.nowUs < 1000 * f + w then im
    else
      let im := allPorts.foldl (fun (im : Image) q => (allFin 32).foldl (fun (im : Image) k =>
        if im.holdsSync q k then im.endRequest q k .cancelled else im) im) im
      (allFin 32).foldl (fun (im : Image) n => if im.reg (0x1800 + n.val) 2 ≤ 240 then im.onTpdo n (fun t => { t with waiting := false }) else im)
        (im.onCo (fun c => { c with syncAt := none }))
  | none => im

/-- The SYNC producer (R470): each SYNC is tagged one period after the previous; the counter runs from 1 to 0x1019. -/
def Image.produceSync (im : Image) : Image :=
  let period := im.reg 0x1006 0
  let qs := im.openPorts.filter (fun q => ((im.canPort q).boxes.get 5).isNone)
  let tag := match im.net.co.syncTag with | some t => t + max 1000 period | none => im.nowUs
  if !(im.servicesOn && bitOf (im.reg 0x1005 0) 30 && period != 0) || qs.isEmpty || !im.tagAllowed (some tag) then im
  else
    let top := im.reg 0x1019 0
    let n := if top = 0 then 0 else im.net.co.syncCount % top + 1
    let r : Request := ⟨wrap 11 (im.reg 0x1005 0), if top = 0 then [] else [n], some tag, .sync⟩
    let im := qs.foldl (fun (im : Image) q => im.submit q 5 r) im
    let im := im.onCo (fun c => { c with syncTag := some tag, syncCount := n })
    im.setReg 0x2905 4 (max (im.reg 0x2905 4) (Config.syncJitter tag).toNat)

/-! ## TIME, heartbeat (R471, R474) -/

/-- TIME is shown in TAI, with its offset from the wall time; it sets nothing. -/
def Image.timeReceived (im : Image) (q : Port) (utc ms : Nat) : Image :=
  if !((im.canPort q).transmits && im.servicesOn && bitOf (im.reg 0x1012 0) 31 && !im.overlay) then im
  else
    let tai := (Int.ofNat utc + im.utcOffset).toNat
    (im.setReg 0x2905 1 (tai * 2 ^ 16 + ms % 1000)).setSreg 0x2905 2
      (clampInt (-2147483648) 2147483647 (Int.ofNat (tai * 1000 + ms % 1000) - Int.ofNat (im.clk.wallUs / 1000)))

/-- The next heartbeat of a port, tagged 0x1017 less 1 ms after the previous one. -/
def Image.heartbeat (im : Image) (q : Port) : Image :=
  let x := im.canPort q
  let t := im.reg 0x1017 0
  let tag := match x.hbTag with | some h => h + 1000 * (t - 1) | none => im.nowUs
  if t = 0 || x.bootDue || x.solitary || !im.configured || im.nmt = 0 || !im.maySubmit q 0 (some tag) then im
  else (im.submit q 0 ⟨0x700 + im.nodeId, [im.nmt], some tag, .heartbeat⟩).onPort q (fun x => { x with hbTag := some tag })

/-- The heartbeat producer, on every enabled port. -/
def Image.heartbeats (im : Image) : Image := allPorts.foldl Image.heartbeat im

/-- A monitored node is silent for its consumer time: EV30, and the error behaviour of 0x1029:01. -/
def Image.heartbeatLost (im : Image) (k : Fin 16) : Image :=
  let e := im.reg 0x1016 (k.val + 1)
  match im.net.co.hbSeen.get k with
  | some f =>
    if e % 0x10000 != 0 && !bitOf im.net.co.hbLost k.val && decide (f + e % 0x10000 ≤ im.now) then
      let im := im.onCo (fun c => { c with hbLost := setBit c.hbLost k.val true })
      (im.raise 30 modScope ⟨e / 0x10000 % 0x80, 0, 0⟩).commError
    else im
  | none => im

/-! ## LSS (R475) -/

/-- LSS answers on a port. -/
def State.lssOn (s : State) (q : Port) : Bool := (s.img.canPort q).accepts && !s.img.overlay && !s.lining

def Image.onLss (im : Image) (f : Lss → Lss) : Image := im.onCo (fun c => { c with lss := f c.lss })

/-- An LSS answer, in mailbox 4. -/
def Image.lssAnswer (im : Image) (q : Port) (bytes : Bytes) : Image := im.resubmit q 4 ⟨0x7E4, padTo 8 bytes, none, .lss⟩

/-- The identity of 0x1018. -/
def Image.identity (im : Image) (k : Nat) : Nat := im.reg 0x1018 (k + 1)

/-- The coding plug sets the node-ID. -/
def Image.plugSets (im : Image) : Bool := let v := im.reg 0x2903 1; decide (1 ≤ v ∧ v ≤ 63)

/-- Configure node-ID: error 1 while the plug sets it, or for a value that is no node-ID. -/
def Image.lssNodeId (im : Image) (q : Port) (id : Nat) : Image :=
  if !im.net.co.lss.configuring then im
  else if im.plugSets || !((1 ≤ id && id ≤ 127) || id == 255) then im.lssAnswer q [0x11, 1]
  else (im.onLss (fun x => { x with nodeId := some id })).lssAnswer q [0x11, 0]

/-- Bit rates of table 0, kbit/s; 9 detects. -/
def lssRate : Nat → Option Nat
  | 0 => some 1000
  | 2 => some 500
  | 3 => some 250
  | 4 => some 125
  | _ => none

/-- Configure bit timing. -/
def Image.lssTiming (im : Image) (q : Port) (table index : Nat) : Image :=
  if !im.net.co.lss.configuring then im
  else if table = 0 && (index == 9 || (lssRate index).isSome) then
    (im.onLss (fun x => { x with timing := some (q, index) })).lssAnswer q [0x13, 0]
  else im.lssAnswer q [0x13, 1]

/-- Activate bit timing: the port goes over to the rate configured, or to detection. The switch delays are physical time. -/
def Image.lssActivate (im : Image) : Image :=
  match im.net.co.lss.configuring, im.net.co.lss.timing with
  | true, some (q, index) =>
    if !(im.canPort q).transmits then im
    else match lssRate index with
      | some r => im.setPreg q 5 r
      | none => ((im.setPreg q 5 0).setPreg q 6 0).onPort q (fun x => { x with
          st := .detecting, nomTry := 0, nomRun := 0, dataTry := 0, dataRun := 0, activeSince := none })
  | _, _ => im

/-- P:03 code of a table index. -/
def rateCode (r : Nat) : Nat := if r = 125 then 0 else if r = 250 then 1 else if r = 500 then 2 else 3

/-- Store a register with the stored set, so that a restart finds it. -/
def Image.setStored (im : Image) (idx sub v : Nat) : Image :=
  let im := im.setReg idx sub v
  { im with stored := RegFile.put im.stored (regDefault idx sub) (key idx sub) (wrap (regBits idx sub) v) }

/-- Store configuration: the node-ID in 0x2903:03; the bit timing in P:02 and P:03 of the port it was configured on, for
the next restart. -/
def Image.lssStore (im : Image) (q : Port) : Image :=
  let x := im.net.co.lss
  if !x.configuring then im
  else
    let im := match x.nodeId with | some id => im.setReg 0x2903 3 id | none => im
    let im := match x.timing with
      | some (p, index) =>
        (match lssRate index with
         | some r => (im.setStored p.obj 2 1).setStored p.obj 3 (rateCode r)
         | none => im.setStored p.obj 2 0)
      | none => im
    im.lssAnswer q [0x17, 0]

/-- Inquire identity (0 vendor-ID to 3 serial number) and node-ID (4). -/
def Image.lssInquire (im : Image) (q : Port) (what : Fin 5) : Image :=
  if !im.net.co.lss.configuring then im
  else if what = 4 then im.lssAnswer q [0x5E, wrap 8 im.nodeId]
  else im.lssAnswer q ((0x5A + what.val) :: le 4 (im.identity what.val))

/-- Switch state selective: the slave addressed by its whole identity. -/
def Image.lssSelect (im : Image) (q : Port) (v p r n : Nat) : Image :=
  if (v, p, r, n) = (im.identity 0, im.identity 1, im.identity 2, im.identity 3) then
    (im.onLss (fun x => { x with configuring := true })).lssAnswer q [0x44]
  else im

/-- Fastscan (CiA 305): only a node without a node-ID, not yet configuring, takes part. -/
def Image.lssFastscan (im : Image) (q : Port) (id check : Nat) (sub next : Fin 4) : Image :=
  let x := im.net.co.lss
  if im.configured || x.configuring then im
  else if check = 128 then (im.onLss (fun x => { x with scan := 0 })).lssAnswer q [0x4F]
  else if 32 ≤ check || x.scan ≠ sub.val || im.identity sub.val / 2 ^ check ≠ wrap 32 id / 2 ^ check then im
  else
    let done := check = 0 && decide (next.val < sub.val)
    (im.onLss (fun x => { x with scan := next.val, configuring := x.configuring || done })).lssAnswer q [0x4F]

end Sys2Proof.Machine
end

