-- ==== Sys2Proof/Machine/BackboneOps.lean ====
section
/-! DEFINITION. The train backbone and time synchronisation (R486 to R508): links, addresses, the TRDP telegrams, the
gateway, PTP and SNTP. -/

namespace Sys2Proof.Machine

def Image.onBb (im : Image) (f : Backbone → Backbone) : Image := { im with net := { im.net with bb := f im.net.bb } }

/-! ## Links and addresses (R488, R492) -/

/-- A port in use has had no link for 1 s: EV32 with the port in its source data. -/
def Image.linkLost (im : Image) (x : Fin 2) : Image :=
  let im := im.setReg 0x2906 (x.val + 1) 0
  if bitOf (im.bootReg 0x2906 4) x.val && !im.net.bb.lost.get x then
    ((im.onBb (fun b => { b with lost := b.lost.set x true })).bump 0x2906 5).raise 32 modScope ⟨x.val + 5, 0, 0⟩
  else im

/-- A port has its link again, held for 1 s: EV32 clears with the last port that held it. -/
def Image.linkBack (im : Image) (x : Fin 2) : Image :=
  let im := im.setReg 0x2906 (x.val + 1) 1
  if im.net.bb.lost.get x then
    let im := im.onBb (fun b => { b with lost := b.lost.set x false })
    im.clearItem 32 modScope ⟨x.val + 5, 0, 0⟩ (im.net.bb.lost.toList.any id)
  else im

/-- No lease within 30 s: the static values of the last restart apply until one arrives. -/
def Image.dhcpTimeout (im : Image) : Image :=
  if im.bootReg 0x2907 1 = 1 && !im.net.bb.lease && decide (im.inp.sup.since + 30000 ≤ im.now) then
    (im.setReg 0x2907 5 (im.bootReg 0x2907 2)).onBb (fun b => { b with mask := im.bootReg 0x2907 3, gateway := im.bootReg 0x2907 4 })
  else im

/-- A lease applies; once one is in force, a change waits for the next restart, which asks anew (DEDUCED). -/
def Image.dhcpLease (im : Image) (ip mask gateway : Nat) : Image :=
  if im.bootReg 0x2907 1 = 1 && !im.net.bb.lease then
    (im.setReg 0x2907 5 ip).onBb (fun b => { b with lease := true, mask := mask, gateway := gateway })
  else im

/-- The module's address on the backbone, or on the service port. -/
def Image.ownAddress (im : Image) (service : Bool) (ip : Nat) : Bool :=
  if service then im.reg 0x290B 5 == 1 && ip == im.reg 0x290B 6
  else im.reg 0x2907 5 != 0 && ip == im.reg 0x2907 5

/-! ## TRDP process data (R493 to R496) -/

/-- The dataset of the door status telegram, 80 bytes, from the committed state. -/
def State.statusDataset (s : State) : Bytes :=
  let im := s.committed
  be 4 (s.mirrorValue im 7) ++ be 4 (s.mirrorValue im 0) ++ be 8 im.clk.frame ++ be 5 im.op ++ zeros 3 ++
    (allFin 12).map (fun d => (im.door d).shown.code) ++ ((allFin 12).map (fun d => be 2 (im.doorFlags d))).flatten ++
    be 8 im.shownWord ++ be 6 (im.reg 0x2700 2) ++ zeros 6

/-- TRDP runs: native mode, a lane running (R378, R530). -/
def State.trdpOn (s : State) : Bool := s.running && !s.img.overlay

/-- The period of the status telegram has fallen due: it is sent. -/
def State.statusTelegram (s : State) : State :=
  let b := s.img.net.bb
  if s.trdpOn && decide (b.statusDue ≤ s.img.now) then
    let data := s.statusDataset
    s.edit (fun im =>
      let period := im.reg 0x2908 2
      let next := if b.statusDue + period ≤ im.now then im.now + period else b.statusDue + period
      ((im.onBb (fun b => { b with statusSeq := wrap 32 (b.statusSeq + 1), statusDue := next })).bump 0x2908 6).send
        (.telegram (some (im.reg 0x2908 3)) (im.reg 0x2908 1) b.statusSeq (im.vlanTag 7) data))
  else s

/-- A pull request for the status ComId is answered. -/
def State.pullReply (s : State) (comId : Nat) : State :=
  if s.trdpOn && comId == s.img.reg 0x2908 1 then
    let data := s.statusDataset
    s.edit (fun im => (im.onBb (fun b => { b with pullSeq := wrap 32 (b.pullSeq + 1) })).send (.telegram none comId im.net.bb.pullSeq (im.vlanTag 7) data))
  else s

/-- The command telegram passes its checks (R495). -/
def Image.commandAccepted (im : Image) (source seq : Nat) (data : Bytes) : Bool :=
  (im.reg 0x2908 5 == 0 || im.reg 0x2908 5 == source) && data.length == 64 && im.net.bb.commandSeq != some seq

/-- The objects an accepted telegram writes, with their values; a doorway's command only where its byte has changed, a
channel's only where its code commands it: 1 off, 2 on, 3 flash. -/
def Image.commandWrites (im : Image) (data : Bytes) : List (Nat × Nat × Bytes) :=
  let byte := fun (i : Nat) => data.getD i 0
  let member := 256 * byte 12 + byte 13
  let field := ofLe (data.drop 16)
  let src := im.reg 0x2305 3
  ((allFin 12).filter (fun d => byte d.val != 0 && byte d.val != im.inp.sup.trdpCmd.get d)).map
      (fun d => (bBase d.val + 2, 1, [byte d.val])) ++
    (allFin 12).map (fun d => (bBase d.val + 0x0D, 1, [b2n (bitOf member d.val)])) ++
    (if src = 1 || src = 2 then [(0x2305, 1, [b2n (bitOf (byte 14) 0)]), (0x2305, 2, [b2n (bitOf (byte 14) 1)])] else []) ++
    [(0x230E, 2, [byte 15 % 16])] ++
    ((allFin 192).filter (fun c => im.chanRole c == 0 && field / 4 ^ c.val % 4 != 0)).map (fun c =>
      (cBase c.val + 1, 1, [field / 4 ^ c.val % 4 - 1]))

/-- A command telegram is received. -/
def State.commandTelegram (s : State) (source seq : Nat) (data : Bytes) : State :=
  if !s.trdpOn || s.img.reg 0x2908 4 = 0 then s
  else if !s.img.commandAccepted source seq data then s.edit (fun im => im.bump 0x2908 8)
  else
    let ws := s.img.commandWrites data
    let s := s.edit (fun im =>
      let im := (im.bump 0x2908 7).trdpSeen
      let im := if im.reg 0x2305 3 = 0 then im else im.permitSeen
      let im := im.onBb (fun b => { b with commandSeq := some seq })
      { im with inp := { im.inp with sup := { im.inp.sup with trdpCmd := Vector.ofFn (fun d : Door => data.getD d.val 0) } } })
    ws.foldl (fun (s : State) w => s.queueWrite .trdp w.1 w.2.1 w.2.2) s

/-! ## The gateway (R497 to R499, R503) -/

/-- The gateway hears a request: native mode on the backbone, the service port switched on, a TCP request on its
connection. -/
def State.gatewayOn (s : State) (p : Path) (tcp : Bool) : Bool :=
  let im := s.img
  (match p with
   | .gateway _ => s.running && !im.overlay
   | .x9 => im.reg 0x290B 5 == 1
   | _ => false) && (!tcp || im.net.bb.tcp.contains p)

/-- A gateway answer, counted as served or refused. -/
def Image.gwAnswer (im : Image) (p : Path) (idx sub code : Nat) (data : Bytes) : Image :=
  (im.bump 0x2909 (if code = 0 then 5 else 6)).reply p idx sub code data

/-- One request is served: a read answers at once; a write is checked, and answered when its commit has taken effect. -/
def State.serveGateway (s : State) (r : GwRequest) : State :=
  let s := s.edit (fun im => im.onBb (fun b => { b with gwServed := b.gwServed + 1 }))
  if r.write then
    let v := s.checkWrite r.path r.idx r.sub r.data
    (s.edit (fun im => im.bump 0x2909 (if v.code = 0 then 5 else 6))).takeWrite v r.path r.idx r.sub r.data r.tcp
  else
    let long := !r.tcp && 0x2705 ≤ r.idx && r.idx ≤ 0x2708 && r.sub = 5
    if long then s.edit (fun im => im.gwAnswer r.path r.idx r.sub 0x05040005 [])
    else
      let x := s.readRow r.path r.idx r.sub []
      if !r.tcp && 1424 < x.2.2.length then x.1.edit (fun im => im.gwAnswer r.path r.idx r.sub 0x05040005 [])
      else x.1.edit (fun im => im.gwAnswer r.path r.idx r.sub x.2.1 x.2.2)

/-- A request arrives in a frame's section N: at most 8 are served per frame, others wait in order of arrival. -/
def State.gatewayRequest (s : State) (r : GwRequest) : State :=
  if !s.gatewayOn r.path r.tcp then s
  else if s.img.net.bb.gw.isEmpty && decide (s.img.net.bb.gwServed < 8) then s.serveGateway r
  else s.edit (fun im => im.onBb (fun b => { b with gw := b.gw ++ [r] }))

/-- Requests that have waited 500 ms are answered with the timeout. -/
def Image.dropWaiting (im : Image) (late : GwRequest → Bool) : Image :=
  let rs := im.net.bb.gw.filter late
  let im := im.onBb (fun b => { b with gw := b.gw.filter (fun r => !late r) })
  rs.foldl (fun (im : Image) r => im.gwAnswer r.path r.idx r.sub abTimeout []) im

/-- A request has waited 500 ms. -/
def Image.waitedOut (im : Image) (r : GwRequest) : Bool := decide (r.arrived + 500 ≤ im.now)

/-- Section N serves what waits and has not waited too long. -/
def State.serveWaiting (s : State) : State :=
  let s := s.edit (fun im => im.dropWaiting im.waitedOut)
  let s := s.edit (fun im => im.onBb (fun b => { b with gwServed := 0 }))
  let first := s.img.net.bb.gw.take 8
  let s := s.edit (fun im => im.onBb (fun b => { b with gw := b.gw.drop 8 }))
  first.foldl State.serveGateway s

/-- Requests of a client that have waited 500 ms are answered. -/
def Image.gatewayTimeout (im : Image) (p : Path) : Image :=
  im.dropWaiting (fun r => r.path == p && im.waitedOut r)

/-- A client opens a TCP connection: at most 4 are held. -/
def Image.tcpOpen (im : Image) (p : Path) : Image :=
  if im.net.bb.tcp.length < 4 then im.onBb (fun b => { b with tcp := b.tcp ++ [p] }) else im.send .tcpRefused

/-! ## Time (R201 to R204, R500 to R502) -/

/-- A source has given a UTC offset (R201). -/
def Image.takeUtc (im : Image) (off : Int) : Image :=
  let im := { im with clk := { im.clk with utcSynced := true } }
  im.setSreg 0x2102 5 off

/-- PTP has been silent for 0x2104:05. -/
def Image.ptpLate (im : Image) : Bool :=
  match im.clk.lastPtp with
  | some f => decide (f + 1000 * im.reg 0x2104 5 ≤ im.now)
  | none => decide (im.inp.sup.since + 1000 * im.reg 0x2104 5 ≤ im.now)

/-- A Sync: its measurements are shown; a valid one disciplines the wall time unless SNTP does (R202, R501). A gap in which
the synchronisation was not valid ends the run of R202. -/
def Image.ptpSync (im : Image) (offsetNs : Int) (delayNs gm : Nat) (utc : Int) (slave : Bool) (interval : Nat) : Image :=
  if im.reg 0x290A 1 = 0 then im
  else
    let valid := slave && decide (delayNs < 10000000)
    let since := (if im.ptpValid then im.clk.ptpRunSince else none).getD im.now
    let im := im.setReg 0x290A 3 (if slave then 9 else 8)
    let im := im.setSreg 0x290A 4 (clampInt (-2147483648) 2147483647 offsetNs)
    let im := ((im.setReg 0x290A 5 (min 0xFFFFFFFF delayNs)).setReg 0x290A 6 gm).bump 0x290A 8
    let im := { im with clk := im.clk.synced valid im.now since interval }
    let us := Int.tdiv offsetNs 1000
    if !valid then im
    else if im.clk.source = 2 then im.setSreg 0x2104 2 us
    else (im.takeUtc utc).discipline 1 us

/-- Query an SNTP server. -/
def Image.sntpQuery (im : Image) (n : Nat) : Image :=
  (im.onBb (fun b => { b with sntp := some (n, im.now) })).send (.sntpQuery (im.reg 0x290B n) (im.vlanId false))

/-- The other server follows one that gave nothing. -/
def Image.sntpNext (im : Image) (n : Nat) : Image :=
  if n = 1 && im.reg 0x290B 2 != 0 then im.sntpQuery 2 else im.onBb (fun b => { b with sntp := none })

/-- The poll: a query without a reply for 1 s fails over; every 0x290B:03 s a new one begins. -/
def Image.sntpPoll (im : Image) : Image :=
  match im.net.bb.sntp with
  | some (n, f) => if f + 1000 < im.now then (im.setReg 0x290B 4 2).sntpNext n else im
  | none =>
    if im.net.bb.sntpDue ≤ im.now && (im.reg 0x290B 1 != 0 || im.reg 0x290B 2 != 0) then
      let im := im.onBb (fun b => { b with sntpDue := im.now + 1000 * im.reg 0x290B 3 })
      im.sntpQuery (if im.reg 0x290B 1 != 0 then 1 else 2)
    else im

/-- A reply: valid within 1 s, with stratum 1 to 15 and no alarm; it is used while PTP is not (R202). -/
def Image.sntpReply (im : Image) (utcMs stratum : Nat) (alarm : Bool) : Image :=
  match im.net.bb.sntp with
  | none => im
  | some (n, f) =>
    if f + 1000 < im.now then im
    else if !(1 ≤ stratum && stratum ≤ 15) || alarm then (im.setReg 0x290B 4 3).sntpNext n
    else
      let im := (im.setReg 0x290B 4 1).onBb (fun b => { b with sntp := none })
      let im := { im with clk := { im.clk with lastSntp := some im.now } }
      if !im.ptpLate then im
      else
        let utc := im.sreg 0x2104 7
        let tai := Int.ofNat (utcMs * 1000) + utc * 1000000
        (im.takeUtc utc).discipline 2 (Int.ofNat im.clk.wallUs - tai)

/-- A source in use falls silent (R202). -/
def Image.sourceSilent (im : Image) : Image :=
  im.sourceTimeout

/-- PTP valid for 10 s without interruption is the source again. -/
def Image.ptpReturn (im : Image) : Image :=
  if im.clk.source = 2 && im.ptpValid && im.elapsed im.clk.ptpRunSince 10000 then { im with clk := { im.clk with source := 1 } } else im

end Sys2Proof.Machine
end

