-- ==== Sys2Proof/Machine/BackboneRows.lean ====
section
/-! DEFINITION. The commands of the Ethernet backbone, the service port and the time sources. -/

namespace Sys2Proof.Machine

/-- BACKBONE_LINK_LOSS (R488). -/
def execBackboneLinkLoss (x : Fin 2) (s : State) : Result := s.act (fun im => im.linkLost x)

/-- BACKBONE_LINK_RESTORED (R488). -/
def execBackboneLinkRestored (x : Fin 2) (s : State) : Result := s.act (fun im => im.linkBack x)

/-- DHCP_TIMEOUT (R492). -/
def execDhcpTimeout (s : State) : Result := s.act (fun im => im.dhcpTimeout)

/-- DHCP_LEASE (R492). -/
def execDhcpLease (ip mask gateway : Nat) (s : State) : Result := s.act (fun im => im.dhcpLease ip mask gateway)

/-- ARP_REQUEST (R492): the module's address is answered with its MAC address. -/
def execArpRequest (service : Bool) (ip : Nat) (s : State) : Result :=
  s.serve (fun s => s.edit (fun im => if im.ownAddress service ip then im.send (.arp ip (im.reg 0x2907 6) (im.vlanId service)) else im))

/-- ICMP_ECHO (R492). -/
def execIcmpEcho (service : Bool) (ip : Nat) (s : State) : Result :=
  s.serve (fun s => s.edit (fun im => if im.ownAddress service ip then im.send (.echo ip (im.vlanId service)) else im))

/-- STATUS_TELEGRAM_DUE (R494). -/
def execStatusTelegramDue (s : State) : Result := s.live (fun s => s.statusTelegram)

/-- PD_PULL_REQUEST (R493). -/
def execPdPullRequest (comId : Nat) (s : State) : Result := s.live (fun s => s.pullReply comId)

/-- COMMAND_TELEGRAM (R495). -/
def execCommandTelegram (source seq : Nat) (dataset : Bytes) (s : State) : Result :=
  s.live (fun s => s.commandTelegram source seq dataset)

/-- GATEWAY_READ (R497 to R499). -/
def execGatewayRead (p : Path) (tcp : Bool) (index sub : Nat) (s : State) : Result :=
  s.serve (fun s => s.gatewayRequest ⟨p, tcp, false, index, sub, [], s.img.now⟩)

/-- GATEWAY_WRITE (R497 to R499). -/
def execGatewayWrite (p : Path) (tcp : Bool) (index sub : Nat) (data : Bytes) (s : State) : Result :=
  s.serve (fun s => s.gatewayRequest ⟨p, tcp, true, index, sub, data, s.img.now⟩)

/-- GATEWAY_REQUEST_TIMEOUT (R499). -/
def execGatewayRequestTimeout (p : Path) (s : State) : Result := s.serve (fun s => s.edit (fun im => im.gatewayTimeout p))

/-- TCP_CONNECTION_OPEN (R497). -/
def execTcpConnectionOpen (p : Path) (s : State) : Result := s.serve (fun s => s.edit (fun im => im.tcpOpen p))

/-- TCP_CONNECTION_CLOSE (R498). -/
def execTcpConnectionClose (p : Path) (s : State) : Result := s.serve (fun s => s.edit (fun im => im.tcpClose p))

/-- PTP_SYNC_RECEIVED (R501). -/
def execPtpSyncReceived (offsetNs : Int) (delayNs grandmaster : Nat) (utcOffset : Int) (port : PtpPort)
    (s : State) : Result :=
  s.act (fun im => im.ptpSync offsetNs delayNs grandmaster utcOffset port.slave port.intervalMs)

/-- SNTP_POLL (R502). -/
def execSntpPoll (s : State) : Result := s.act (fun im => im.sntpPoll)

/-- SNTP_REPLY (R502). -/
def execSntpReply (utcMs stratum : Nat) (alarm : Bool) (s : State) : Result := s.act (fun im => im.sntpReply utcMs stratum alarm)

/-- SYNC_SOURCE_TIMEOUT (R202). -/
def execSyncSourceTimeout (s : State) : Result := s.act (fun im => im.sourceSilent)

/-- PTP_RETURN (R202). -/
def execPtpReturn (s : State) : Result := s.act (fun im => im.ptpReturn)

/-- WALL_TIME_SET (R206): 1 to 0x2103:03. -/
def execWallTimeSet (p : Path) (s : State) : Result := s.serve (fun s => s.writeRow p 0x2103 3 [1])

end Sys2Proof.Machine
end

