-- ==== Sys2Proof/Machine/CanRows.lean ====
section
/-! DEFINITION. The commands of the CAN ports: reception, rate detection, fault confinement, the transmit mailboxes. -/

namespace Sys2Proof.Machine

/-- The port controllers run: a lane runs the module, Lining mode serves, or a lane is in start phase 8 (R364, R451). -/
def State.portsUp (s : State) : Bool :=
  let detecting := fun (l : Lane) => (s.lanes.get l).st == .starting && (s.lanes.get l).phase == 8
  s.running || s.lining || (s.powered && (detecting .a || detecting .b))

/-- What a port hears acts while the controllers run; a lane that waits for the rates goes on once they are found. -/
def State.heard (s : State) (f : Image → Image) : Result := s.go (fun s => if s.portsUp then (s.edit f).ratesFound else s)

/-- CAN_FRAME_RECEIVED (R446, R452, R453, R463). -/
def execCanFrameReceived (q : Port) (x : CanRx) (s : State) : Result := s.heard (fun im => im.receive q x)

/-- CAN_CANDIDATE_TIMEOUT (R452). -/
def execCanCandidateTimeout (q : Port) (s : State) : Result :=
  s.heard (fun im => if (im.canPort q).st = .detecting then im.dropNominal q else im)

/-- CAN_ERROR_PASSIVE (R455). -/
def execCanErrorPassive (q : Port) (s : State) : Result := s.serve (fun s => s.edit (fun im => im.errorPassive q))

/-- Entry to bus-off is a communication error for 0x1029 (R455, R468). -/
def Image.busOffEntry (im : Image) (q : Port) : Image := if (im.canPort q).transmits then (im.busOff q).commError else im

/-- CAN_BUS_OFF (R455, R457). -/
def execCanBusOff (q : Port) (s : State) : Result := s.serve (fun s => s.edit (fun im => im.busOffEntry q))

/-- CAN_BUS_OFF_RECOVERY (R455, R456). -/
def execCanBusOffRecovery (q : Port) (s : State) : Result := s.serve (fun s => s.edit (fun im => im.busOffOver q))

/-- CAN_QUARANTINE_END (R457). -/
def execCanQuarantineEnd (q : Port) (s : State) : Result := s.serve (fun s => s.edit (fun im => im.quarantineOver q))

/-- CAN_BUS_OFF_EVENT_CLEAR (R455). -/
def execCanBusOffEventClear (q : Port) (s : State) : Result := s.serve (fun s => s.edit (fun im => im.busOffClear q))

/-- CAN_SUBMIT (R458, R460). -/
def execCanSubmit (q : Port) (mailbox : Fin 32) (id : Nat) (tag : Option Nat) (data : Bytes) (s : State) : Result :=
  s.serve (fun s => s.edit (fun im => im.submit q mailbox ⟨id, data, tag, .other⟩))

/-- A request whose tag has been reached is eligible from now on (R459, R460). -/
def Image.tagDue (im : Image) (q : Port) (k : Fin 32) : Image :=
  match (im.canPort q).boxes.get k with
  | some r => if im.tagReached r.tag then im.onPort q (fun x => { x with boxes := x.boxes.set k (some { r with tag := none }) }) else im
  | none => im

/-- CAN_TIME_TAG_REACHED (R460). -/
def execCanTimeTagReached (q : Port) (mailbox : Fin 32) (s : State) : Result :=
  s.serve (fun s => s.edit (fun im => im.tagDue q mailbox))

/-- A request has been sent; a server whose response it was goes on with its transfer (R461, R467). -/
def Image.sentBox (im : Image) (q : Port) (k : Fin 32) : Image :=
  if !im.contends q k then im
  else
    let im := im.frameSent q k
    if k.val = 2 || k.val = 3 then im.responseSent q k else im

/-- A following standby keeps what it sees sent of responses and TPDOs (R545). -/
def State.keepSent (s : State) (q : Port) (k : Fin 32) : State :=
  match (s.img.canPort q).boxes.get k with
  | some r =>
    if 2 ≤ s.seam.standby && r.answers && s.img.contends q k then
      { s with bus := { s.bus with sent := s.bus.sent ++ [(s.img.now + 1, q, r.id, r.data)] } }
    else s
  | none => s

/-- CAN_FRAME_SENT (R461). -/
def execCanFrameSent (q : Port) (mailbox : Fin 32) (s : State) : Result :=
  s.serve (fun s => (s.keepSent q mailbox).edit (fun im => im.sentBox q mailbox))

/-- CAN_NO_ACK_ABORT (R461, R464). -/
def execCanNoAckAbort (q : Port) (mailbox : Fin 32) (s : State) : Result :=
  s.serve (fun s => s.edit (fun im => im.notAcked q mailbox))

/-- CAN_CANCEL (R462). -/
def execCanCancel (q : Port) (mailbox : Fin 32) (won acked : Bool) (s : State) : Result :=
  s.serve (fun s => s.edit (fun im => im.cancel q mailbox won acked))

/-- SOLITARY_BEACON (R464). -/
def execSolitaryBeacon (q : Port) (s : State) : Result := s.serve (fun s => s.edit (fun im => im.beacon q))

/-- LEGACY_BUS_IDLE_ACCEPT (R532): 500 kbit/s, in Overlay mode, on X7. -/
def execLegacyBusIdleAccept (s : State) : Result :=
  s.heard (fun im => if im.overlay && (im.canPort .x7).st = .detecting then im.acceptNominal .x7 500 else im)

end Sys2Proof.Machine
end

