-- ==== Sys2Proof/Machine/CanopenRows.lean ====
section
/-! DEFINITION. The CANopen commands: NMT, SDO, PDO, SYNC, TIME, heartbeats, LSS, the ports' service commands. -/

namespace Sys2Proof.Machine

/-! ## NMT (R466) -/

/-- An NMT command to this node; in Lining mode the state stays pre-operational (R378). -/
def State.nmtCommand (s : State) (q : Port) (node : Nat) (f : Image → Image) : State :=
  if s.img.nmtFor q node && s.running then s.edit f else s

/-- NMT_START_REMOTE_NODE. -/
def execNmtStartRemoteNode (q : Port) (node : Nat) (s : State) : Result :=
  s.serve (fun s => s.nmtCommand q node (fun im => im.setNmt 5))

/-- NMT_ENTER_PREOPERATIONAL. -/
def execNmtEnterPreoperational (q : Port) (node : Nat) (s : State) : Result :=
  s.serve (fun s => s.nmtCommand q node (fun im => im.setNmt 127))

/-- NMT_STOP_REMOTE_NODE. -/
def execNmtStopRemoteNode (q : Port) (node : Nat) (s : State) : Result :=
  s.serve (fun s => s.nmtCommand q node (fun im => im.setNmt 4))

/-- NMT_RESET_COMMUNICATION. -/
def execNmtResetCommunication (q : Port) (node : Nat) (s : State) : Result :=
  s.serve (fun s => if s.img.nmtFor q node then s.edit Image.resetCommunication else s)

/-- NMT_RESET_NODE. -/
def execNmtResetNode (q : Port) (node : Nat) (s : State) : Result :=
  s.serve (fun s => if s.img.nmtFor q node then s.edit Image.resetNode else s)

/-! ## SDO and PDO -/

/-- SDO_REQUEST (R467). -/
def execSdoRequest (q : Port) (server : Fin 2) (r : SdoReq) (s : State) : Result := s.serve (fun s => s.sdoReceived q server r)

/-- SDO_TRANSFER_TIMEOUT (R467). -/
def execSdoTransferTimeout (server : Fin 2) (s : State) : Result := s.serve (fun s => s.edit (fun im => im.sdoTimeout server))

/-- RPDO_RECEIVED (R468, R469). -/
def execRpdoReceived (q : Port) (n : Fin 32) (data : Bytes) (s : State) : Result := s.live (fun s => s.rpdoReceived q n data)

/-- RPDO_DEADLINE_EXPIRY (R468). -/
def execRpdoDeadlineExpiry (n : Fin 32) (s : State) : Result := s.act (fun im => im.rpdoDeadline n)

/-- TPDO_TRANSMIT (R468). -/
def execTpdoTransmit (n : Fin 32) (s : State) : Result := s.live (fun s => s.tpdoTransmit n)

/-- SYNC_RECEIVED (R469). -/
def execSyncReceived (q : Port) (counter : Option Nat) (s : State) : Result := s.live (fun s => s.syncReceived q counter)

/-- SYNC_WINDOW_CLOSE (R469). -/
def execSyncWindowClose (s : State) : Result := s.act (fun im => im.syncWindow)

/-- SYNC_PRODUCE (R470). -/
def execSyncProduce (s : State) : Result := s.act (fun im => im.produceSync)

/-- TIME_RECEIVED (R471). -/
def execTimeReceived (q : Port) (utcSeconds ms : Nat) (s : State) : Result := s.act (fun im => im.timeReceived q utcSeconds ms)

/-- HEARTBEAT_PRODUCE (R474). -/
def execHeartbeatProduce (s : State) : Result := s.serve (fun s => s.edit Image.heartbeats)

/-- HEARTBEAT_CONSUMER_TIMEOUT (R474). -/
def execHeartbeatConsumerTimeout (k : Fin 16) (s : State) : Result := s.act (fun im => im.heartbeatLost k)

/-- ERROR_HISTORY_CLEAR (R473): 0 to 0x1003:00. -/
def execErrorHistoryClear (p : Path) (s : State) : Result := s.serve (fun s => s.writeRow p 0x1003 0 [0])

/-! ## LSS (R475) -/

/-- An LSS service on a port where the slave answers. -/
def State.lss (s : State) (q : Port) (f : Image → Image) : State := if s.lssOn q then s.edit f else s

/-- LSS_SWITCH_STATE_GLOBAL. -/
def execLssSwitchStateGlobal (q : Port) (configuration : Bool) (s : State) : Result :=
  s.live (fun s => s.lss q (fun im => im.onLss (fun x => { x with configuring := configuration })))

/-- LSS_SWITCH_STATE_SELECTIVE. -/
def execLssSwitchStateSelective (q : Port) (vendor product revision serial : Nat) (s : State) : Result :=
  s.live (fun s => s.lss q (fun im => im.lssSelect q vendor product revision serial))

/-- LSS_CONFIGURE_NODE_ID. -/
def execLssConfigureNodeId (q : Port) (id : Nat) (s : State) : Result := s.live (fun s => s.lss q (fun im => im.lssNodeId q id))

/-- LSS_CONFIGURE_BIT_TIMING. -/
def execLssConfigureBitTiming (q : Port) (table index : Nat) (s : State) : Result :=
  s.live (fun s => s.lss q (fun im => im.lssTiming q table index))

/-- LSS_ACTIVATE_BIT_TIMING; the delay is physical time and moves nothing else. -/
def execLssActivateBitTiming (q : Port) (_delayMs : Nat) (s : State) : Result := s.live (fun s => s.lss q Image.lssActivate)

/-- LSS_STORE_CONFIGURATION. -/
def execLssStoreConfiguration (q : Port) (s : State) : Result := s.live (fun s => s.lss q (fun im => im.lssStore q))

/-- LSS_INQUIRE. -/
def execLssInquire (q : Port) (what : Fin 5) (s : State) : Result := s.live (fun s => s.lss q (fun im => im.lssInquire q what))

/-- LSS identify remote slave: the identity lies within the ranges. -/
def Image.lssIdentify (im : Image) (q : Port) (v p rLow rHigh nLow nHigh : Nat) : Image :=
  if im.identity 0 = v && im.identity 1 = p && decide (rLow ≤ im.identity 2 ∧ im.identity 2 ≤ rHigh) &&
      decide (nLow ≤ im.identity 3 ∧ im.identity 3 ≤ nHigh) then
    im.lssAnswer q [0x4F]
  else im

/-- LSS_IDENTIFY_REMOTE_SLAVE. -/
def execLssIdentifyRemoteSlave (q : Port) (vendor product revLow revHigh serLow serHigh : Nat) (s : State) : Result :=
  s.live (fun s => s.lss q (fun im => im.lssIdentify q vendor product revLow revHigh serLow serHigh))

/-- LSS_IDENTIFY_NONCONFIGURED. -/
def execLssIdentifyNonconfigured (q : Port) (s : State) : Result :=
  s.live (fun s => s.lss q (fun im => if im.configured then im else im.lssAnswer q [0x50]))

/-- LSS_FASTSCAN. -/
def execLssFastscan (q : Port) (idNumber bitCheck : Nat) (lssSub lssNext : Fin 4) (s : State) : Result :=
  s.live (fun s => s.lss q (fun im => im.lssFastscan q idNumber bitCheck lssSub lssNext))

/-! ## Ports in and out of service (R477) -/

/-- CAN_PORT_ENABLE: 1 to P:08. -/
def execCanPortEnable (p : Path) (q : Port) (s : State) : Result := s.serve (fun s => s.writeRow p q.obj 8 [1])

/-- CAN_PORT_DISABLE: 2 to P:08. -/
def execCanPortDisable (p : Path) (q : Port) (s : State) : Result := s.serve (fun s => s.writeRow p q.obj 8 [2])

/-- CAN_PORT_DISABLE_FORCED: 3 to P:08. -/
def execCanPortDisableForced (p : Path) (q : Port) (s : State) : Result := s.serve (fun s => s.writeRow p q.obj 8 [3])

end Sys2Proof.Machine
end

