-- ==== Sys2Proof/Machine/ChannelRows.lean ====
section
/-! DEFINITION. The commands of the load channels, the bank supplies and the train outputs' heat protection. Trips and
thermal latches are the channels' own hardware and act whichever lane runs. -/

namespace Sys2Proof.Machine

/-- CHANNEL_COMMAND_WRITE (R262): C+1:01. -/
def execChannelCommandWrite (p : Path) (c : Chan) (v : Nat) (s : State) : Result :=
  s.serve (fun s => s.writeRow p (cBase c.val + 1) 1 (le 1 v))

/-- CHANNEL_ENABLE (R265): 1 to C+1:02. -/
def execChannelEnable (p : Path) (c : Chan) (s : State) : Result := s.serve (fun s => s.writeRow p (cBase c.val + 1) 2 [1])

/-- CHANNEL_DISABLE (R265): 2 to C+1:02. -/
def execChannelDisable (p : Path) (c : Chan) (s : State) : Result := s.serve (fun s => s.writeRow p (cBase c.val + 1) 2 [2])

/-- CHANNEL_DISABLE_FORCED (R265): 3 to C+1:02. -/
def execChannelDisableForced (p : Path) (c : Chan) (s : State) : Result :=
  s.serve (fun s => s.writeRow p (cBase c.val + 1) 2 [3])

/-- CHANNEL_CLEAR_OVERCURRENT (R252): 4 to C+1:02. -/
def execChannelClearOvercurrent (p : Path) (c : Chan) (s : State) : Result :=
  s.serve (fun s => s.writeRow p (cBase c.val + 1) 2 [4])

/-- CHANNEL_OVERCURRENT_TRIP (R246). -/
def execChannelOvercurrentTrip (c : Chan) (s : State) : Result := s.go (fun s => s.edit (fun im => im.tripChan c false s.running))

/-- CHANNEL_SHORT_CIRCUIT_TRIP (R247). -/
def execChannelShortCircuitTrip (c : Chan) (s : State) : Result := s.go (fun s => s.edit (fun im => im.tripChan c true s.running))

/-- CHANNEL_THERMAL_LATCH (R248); the temperatures measured, 0.1 K and 0.1 °C. -/
def execChannelThermalLatch (c : Chan) (deltaT junction : Int) (s : State) : Result :=
  s.go (fun s => s.edit (fun im => im.thermalChan c deltaT junction s.running))

/-- CHANNEL_THERMAL_CLEAR (R248). -/
def execChannelThermalClear (c : Chan) (s : State) : Result := s.go (fun s => s.edit (fun im => im.thermalChanClear c s.running))

/-- CHANNEL_RETRY_DUE (R250, R267). -/
def execChannelRetryDue (c : Chan) (s : State) : Result := s.act (fun im => im.retryChan c)

/-- CHANNEL_RETRY_RESTORE (R250). -/
def execChannelRetryRestore (c : Chan) (s : State) : Result := s.act (fun im => im.restoreRetries c)

/-- CHANNEL_LATCH_OFF_CLEAR (R252). -/
def execChannelLatchOffClear (c : Chan) (s : State) : Result := s.act (fun im => im.latchOffClear c)

/-- OPEN_LOAD_DETECTED (R258). -/
def execOpenLoadDetected (c : Chan) (s : State) : Result := s.act (fun im => im.openLoadSeen c)

/-- OPEN_LOAD_CLEARED (R258). -/
def execOpenLoadCleared (c : Chan) (s : State) : Result := s.act (fun im => im.openLoadGone c)

/-- BANK_SUPPLY_FAULT (R244). -/
def execBankSupplyFault (d : Door) (cause : Fin 3) (s : State) : Result := s.act (fun im => im.bankFault d cause)

/-- BANK_FAULT_CLEARED (R244). -/
def execBankFaultCleared (d : Door) (s : State) : Result := s.act (fun im => im.bankFaultGone d)

/-- BANK_SUPPLY_LOST (R270): the supply reads below 18 V. -/
def execBankSupplyLost (d : Door) (tenthVolts : Nat) (s : State) : Result :=
  s.act (fun im => if tenthVolts < 180 then im.bankReading d tenthVolts else im)

/-- BANK_SUPPLY_RETURN (R270): the supply reads 18 V or more again. -/
def execBankSupplyReturn (d : Door) (tenthVolts : Nat) (s : State) : Result :=
  s.act (fun im => if 180 ≤ tenthVolts then im.bankReading d tenthVolts else im)

/-- TRAIN_OUTPUT_THERMAL_SHUTDOWN (R606): the output's own protection, without an event. -/
def execTrainOutputThermalShutdown (n : Fin 4) (s : State) : Result :=
  s.go (fun s => s.edit (fun im => { im with tos := upd im.tos n (fun t => { t with on := false, hot := true }) }))

/-- TRAIN_OUTPUT_THERMAL_RESTART (R606). -/
def execTrainOutputThermalRestart (n : Fin 4) (s : State) : Result :=
  s.go (fun s => s.edit (fun im => ({ im with tos := upd im.tos n (fun t => { t with hot := false }) } : Image)))

end Sys2Proof.Machine
end

