-- ==== Sys2Proof/Machine/MirrorOps.lean ====
section
/-! DEFINITION. The Mirror (R89 to R97): a transaction's address, capture, words and check codes; its end; re-reads; the
word register. -/

namespace Sys2Proof.Machine

def State.onMirror (s : State) (f : Mirror → Mirror) : State := { s with mirror := f s.mirror }

/-- The address passes its check: its four bits and the parity bit hold an odd number of ones (R90). -/
def mirrorParity (word : Nat) (parity : Bool) : Bool := (bitsMsb 4 word).foldl xor parity

/-- The bits of a word that hardware drives: the loop switches of IM0, all of IM1, and in IM7 what the Buckle drives, its
epoch, grant lines, qualified line, rails and the stale bit (R91, R96, R97). -/
def mirrorHw (n : Nat) : Nat :=
  if n = 0 then 0xF000 else if n = 1 then 0xFFFFFFFF else if n = 7 then 0xFF00E300 else 0

/-- The words a capture finds: hardware bits as they are at edge 5, the others as the word register has them (R91, R96). -/
def State.mirrorCapture (s : State) : Vector Nat 16 :=
  Vector.ofFn (fun n : Fin 16 =>
    let m := mirrorHw n.val
    (s.mirrorLive n.val &&& m) ||| (s.mirror.words.get n &&& (0xFFFFFFFF - m)))

/-- The first `bits` of the 40 bits of a word and its code. -/
def mirrorBits (word data crc bits : Nat) : Out :=
  if 40 ≤ bits then .mirror word data crc else .mirrorPart word bits ((data * 256 + crc) / 2 ^ (40 - bits))

/-- What a transaction of so many rising edges drives: word after word with its code, the last as far as the clock goes
(R90). -/
def mirrorOutput (word : Fin 16) (words : Vector Nat 16) (edges : Nat) : List Out :=
  (List.range ((edges - 4 + 39) / 40)).map (fun n =>
    let k := (word.val + n) % 16
    let data := words.toList.getD k 0
    mirrorBits k data (mirrorCrc k data) (edges - 4 - 40 * n))

/-- What a transaction with a wrong parity bit drives: no further word follows (R93). -/
def mirrorDenied (word : Fin 16) (edges : Nat) : Out :=
  mirrorBits word.val 0xFFFFFFFF (255 - mirrorCrc word.val 0xFFFFFFFF) (edges - 4)

/-- Re-reads of the last 1,000 ms. -/
def Mirror.recent (m : Mirror) (now : Nat) : List Nat := m.rereads.filter (fun t => decide (now < t + 1000000))

/-- A re-read (R95): the first word of the transaction before, within the window of its end. -/
def State.mirrorReread (s : State) (word : Fin 16) (startUs : Nat) : State :=
  let again := match s.mirror.last with
    | some (w, t) => w == word && decide (startUs ≤ t + s.img.reg 0x230F 3)
    | none => false
  if !again then s
  else
    let s := (s.report (fun im => im.bump 0x2310 2)).onMirror (fun m => { m with rereads := m.recent startUs ++ [startUs] })
    if s.img.reg 0x230F 2 < s.mirror.rereads.length then
      (s.onMirror (fun m => { m with highAt := startUs })).report (fun im => im.raise 39 modScope ⟨0, 0, s.mirror.rereads.length⟩) else s

/-- A transaction: select, address, `edges` rising edges of the clock; it stays selected until it ends (R90 to R95). -/
def State.mirrorTransaction (s : State) (word : Fin 16) (parity : Bool) (edges startUs : Nat) : State :=
  if !s.powered || s.img.reg 0x230F 1 = 0 || s.mirror.active.isSome then s
  else
    let s := (s.report (fun im => im.bump 0x2310 1)).mirrorReread word startUs
    let words := s.mirrorCapture
    let ok := mirrorParity word.val parity
    let s := s.onMirror (fun m => { m with active := some (word, edges, words, startUs) })
    if edges < 5 then s
    else if ok then s.edit (fun im => (mirrorOutput word words edges).foldl Image.send im)
    else (s.report (fun im => im.bump 0x2310 3)).edit (fun im => im.send (mirrorDenied word edges))

/-- The transaction is over: before the last bit of its first word has been taken it counts as aborted (R94). -/
def State.mirrorEnd (s : State) (endUs : Nat) (forced : Bool) : State :=
  match s.mirror.active with
  | none => s
  | some (word, edges, _, _) =>
    let s := s.onMirror (fun m => { m with active := none, last := some (word, endUs) })
    if forced || edges < 45 then s.report (fun im => im.bump 0x2310 4) else s

/-- The reader deasserts select. -/
def State.mirrorDeassert (s : State) (endUs : Nat) : State := s.mirrorEnd endUs false

/-- Select has stayed asserted for 1 ms. -/
def State.mirrorTimeout (s : State) (endUs : Nat) : State :=
  match s.mirror.active with
  | some (_, _, _, start) => if start + 1000 ≤ endUs then s.mirrorEnd endUs true else s
  | none => s

/-- The granted lane updates the word register at a stitch boundary (R91); with no grant the words stand (R96). -/
def State.mirrorWords (s : State) : State :=
  if s.running || (s.lining && s.granted.isSome) then
    s.onMirror (fun m => { m with words := Vector.ofFn (fun n : Fin 16 => s.mirrorLive n.val) })
  else s

/-- EV39 ends once the re-reads of any 1,000 ms have been no more than its threshold for 1,000 ms (R95, R578). -/
def State.mirrorFrame (s : State) : State :=
  let now := s.img.nowUs
  let s := s.onMirror (fun m => { m with rereads := m.recent now })
  if s.img.reg 0x230F 2 < s.mirror.rereads.length then s.onMirror (fun m => { m with highAt := now })
  else if s.mirror.highAt + 1000000 ≤ now then s.edit (fun im => im.clearEv 39 modScope Source.zero)
  else s

end Sys2Proof.Machine
end

