-- ==== Sys2Proof/Machine/Frame.lean ====
section
/-! DEFINITION. The frame (R186 to R191): the boundary and sections D, S, R, L, N and H of the application pair, Lining
mode's share of them, and a missed deadline. -/

namespace Sys2Proof.Machine

/-! ## The boundary (R6, R56, R188) -/

/-- A new frame begins, and the states of the doorways whose transitions have no ledger action pending are published
(R56); the frame of a grant within its first three stitches is run anew instead (R335). -/
def Image.newFrame (im : Image) : Image :=
  let im := { im with clk := { im.clk with frame := wrap 64 (im.clk.frame + 1), stitch := 0, boundary := true } }
  im.publishAll.tickTimes

/-- The committed view shows the states published at a boundary. -/
def State.publish (s : State) : State :=
  { s with committed := { s.committed with
    doors := Vector.ofFn (fun d : Door =>
      let w := s.img.doors.get d
      { s.committed.doors.get d with shown := w.shown, shownPrev := w.shownPrev })
    ev := { s.committed.ev with scopes := Vector.ofFn (fun k : Fin 13 =>
      { s.committed.ev.scopes.get k with shown := (s.img.ev.scopes.get k).shown }) } } }

/-- What was seen on the bus counts in the first frame of a new active alone (R545). -/
def Image.forgetEcho (im : Image) : Image :=
  if im.net.co.echo.isEmpty then im
  else { im with net := { im.net with co := { im.net.co with echo := im.net.co.echo.filter (fun e => decide (im.now ≤ e.1)) } } }

def State.newFrame (s : State) : State :=
  if s.rerun then { s with rerun := false } else (s.edit (fun im => im.newFrame.forgetEcho)).publish

/-- The readings of the frame: bank supplies, channel temperatures and fine currents, the input and the motor bus, the
energy of the doorways' axes. -/
def Image.measureFrame (im : Image) (x : FrameSample) : Image :=
  let im := x.banks.foldl (fun (im : Image) p => im.bankReading p.1 p.2) im
  let im := x.chans.foldl (fun (im : Image) (c : ChanSample) => im.onChan c.chan (fun y => { y with
    deltaT := c.deltaT, junction := c.junction, fine := c.fine, limiting := c.limiting })) im
  let im := x.energy.foldl (fun (im : Image) p => im.onCycle p.1 (fun c => { c with energy := c.energy + p.2 })) im
  match x.power with
  | some (amps, hz, watts, motor) =>
    let im := ((im.setReg 0x2106 3 amps).setReg 0x2106 4 hz).setReg 0x2106 0x0A watts
    { im with belt := { im.belt with pMotor := motor } }
  | none => im

/-- The profile part of a doorway drain's bound ends once its close stroke timeout has been used up (R10). -/
def Image.drainBounds (im : Image) : Image :=
  im.eachDoor (fun im d => im.onDoor d (fun w => { w with
    drain := w.drain.map (fun x =>
      if x.profileDone.isNone && decide (im.strokeBound d .leaves .stroke false ≤ x.ticks) then
        { x with profileDone := some im.now }
      else x) }))

/-- What takes effect at the boundary (R56, R76, R100, R188, R228, R260): the Belt level, g_c, shedding, the channels,
the lane switches, the train outputs; no doorway has moved yet and no event is fresh. -/
def Image.boundary (im : Image) : Image :=
  let im := { im with
    doors := im.doors.map (fun (w : Doorway) => { w with moved := false })
    ev := { im.ev with scopes := im.ev.scopes.map (fun (e : EvState) => { e with fresh := 0 }) } }
  let held := im.belt.level == 3
  let im := (im.levelEffect.adjustG held).shedding
  let im := (im.eachChan Image.frameChan).eachDoor Image.bankFrame
  im.drainBounds.loopCommands.trainOutputs.takeFunctions

/-- From the first frame with the standby's line set, commit-before-act applies again (R320). -/
def State.leaveSingleLane (s : State) : State :=
  if s.qualified && s.img.commit.singleLane then
    s.edit (fun im => { im with commit := { im.commit with singleLane := false } }.clearEv 11 modScope Source.zero)
  else s

/-! ## Section D -/

/-- EV47's condition ends with DI1 read true (R581); what outranks the commands of the frame (R18). -/
def Image.decideFirst (im : Image) (d : Door) : Image :=
  (if im.di d 0 then im.endCondition 47 (doorScope d) else im).evalHigh d

/-- The rest of a doorway's transitions, then what its state lets through: a staged set, a stray relock, an abandonment that
waits (R16, R47, R316, R432). -/
def Image.decideDoor (im : Image) (d : Door) : Image :=
  (((im.evalLow d).takeStaged d).strayRelock d).settleAbandon d

/-- The highest Belt level of the cycles in progress (R57). -/
def Image.noteLevel (im : Image) : Image :=
  im.eachDoor (fun im d => im.onCycle d (fun c => { c with highestBelt := max c.highestBelt im.belt.level }))

/-- The checks of the loops, the mask and the traction on the input image (R75, R78, R79). -/
def Image.loopChecks (im : Image) (x : FrameSample) : Image :=
  let im := im.maskFrame x.maskReadback
  ((im.loopFrame .a x.loopA).loopFrame .b x.loopB).tractionFrame

/-- What is decided before the commands of the frame: the permits, then for each doorway in ascending order handle, faults,
obstacles and the withdrawal of its token. -/
def Image.decideHigh (im : Image) : Image := im.decidePermits.eachDoor Image.decideFirst

/-- What is decided after them: the rest of each doorway's transitions, the retries, the Belt level. -/
def Image.decideAll (im : Image) : Image :=
  let im := (im.eachDoor Image.decideDoor).resumeTrips.eachAxis Image.countClean
  im.noteLevel.supplyFrame.decideLevel.restTimer

/-- The writes due in this frame; in Overlay mode what RPDOs wrote takes effect in even frames only (R535). -/
def State.dueNow (s : State) : State × List (DueWrite × Bool) :=
  let odd := s.img.overlay && s.img.now % 2 = 1
  let byRpdo := fun (d : DueWrite) => match d.path with | .rpdo _ => true | _ => false
  s.takeDue (fun d => !(odd && byRpdo d))

/-- Section D (R186): the input image, the writes received, the decisions. A forced isolation comes first of all; the other
commands follow what outranks them (R18). -/
def State.sectionD (s : State) (x : FrameSample) : State :=
  let s := s.edit (fun im => ((im.inputsFrame x).readTrain true).loopChecks x)
  let r := s.dueNow
  let s := (r.2.filter DueWrite.forced).foldl State.applyDue r.1
  let s := s.edit Image.decideHigh
  let s := (byRank (r.2.filter (fun d => !DueWrite.forced d))).foldl State.applyDue s
  s.edit (fun im => im.decideAll.takeStoreValues.settleEvents)

/-! ## Section R -/

/-- What section R knows; `im0`: the image at the start of section D. -/
def State.assembleCtx (s : State) (im0 : Image) (l : Lane) (lining : Bool) : AssembleCtx where
  im0 := im0
  view := fun idx sub => s.num im0 .x9 idx sub
  lane := l.code
  epoch := s.epoch
  lining := lining
  queued := (s.stores.get l).queue.length
  flying := s.flying
  oldest := (s.stores.get l).oldest s.committed.rcd.floor

/-! ## Section S (R187, R314 to R316) -/

/-- At most 48 delta blocks leave in a frame; the entries that do not fit are carried (R314). -/
def Image.deltaShare (im : Image) (blocks : Nat) : Image × Nat :=
  let need := im.commit.carried + blocks
  let now := min 48 need
  let im := { im with commit := { im.commit with carried := need - now } }
  let im := if 48 < need then im.bump 0x2203 7 else im
  ((im.setReg 0x2203 2 now).setReg 0x2203 3 (max (im.reg 0x2203 3) now), now)

/-- The commit of the frame: the first 16 actions due, the answers whose values it carries, its records, the handover
flag (R315, R316, R334). -/
def Image.seal (im : Image) (qualified : Bool) (records : List Nat) (flying : Nat) : Image :=
  let c := im.commit
  let due := c.decided.take c.left ++ sortActions (c.decided.drop c.left)
  let hold := decide (c.carried ≠ 0)
  let flag := c.handover && qualified && !c.out.any (·.handover)
  let r : CommitRec := ⟨im.now, due.take 16, if hold then [] else c.answers, records, flag⟩
  { im with commit := { c with
    decided := due.drop 16, left := (due.drop 16).length, answers := if hold then c.answers else [],
    out := c.out ++ [r], flying := flying } }

/-- Send blocks of a kind with the indices from `from_` on, out of so many of the transfer. -/
def State.sendMany (s : State) (l : Lane) (body : BlockBody) (from_ n count : Nat) : State :=
  (List.range n).foldl (fun (s : State) i => s.sendBlock l body ⟨s.img.now, from_ + i, count⟩ none) s

/-- Image blocks of a full copy, at the copy rate, at most 24 on one link (R322); a section to be sent again (R325). -/
def State.sendCopy (s : State) (l : Lane) : State :=
  let s := match s.seam.again with
    | some n => (s.sendBlock l .image ⟨s.img.now, n, 4096⟩ none).onSeam (fun m => { m with again := none })
    | none => s
  match s.seam.copyNext with
  | some n =>
    let rate := if s.seam.upCount = 1 then min 24 (s.img.reg 0x2204 2) else s.img.reg 0x2204 2
    let k := min rate (4096 - n)
    if s.seam.upCount = 0 then s
    else (s.sendMany l .image n k 4096).onSeam (fun m => { m with copyNext := if n + k = 4096 then none else some (n + k) })
  | none => s

/-- Digest blocks of a survey, at most 4 in a frame (R324). -/
def State.sendDigests (s : State) (l : Lane) : State :=
  let s := if s.img.now % 64 = 0 && s.standbyUp then s.onSeam (fun m => { m with digestNext := some 0 }) else s
  match s.seam.digestNext with
  | some n =>
    let k := min 4 (34 - n)
    (s.sendMany l (.digest true true 0) n k 34).onSeam (fun m => { m with digestNext := if n + k = 34 then none else some (n + k) })
  | none => s

/-- The frame is sealed (R314, R315): its image is kept until its commit has taken effect and a following standby has
applied it, and its blocks wait for their stitch. -/
def State.sectionS (s : State) (blocks : Nat) (records : List Nat) (stitch : Nat) : State :=
  let share := s.img.deltaShare (max blocks records.length)
  let s := s.edit (fun _ => share.1.seal s.qualified records s.flying)
  { s with sealed := s.sealed ++ [{ s.img with outs := [] }], release := some ⟨share.2, stitch⟩ }

/-- The frame delta leaves: the entries of ledger actions and the record blocks, then the other delta blocks, the commit block
last, then copy and digest blocks (R187, R314, R322, R401); from now on the frame cannot be dropped. -/
def State.releaseFrame (s : State) (l : Lane) : State :=
  match s.release with
  | none => s
  | some r =>
    let s := { s with release := none, before := none }
    let f := s.img.now
    let im := s.sealedAt f
    let n := r.blocks
    let c := im.commit.out.find? (fun c => c.frame == f)
    let payload := c.map (fun c => im.commitPayload c n)
    let seqs := (c.map (·.records)).getD []
    let logged := (im.rcd.log.filter (fun x => seqs.contains x.seq)).reverse
    let lead := if (c.map (fun c => c.actions.isEmpty)).getD true then 0 else min 1 (n - logged.length)
    let s := s.sendMany l .delta 0 lead (n + 1)
    let s := (logged.zip (List.range logged.length)).foldl (fun (s : State) p =>
      s.sendBlock l .record ⟨f, lead + p.2, n + 1⟩ (some p.1.block)) s
    let s := s.sendMany l .delta (lead + logged.length) (n - lead - logged.length) (n + 1)
    let s := s.sendBlock l (.commit true) ⟨f, n, n + 1⟩ payload
    (s.sendCopy l).sendDigests l

/-! ## Sections L, N and H -/

/-- Section L: a survey frame's survey is due, with the commit of the frame (R434). -/
def Image.sectionL (im : Image) : Image :=
  { im with commit := { im.commit with survey := im.commit.survey || im.now % 64 = 0 } }

/-- The requests of the frames that a switchover has discarded are drained anew (R545). -/
def State.replayBus (s : State) : State :=
  let xs := s.bus.replay
  xs.foldl (fun (s : State) x =>
    let n := s.img.due.length
    let t := s.sdoRequest x.1 x.2.1 x.2.2.1
    if x.2.2.2 then t.edit (fun im => { im with due := im.due.take n }) else t) { s with bus := { s.bus with replay := [] } }

/-- Section N: EMCY of earlier frames go out, those of this frame queue; gateway requests that wait are served; the
receive FIFOs are drained. -/
def State.sectionN (s : State) : State :=
  let s := s.edit (fun im => ((im.sendEmcy .x7).sendEmcy .x8).takeEmcy)
  s.replayBus.serveWaiting.edit (fun im => (im.drainFifo .x7).drainFifo .x8)

/-- Section H: the stores' time, EV23, the frame work's cycles, the time run single-lane, EV39. -/
def State.sectionH (s : State) (cycles : Nat) : State :=
  let now := s.img.now
  let s := { s with stores := ⟨s.stores.a.tick now, s.stores.b.tick now⟩ }
  let s := s.edit (fun im =>
    let im := im.storeEvent s.stores.a s.stores.b
    let im := { im with clk := { im.clk with lastCycles := cycles } }
    let im := im.setReg 0x2100 5 (max (im.reg 0x2100 5) cycles)
    if im.commit.singleLane && im.now % 1000 = 999 then im.bump 0x2200 7 else im)
  s.mirrorFrame

/-! ## The frame work -/

/-- The stitch in which so many cycles end that began with stitch `from_` (R186). -/
def endStitch (core cycles from_ : Nat) : Nat := from_ + 2 * cycles / (125 * max 1 core)

/-- The stitch at which the frame delta is released: 3, or for a frame run anew the one after its section S where that is
later (R187, R335). -/
def Image.releaseStitch (im : Image) : Nat := max 3 (endStitch im.clk.core 28000 im.clk.stitch + 1)

/-- Sections D to S on the image, with what precedes them at the boundary. -/
def State.decideFrame (s : State) (l : Lane) (x : FrameSample) : State :=
  let s := s.edit (fun im => (im.measureFrame x).boundary)
  let im0 := s.img
  (s.sectionD x).edit (fun im => im.assemble (s.assembleCtx im0 l false))

/-- Work carried over from a missed second deadline runs directly after section S (R190). -/
def State.finishWork (s : State) : State :=
  match s.work with
  | some w => { s.sectionH w.cycles with work := none }
  | none => s

/-- The frame work of the active lane (R186): sections D, S, R, L and N; section H ends in the stitch its cycles lead to. -/
def State.activeFrame (s : State) (l : Lane) (x : FrameSample) : State :=
  let b : Before := ⟨{ s.img with outs := [] }, s.committed, s.stores.get l, s.takeover⟩
  let s := s.newFrame.switchoverRecord.moveGrant
  if !s.running then s
  else
    let s := { s.leaveSingleLane with before := some b }
    let last := s.img.reg 0x2700 2
    let s := s.decideFrame l x
    let s := (s.sectionS x.deltaBlocks (newSeqs last (s.img.reg 0x2700 2)) s.img.releaseStitch).finishWork
    let s := (s.edit Image.sectionL).sectionN
    { s with work := some ⟨s.img.now, x.cycles, endStitch s.img.clk.core x.cycles s.img.clk.stitch, false⟩ }

/-- The standby runs the same frame in shadow, on the image it has applied and its own samples (R305); nothing it sends
leaves, and its decisions are discarded when it applies the active's commit. -/
def State.shadowFrame (s : State) (x : FrameSample) : State :=
  match s.trail, s.granted with
  | some t, some l =>
    let u : State := { s with img := t.newFrame }
    let u := (((u.decideFrame l x).edit Image.sectionL).sectionN).sectionH x.cycles
    { s with trail := some { u.img with outs := [] } }
  | _, _ => s

/-- The Lining lane's frame: times, writes answered at once, requests, the Lining record once it is granted (R378,
R379). -/
def State.liningFrame (s : State) (x : FrameSample) : State :=
  let s := s.newFrame
  let s := (s.edit (fun im => im.measureFrame x)).applyAllDue
  let s := s.sectionN
  match s.granted with
  | some l =>
    let im0 := s.img
    let last := im0.reg 0x2700 2
    let only := im0.rcd.drafts.filter (fun d => d.type == 0x0D)
    let s := s.edit (fun im => { im with rcd := { im.rcd with drafts := [] } })
    let s := s.edit (fun im => only.foldl (fun (im : Image) d => im.assignDraft (s.assembleCtx im0 l true) d) im)
    let seqs := newSeqs last (s.img.reg 0x2700 2)
    let s := s.onStore l (fun y => y.push seqs)
    let s := if seqs.isEmpty then s
      else if s.seam.upCount ≠ 0 then (s.sendBlock l .record ⟨s.img.now, 0, 1⟩ (s.img.rcd.log.head?.map Record.block)).onStore l.other (fun y => y.push seqs) else s
    s.note (fun im => if seqs.isEmpty then im else
      { im.setReg 0x2700 2 (s.img.reg 0x2700 2) with rcd := { im.rcd with log := s.img.rcd.log } })
  | none => s

/-- A frame boundary. -/
def State.frameWork (s : State) (x : FrameSample) : State :=
  let s := if s.rerun then s else s.shadowFrame x
  match s.activeLane with
  | some l => s.activeFrame l x
  | none => if s.lining then s.liningFrame x else s

/-! ## Overrun (R190, R191) -/

/-- The frame's decisions do not take effect, and no delta of it leaves: what the hardware and the slices hold goes on, the
decisions and the record store are as before the frame, and the writes the frame took are due again. -/
def State.dropFrame (s : State) (l : Lane) (b : Before) : State :=
  let cur := s.img
  let due := (s.drained.filter (fun d => d.1 == cur.now)).map (·.2)
  let im := { b.img.resume cur with net := cur.net, outs := cur.outs, due := (if due.isEmpty then b.img.due else due) ++ cur.due }
  let s := { s with
    img := im, committed := b.committed, takeover := b.takeover, before := none, release := none
    sealed := s.sealed.filter (fun y => y.now != cur.now)
    drained := s.drained.filter (fun d => d.1 != cur.now) }
  (s.publish).onStore l (fun _ => b.store)

/-- An overrun of a lane in the present frame (R190, R191): EV06 and its count; the second in a row is a lane fault. `cause`:
the deadline missed. -/
def State.countOverrun (s : State) (l : Lane) (cause : Nat) : State :=
  let now := s.img.now
  let again := match (s.lanes.get l).overran with
    | some (f, _) => decide (f + 1 = now)
    | none => false
  let s := s.report (fun im => (im.bump 0x2100 (5 + cause)).occur 6 modScope ⟨0, cause, 0⟩)
  let s := s.onLane l (fun x => { x with overran := some (now, cause == 2) })
  if again then s.laneFault l (if s.granted == some l then 7 else 8) 0 0 0 else s

/-- A deadline is missed: a first one drops the frame; after a second one the work not finished goes on in the next frame
(R190). -/
def State.frameOverrun (s : State) (l : Lane) (w : Deadline) : State :=
  let x := s.lanes.get l
  if !s.powered || x.st != .operational || x.faulted then s
  else
    let mine := s.activeLane == some l
    match w with
    | .first => (match s.before with
        | some b => if mine then s.dropFrame l b else s
        | none => s).countOverrun l 1
    | .second => (if mine then { s with work := s.work.map (fun w => { w with carried := true }) } else s).countOverrun l 2

end Sys2Proof.Machine
end

