-- ==== Sys2Proof/Machine/StitchOps.lean ====
section
/-! DEFINITION. The stitch of the whole module (R108, R184, R310, R328, R329): slice work, strobes at the Buckle, hold
window, blocks in flight; and the receipt of a Seam block (R308 to R313). -/

namespace Sys2Proof.Machine

/-! ## The Buckle at a boundary (R326, R328 to R330) -/

/-- A lane drives its strobe (R328). -/
def LaneState.strobes (x : LaneState) : Bool := (x.st == .operational || x.st == .lining) && !x.faulted && !x.withhold

/-- The Buckle samples the strobes, and counts what its rules count. -/
def State.sampleStrobes (s : State) : State :=
  let now : PerLane Bool := ⟨s.lanes.a.strobes, s.lanes.b.strobes⟩
  let b := s.buckle
  let missing := match b.granted with
    | some l => if now.get l then 0 else b.missing + 1
    | none => 0
  let count := fun (l : Lane) => if now.get l then b.present.get l + 1 else 0
  let s := s.onBuckle (fun b => { b with
    before := b.strobe, strobe := now, missing := missing, present := ⟨count .a, count .b⟩
    bothDown := if s.seam.upCount = 0 then b.bothDown + 1 else 0
    window := b.window.map (· + 1) })
  if s.img.reg 0x2201 3 < min 4 missing then s.note (fun im => im.setReg 0x2201 3 (min 4 missing)) else s

/-- Stitches the cells have held, and since a switchover's grant (R337, R340, R350). -/
def State.ageHold (s : State) : State :=
  { s with
    hold := if s.hold.st = 1 || s.buckle.window.isSome then { s.hold with stitches := s.hold.stitches + 1 } else s.hold
    takeover := s.takeover.map (fun t => { t with age := t.age + 1 }) }

/-! ## The Seam in a stitch (R310) -/

/-- One link acknowledgement block for each lane and link that have received blocks, with up to 120 of them in the order of
their arrival. -/
def State.sendLinkAcks (s : State) : State :=
  let due := s.seam.toAck
  let s := s.onSeam (fun m => { m with toAck := [] })
  [(Lane.a, Link.one), (.a, .two), (.b, .one), (.b, .two)].foldl (fun (s : State) p =>
    let seqs := (due.filter (fun e => e.1 == p.1 && e.2.1 == p.2)).map (·.2.2)
    if !seqs.isEmpty && s.seam.up p.2 then
      let s := s.sendOn p.1 p.2 (.linkAck (seqs.take 120)) ⟨s.img.now, 0, 1⟩ (some (linkAckPayload seqs))
      s.onSeam (fun m => { m with toAck := m.toAck ++ (seqs.drop 120).map (fun q => (p.1, p.2, q)) })
    else s) s

/-- Blocks in flight age. -/
def State.ageFlights (s : State) : State :=
  s.onSeam (fun m => { m with flights := m.flights.map (fun f => { f with age := f.age + 1 }) })

/-! ## The stitch -/

/-- A stitch while no lane works the slices: inputs, edges, channels and supply are sampled; with no lane and no Lining
lane the times run here. -/
def State.idleStitch (s : State) (x : StitchSample) : State :=
  let s := s.edit (fun im => (((im.nextStitch.sampleInputs x).sampleEdges x).sampleChans x).sampleSupply x.supply)
  if !s.lining && s.img.clk.stitch = 0 && !s.img.clk.boundary then s.edit Image.tickTimes else s

/-- What this stitch brings to effect: commits acknowledged or given up in the last one, and the release of the frame, with
which a single lane's decisions take effect (R187, R189, R320, R337). -/
def State.landStitch (s : State) : State :=
  match s.activeLane with
  | none => s
  | some l =>
    let s := match s.landing with
      | some f => { s with landing := none }.settle f
      | none => s
    match s.release with
    | some r =>
      if s.img.clk.boundary || s.img.clk.stitch < r.stitch then s
      else
        let s := s.releaseFrame l
        if s.img.commit.singleLane then (s.settle s.img.now).firstCommit else s
    | none => s

/-- Section H ends in its stitch, unless the second deadline has passed over it (R186, R190). -/
def State.workStitch (s : State) : State :=
  match s.work with
  | some w => if s.running && !w.carried && !s.img.clk.boundary && decide (w.stitch ≤ s.img.clk.stitch) then s.finishWork else s
  | none => s

/-! ## The standby's stitch (R191, R195, R305, R306) -/

/-- A generator of the last applied commit, advanced by the standby's own clock through the stitches since. -/
def Gen.advanced (g : Gen) (ticks : List Nat) : Gen := ticks.foldl (fun (g : Gen) n => g.stitch n (n == 0)) g

/-- At stitch 0 after a commit has been applied, a generator whose set-point is more than 1/256 µm from the committed one,
advanced, is seeded from it (R306). -/
def Gen.seeded (own com : Gen) (ticks : List Nat) : Gen × Bool :=
  let c := com.advanced ticks
  if com.move.isSome && own.orders.isEmpty && decide (1 < (own.pos - c.pos).natAbs) then
    ({ own with pos := c.pos, vel := c.vel, acc := c.acc, move := c.move }, true)
  else (own, false)

/-- The standby's g and ġ are the committed ones, advanced by its own slew (R195). -/
def Image.seedG (t com : Image) (stitches : Nat) : Image :=
  let r := (List.range stitches).foldl (fun (r : Nat × Int) _ =>
    slewG r.1 r.2 (t.clk.gc * 64 * gUnit) (t.reg 0x2101 3 * 65536) (t.reg 0x2101 4 * 4096)) (com.clk.gFine, com.clk.gRate)
  if t.clk.stopped then t else { t with clk := { t.clk with gFine := r.1, gRate := r.2 } }

/-- The comparison at stitch 0: the image seeded, and how many generators were. -/
def Image.seed (t com : Image) (ticks : List Nat) : Image × Nat :=
  let t := t.seedG com ticks.length
  (allFin 12).foldl (fun (r : Image × Nat) d =>
    let w := r.1.door d
    let c := com.door d
    let a := w.leaves.seeded c.leaves ticks
    let b := w.step.seeded c.step ticks
    let im := r.1.onDoor d (fun w => { w with leaves := a.1, step := b.1 })
    (allFin 3).foldl (fun (r : Image × Nat) k =>
      let x := (r.1.axis (axisOf d k)).solo.seeded (com.axis (axisOf d k)).solo ticks
      (r.1.onAxis (axisOf d k) (fun y => { y with solo := x.1 }), r.2 + b2n x.2)) (im, r.2 + b2n a.2 + b2n b.2)) (t, 0)

/-- The duty cycle of a half-bridge that is driven; 0 of any other. -/
def Half.share : Half → Nat
  | .driven n => n
  | _ => 0

/-- The standby's current loops in tracking: each reads back what is applied to its bridges and sets its integrator so that
its output equals that (R306). -/
def Image.trackLoops (t act : Image) : Image :=
  t.eachAxis (fun t a =>
    let now := (act.axis a).drive.applied
    t.onAxis a (fun x => { x with drive := { x.drive with
      applied := now, loaded := now, loop := Config.loopTracking (now.toList.map Half.share) x.drive.angle } }))

/-- The standby's slices run the stitch on its own samples; the seeding of stitch 0 comes first. -/
def State.shadowStitch (s : State) (x : StitchSample) : State :=
  match s.trail with
  | none => s
  | some t =>
    let n := t.now - s.shadow.now
    let ticks := (s.trailG.take (16 * n)).reverse
    let due := t.clk.boundary && decide (n = 1) && decide (ticks.length = 16)
    let r := if due then t.seed s.shadow ticks else (t, 0)
    let t := r.1.stitchWork x
    let s := if r.2 = 0 then s else s.report (fun im => im.bumpBy 0x2205 5 r.2)
    { s with trail := some { t.trackLoops s.img with outs := [] }, trailG := ((if t.clk.stopped then 0 else t.clk.g) :: s.trailG).take 64 }

/-- A standby that has a commit whole since stitch k and has not applied it by the end of stitch k+1 has overrun the frame
(R191). -/
def State.lateCommit (s : State) : State :=
  match s.activeLane with
  | none => s
  | some l =>
    let late := fun (r : RxFrame) => !r.late && (match r.whole with | some t => decide (t + 2 ≤ s.tick) | none => false)
    if s.standbyUp && 3 ≤ s.seam.standby && s.seam.rx.any late then
      (s.onSeam (fun m => { m with rx := m.rx.map (fun r => { r with late := r.late || late r }) })).countOverrun l.other 1
    else s

/-- A stitch boundary and the stitch that follows it (R108); what lands in the stitch is in the Mirror's words from the next
boundary on (R91). -/
def State.stitch (s : State) (x : StitchSample) : State :=
  if !s.powered then s
  else
    let s := ({ s with tick := s.tick + 1 }.sampleStrobes).ageHold
    let s := s.ageFlights.sendLinkAcks
    let s := s.shadowStitch x
    let s := if s.running then s.edit (fun im => im.stitchWork x) else s.idleStitch x
    (s.mirrorWords.landStitch).workStitch.lateCommit

/-! ## A block is received (R308 to R313) -/

/-- A lane hears the Seam. -/
def State.hears (s : State) (l : Lane) : Bool :=
  let x := s.lanes.get l
  s.powered && !x.faulted && (x.st == .operational || x.st == .lining || (x.st == .starting && decide (6 ≤ x.phase)))

/-- A fault report (R357): it is kept for the switchover; the active lane learns from it that its standby has failed. -/
def State.faultReported (s : State) (l : Lane) (f : FaultReport) : State :=
  let s := s.onLane l (fun x => { x with reported := (f.event, f.checker) })
  match s.activeLane with
  | some k =>
    if k = l then s
    else
      let s := if f.event = 13 || f.event = 14 then s.edit (fun im => im.occur f.event modScope ⟨0, f.checker, f.unit⟩) else s
      s.standbyGone l
  | none => s

/-- A status block: the larger power-cycle count stands (R199); the bytes of a load the standby holds (R561); its survey
(R434). A failed start it reports has been raised with that start. -/
def State.statusReceived (s : State) (l : Lane) (p : StatusPayload) : State :=
  let s := s.onLane l (fun x => { x with statusAt := s.tick })
  let s := if s.img.reg 0x2102 2 < p.powerCycles then s.note (fun im => im.setReg 0x2102 2 p.powerCycles) else s
  let fromStandby := match s.activeLane with
    | some k => decide (k ≠ l)
    | none => false
  if !fromStandby then s
  else
    let s := match p.survey with
      | some (mask, _) => s.onSeam (fun m => { m with standbyBreach := m.standbyBreach ||| mask })
      | none => s
    if s.img.net.upd.chunkSince.isSome || p.bytesHeld ≠ 0 then s.bytesReported p.bytesHeld else s

/-- What a block that is new and of this epoch brings. Commit and link acknowledgements are taken in steps of their own,
as is a commit that is whole. -/
def State.blockContent (s : State) (b : SeamBlock) : State :=
  let fromActive := s.activeLane == some b.sender
  match b.body with
  | .delta | .record => if fromActive then s.onSeam (fun m => m.rxBlock b none s.tick) else s
  | .commit ok => if fromActive then s.onSeam (fun m => m.rxBlock b (some ok) s.tick) else s
  | .image => if fromActive then s.sectionHeld b.index else s
  | .digest live unused n => if fromActive && 3 ≤ s.seam.standby then s.digestCompared live unused n else s
  | .status p => s.statusReceived b.sender p
  | .fault f => s.faultReported b.sender f
  | .ack _ | .linkAck _ | .test | .other => s

/-- A Seam block is received. -/
def State.seamBlockReceived (s : State) (b : SeamBlock) : State :=
  let r := b.sender.other
  if !s.hears r || !s.seam.up b.link then s
  else if !b.crcOk || b.body = .other then s.report (fun im => im.bump 0x2202 7)
  else if b.epoch ≠ s.epoch then
    { s.report (fun im => im.bump 0x2202 8) with takeover := s.takeover.map (fun t => { t with stale := t.stale + 1 }) }
  else
    let s := s.onSeam (fun m => { m with toAck := m.toAck ++ [(r, b.link, b.seq)] })
    if (s.seam.received.get b.sender).contains b.seq then s.report (fun im => im.bump 0x2202 8)
    else (s.onSeam (fun m => { m with received := m.received.on b.sender (fun q => (b.seq :: q).take 256) })).blockContent b

end Sys2Proof.Machine
end

