-- ==== Sys2Proof/Machine/ClockRows.lean ====
section
/-! DEFINITION. The commands of the clocks and the frame work: stitches, frames, the Belt, the survey, missed deadlines. -/

namespace Sys2Proof.Machine

/-- STITCH (R108): a stitch boundary and the slice work of the stitch. -/
def execStitch (x : StitchSample) (s : State) : Result := s.go (fun s => s.stitch x)

/-- FRAME_WORK (R186): a frame boundary and sections D, S, R, L, N and H. -/
def execFrameWork (x : FrameSample) (s : State) : Result := s.go (fun s => s.frameWork x)

/-- BELT_CONDITION_CONFIRMED (R219): a condition has held for its confirmation count. -/
def execBeltConditionConfirmed (c : BeltCond) (s : State) : Result := s.act (fun im => im.confirmCond c)

/-- BELT_STEP_DOWN (R223): the exit hysteresis has run out. -/
def execBeltStepDown (s : State) : Result := s.act (fun im => im.stepDown)

/-- SURVEY (R434, R435, R325): due in every 64th frame. -/
def execSurvey (s : State) : Result := s.live (fun s => if s.img.commit.survey then s.survey else s)

/-- FRAME_OVERRUN (R190, R191): a deadline of R187 is missed. -/
def execFrameOverrun (l : Lane) (w : Deadline) (s : State) : Result := s.go (fun s => s.frameOverrun l w)

/-- A slice has missed the stitch boundary: a lane fault of that slice's pair (R185, R357). -/
def State.watchdog (s : State) (l : Lane) (slice : Fin 4) : State :=
  if (s.lanes.get l).st = .operational then
    s.laneFault l (if s.granted == some l then 7 else 8) 0 (slice.val + 1) 0
  else s

/-- SLICE_WATCHDOG (R185). -/
def execSliceWatchdog (l : Lane) (slice : Fin 4) (s : State) : Result := s.go (fun s => s.watchdog l slice)

end Sys2Proof.Machine
end

