-- ==== Sys2Proof/Machine/DictionaryRows.lean ====
section
/-! DEFINITION. The commands of the object dictionary, of the stored sets and of the Overlay dictionary. -/

namespace Sys2Proof.Machine

/-- DICTIONARY_WRITE (R511): checked now, applied in the next frame. -/
def execDictionaryWrite (p : Path) (index sub : Nat) (data : Bytes) (s : State) : Result :=
  s.serve (fun s => s.queueWrite p index sub data)

/-- STORE_ALL (R520). -/
def execStoreAll (p : Path) (signature : Nat) (s : State) : Result := s.serve (fun s => s.writeRow p 0x1010 1 (le 4 signature))

/-- STORE_COMMUNICATION (R520). -/
def execStoreCommunication (p : Path) (signature : Nat) (s : State) : Result :=
  s.serve (fun s => s.writeRow p 0x1010 2 (le 4 signature))

/-- STORE_APPLICATION (R520). -/
def execStoreApplication (p : Path) (signature : Nat) (s : State) : Result :=
  s.serve (fun s => s.writeRow p 0x1010 3 (le 4 signature))

/-- An answer that waits for the commits on their way (R520). -/
def Image.answerAfter (im : Image) (p : Path) (idx sub : Nat) : Image :=
  match im.commit.out.reverse with
  | [] => im.reply p idx sub 0 []
  | c :: cs => { im with commit := { im.commit with out := ({ c with answers := c.answers ++ [⟨p, idx, sub, false⟩] } :: cs).reverse } }

/-- The NOR write of a store has ended (R520): each lane that holds the commit has the new set; a failed write leaves the
previous one; before section D has taken its values there is nothing to end. -/
def State.storeEnd (s : State) (ok : Bool) : State :=
  match s.img.net.upd.store with
  | some (set, p, some new) =>
    if ok then
      let both := s.qualified
      let s := s.edit (fun im => im.storeDone set new)
      let s := { s with nor := s.nor.on s.owner (fun _ => new) }
      let s := if both then { s with nor := s.nor.on s.owner.other (fun _ => new) } else s
      s.edit (fun im => im.answerAfter p 0x1010 set)
    else s.edit (fun im => (im.onUpd (fun u => { u with store := none })).reply p 0x1010 set abStorage [])
  | _ => s

/-- STORE_COMPLETE (R520). -/
def execStoreComplete (ok : Bool) (s : State) : Result := s.live (fun s => s.storeEnd ok)

/-- RESTORE_ALL (R521). -/
def execRestoreAll (p : Path) (signature : Nat) (s : State) : Result := s.serve (fun s => s.writeRow p 0x1011 1 (le 4 signature))

/-- RESTORE_COMMUNICATION (R521). -/
def execRestoreCommunication (p : Path) (signature : Nat) (s : State) : Result :=
  s.serve (fun s => s.writeRow p 0x1011 2 (le 4 signature))

/-- RESTORE_APPLICATION (R521). -/
def execRestoreApplication (p : Path) (signature : Nat) (s : State) : Result :=
  s.serve (fun s => s.writeRow p 0x1011 3 (le 4 signature))

/-- MODE_SELECT_WRITE (R525): 0x2FF0:02. -/
def execModeSelectWrite (p : Path) (v : Nat) (s : State) : Result := s.serve (fun s => s.writeRow p 0x2FF0 2 (le 1 v))

/-- The value of a legacy object as it comes in an SDO, at the object's own width. -/
def State.legacyWrite (s : State) (idx sub v : Nat) : State :=
  match s.img.rowFor .sdo1 idx sub with
  | some r => s.writeRow .sdo1 idx sub (le r.ty.bytes v)
  | none => s.writeRow .sdo1 idx sub (le 4 v)

/-- LEGACY_STAGED_WRITE (R538): over SDO server 1 of X7, in Overlay mode. -/
def execLegacyStagedWrite (index sub value : Nat) (s : State) : Result :=
  s.live (fun s => if s.img.overlay then s.legacyWrite index sub value else s)

/-- G_RECORD_READ (R550): 0x2005:01 of the legacy dictionary. -/
def State.gAnswer (s : State) (p : Path) : State :=
  match s.readRow p 0x2005 1 [] with
  | (s, code, data) => s.answer p 0x2005 1 code data

/-- G_RECORD_READ (R550). -/
def execGRecordRead (p : Path) (s : State) : Result := s.serve (fun s => s.gAnswer p)

/-- G_RECORD_CLEAR (R551): 1 to 0x2007:01 of the legacy dictionary. -/
def execGRecordClear (p : Path) (s : State) : Result := s.serve (fun s => s.writeRow p 0x2007 1 [1])

end Sys2Proof.Machine
end

