-- ==== Sys2Proof/Machine/DoorRows.lean ====
section
/-! DEFINITION. The commands of the doorway cycle: requests, handle, timers, isolation and drains, Manual, teach, staged
configuration. -/

namespace Sys2Proof.Machine

/-! ## Inputs that are events -/

/-- An input of a doorway reads `on` from now on, in its filtered state and the image (R61): the first that holds a role
for a change to true, every one of them for a change to false. -/
def Image.doorInput (im : Image) (d : Door) (role : Nat) (on : Bool) : Image :=
  let all := (allFin 12).filter (fun n => im.role d n == role)
  (if on then all.take 1 else all).foldl (fun (im : Image) n =>
    let high := on != im.inverted (.di d n)
    (im.onInput (.di d n) (fun x => { x with
      filt := on, raw := on, run := 0, volts := if high then 168 else 0, indet := 0, excess := 0, rev := 0 })).latchInput
        (.di d n)) im

/-- An open button becomes active: a request where its source is enabled (R21). -/
def Image.button (im : Image) (d : Door) (outside : Bool) : Image :=
  let role := if outside then 6 else 5
  if !im.fitted d || !im.roleHeld d role then im
  else
    let im := im.doorInput d role true
    if bitOf (im.dreg d 2 3) (if outside then 1 else 0) then
      im.ask d (if outside then .outside else .inside)
    else im

/-- TI7 closes the doorways of side A, TI8 those of side B, a crew key its own doorway (R17). -/
def Image.crewClose (im : Image) (c : CrewClose) : Image :=
  let side := fun (im : Image) (s : Side) =>
    im.eachDoor (fun im d => if im.fitted d && im.sideOf d == s then im.closeRequest d .crew else im)
  match c with
  | .sideA => side (im.trainInput 6 true) .a
  | .sideB => side (im.trainInput 7 true) .b
  | .key d => if im.fitted d && im.roleHeld d 12 then (im.doorInput d 12 true).closeRequest d .key else im

/-- The handle is operated (R35). -/
def Image.handleOn (im : Image) (d : Door) : Image :=
  if im.fitted d && im.roleHeld d 7 then (im.doorInput d 7 true).emergency d else im

/-- The handle returns to normal (R36): on an Isolated or Manual doorway EV48 clears; elsewhere a reset has to come. -/
def Image.handleOff (im : Image) (d : Door) : Image := (im.doorInput d 7 false).handleNormal d

/-- TI10 changes (R24): Released doorways that are not members return to Locked. -/
def Image.selectiveChange (im : Image) (on : Bool) : Image :=
  let im := im.trainInput 9 on
  im.eachDoor (fun im d =>
    if (im.door d).st = .released && im.selective && !im.member d && !(im.door d).moved then im.enter d .locked else im)

/-- The isolation switch of a doorway (R42, R45): it requests isolation; its release returns to service a doorway that
it isolated. -/
def Image.isolationSwitch (im : Image) (d : Door) (on : Bool) : Image :=
  if !im.fitted d || !im.roleHeld d 8 then im else (im.doorInput d 8 on).switchStep d

/-! ## Drains (R9, R10) -/

/-- A drain has reached its bound: a port's frame in progress ends as aborted, what else is left as cancelled (R10, R480). -/
def Image.drainLate (im : Image) : DrainItem → Image
  | .door d => im.drainBound d
  | .axis a =>
    match (im.axis a).drain with
    | some x =>
      if im.strokeBound (axisDoor a) .leaves .stroke false ≤ x.ticks then
        (im.onLead a (fun w => w.halt im.nextFrame .drainStop false)).axisStop a 2
      else im
    | none => im
  | .chan c => im.chanDrainOver c
  | .port q =>
    if (im.canPort q).drain.isSome then
      let im := match im.nextBox q with
        | some k => if (im.canPort q).solitary then im else im.endRequest q k .aborted
        | none => im
      im.portDisabled q
    else im

/-- The work of a drain has completed. -/
def Image.drainOver (im : Image) : DrainItem → Image
  | .door d => im.drainDone d
  | .axis a => if (im.axis a).drain.isSome && !im.axisMoving a && !im.recordsPending (doorScope (axisDoor a)) then im.axisStop a 1 else im
  | .chan c => im.chanDrainOver c
  | .port q => if im.portDrained q then im.portDisabled q else im

/-! ## The commands -/

/-- OPEN_COMMAND (R21): 1 to B+0x02:01. -/
def execOpenCommand (p : Path) (d : Door) (s : State) : Result := s.serve (fun s => s.writeRow p (bBase d.val + 2) 1 [1])

/-- CLOSE_COMMAND (R17): 2 to B+0x02:01. -/
def execCloseCommand (p : Path) (d : Door) (s : State) : Result := s.serve (fun s => s.writeRow p (bBase d.val + 2) 1 [2])

/-- FAULT_RESET_COMMAND (R618): 3 to B+0x02:01. -/
def execFaultResetCommand (p : Path) (d : Door) (s : State) : Result := s.serve (fun s => s.writeRow p (bBase d.val + 2) 1 [3])

/-- EMERGENCY_RESET_COMMAND (R36): 4 to B+0x02:01. -/
def execEmergencyResetCommand (p : Path) (d : Door) (s : State) : Result :=
  s.serve (fun s => s.writeRow p (bBase d.val + 2) 1 [4])

/-- OPEN_BUTTON (R21). -/
def execOpenButton (d : Door) (outside : Bool) (s : State) : Result := s.act (fun im => im.button d outside)

/-- CREW_CLOSE_INPUT (R17). -/
def execCrewCloseInput (c : CrewClose) (s : State) : Result := s.act (fun im => im.crewClose c)

/-- EMERGENCY_HANDLE_OPERATED (R35). -/
def execEmergencyHandleOperated (d : Door) (s : State) : Result := s.act (fun im => im.handleOn d)

/-- EMERGENCY_HANDLE_NORMAL (R36). -/
def execEmergencyHandleNormal (d : Door) (s : State) : Result := s.act (fun im => im.handleOff d)

/-- SELECTIVE_ENABLE_CHANGE (R24). -/
def execSelectiveEnableChange (on : Bool) (s : State) : Result := s.act (fun im => im.selectiveChange on)

/-- WARNING_TIME_ELAPSED (T12). -/
def execWarningTimeElapsed (d : Door) (s : State) : Result := s.act (fun im => im.warningElapsed d)

/-- AUTO_CLOSE_DWELL_EXPIRY (R29, T11). -/
def execAutoCloseDwellExpiry (d : Door) (s : State) : Result := s.act (fun im => im.dwellExpired d)

/-- CLOSED_SETTLE_ELAPSED (T20). -/
def execClosedSettleElapsed (d : Door) (s : State) : Result := s.act (fun im => im.settleElapsed d)

/-- LOCK_PROVING_TIMEOUT (R23, T10). -/
def execLockProvingTimeout (d : Door) (s : State) : Result := s.act (fun im => im.lockProvingElapsed d)

/-- LOCK_TIMEOUT (T22). -/
def execLockTimeout (d : Door) (s : State) : Result := s.act (fun im => im.lockElapsed d)

/-- RECLOSE_PAUSE_ELAPSED (R30, T18). -/
def execReclosePauseElapsed (d : Door) (s : State) : Result := s.act (fun im => im.pauseElapsed d)

/-- OPENING_RETRY_DELAY_EXPIRY (R27). -/
def execOpeningRetryDelayExpiry (d : Door) (s : State) : Result := s.act (fun im => im.retryElapsed d)

/-- STROKE_TIMEOUT (R20, T25). -/
def execStrokeTimeout (d : Door) (g : Group) (s : State) : Result := s.act (fun im => im.strokeExpired d g)

/-- HOMING_TIMEOUT (R38). -/
def execHomingTimeout (d : Door) (s : State) : Result := s.act (fun im => im.homingExpired d)

/-- ISOLATE_COMMAND (R42): 1 to B+0x11:01. -/
def execIsolateCommand (p : Path) (d : Door) (s : State) : Result := s.serve (fun s => s.writeRow p (bBase d.val + 0x11) 1 [1])

/-- ISOLATE_FORCED_COMMAND (R11): 2 to B+0x11:01. -/
def execIsolateForcedCommand (p : Path) (d : Door) (s : State) : Result :=
  s.serve (fun s => s.writeRow p (bBase d.val + 0x11) 1 [2])

/-- RETURN_TO_SERVICE_COMMAND (R45): 3 to B+0x11:01. -/
def execReturnToServiceCommand (p : Path) (d : Door) (s : State) : Result :=
  s.serve (fun s => s.writeRow p (bBase d.val + 0x11) 1 [3])

/-- ISOLATION_SWITCH_INPUT (R42, R45). -/
def execIsolationSwitchInput (d : Door) (on : Bool) (s : State) : Result := s.act (fun im => im.isolationSwitch d on)

/-- DRAIN_BOUND_EXPIRY (R10). -/
def execDrainBoundExpiry (i : DrainItem) (s : State) : Result := s.act (fun im => im.drainLate i)

/-- DRAIN_COMPLETE (R9). -/
def execDrainComplete (i : DrainItem) (s : State) : Result := s.act (fun im => im.drainOver i)

/-- LEAF_COUNT_WRITE (R45): B+0x00:02. -/
def execLeafCountWrite (p : Path) (d : Door) (n : Nat) (s : State) : Result :=
  s.serve (fun s => s.writeRow p (bBase d.val) 2 (le 1 n))

/-- MANUAL_ENTER (R41): 1 to B+0x12:01. -/
def execManualEnter (p : Path) (d : Door) (s : State) : Result := s.serve (fun s => s.writeRow p (bBase d.val + 0x12) 1 [1])

/-- MANUAL_LEAVE (R41): 0 to B+0x12:01. -/
def execManualLeave (p : Path) (d : Door) (s : State) : Result := s.serve (fun s => s.writeRow p (bBase d.val + 0x12) 1 [0])

/-- JOG_WRITE (R41): B+0x12:02, INTEGER8. -/
def execJogWrite (p : Path) (d : Door) (v : Int) (s : State) : Result :=
  s.serve (fun s => s.writeRow p (bBase d.val + 0x12) 2 (le 1 (encInt 8 v)))

/-- A jog that has not been refreshed for 200 ms stops (R41). -/
def Image.jogLate (im : Image) (d : Door) : Image :=
  let w := im.door d
  if w.st = .manual && im.dsreg d 0x12 2 != 0 && decide (w.jogFrame + 200 ≤ im.now) then im.jog d 0 else im

/-- JOG_REFRESH_EXPIRY (R41). -/
def execJogRefreshExpiry (d : Door) (s : State) : Result := s.act (fun im => im.jogLate d)

/-- MANUAL_LOCK_RELEASE (R41): B+0x12:05. -/
def execManualLockRelease (p : Path) (d : Door) (on : Bool) (s : State) : Result :=
  s.serve (fun s => s.writeRow p (bBase d.val + 0x12) 5 [b2n on])

/-- CLEAR_DOORWAY_LATCHES (R581): 1 to B+0x10:02. -/
def execClearDoorwayLatches (p : Path) (d : Door) (s : State) : Result :=
  s.serve (fun s => s.writeRow p (bBase d.val + 0x10) 2 [1])

/-- TEACH_START (R152): 1 to B+0x14:01. -/
def execTeachStart (p : Path) (d : Door) (s : State) : Result := s.serve (fun s => s.writeRow p (bBase d.val + 0x14) 1 [1])

/-- TEACH_ABORT (R154): 2 to B+0x14:01. -/
def execTeachAbort (p : Path) (d : Door) (s : State) : Result := s.serve (fun s => s.writeRow p (bBase d.val + 0x14) 1 [2])

/-- CONTOUR_SHEET_WRITE (R155): A+7:01, A+7:02 as 256 INTEGER16, A+4:09, A+4:0A. -/
def execContourSheetWrite (p : Path) (a : Axis) (w : SheetWrite) (s : State) : Result :=
  s.serve (fun s => match w with
    | .opening bins => s.writeRow p (aBase a.val + 7) 1 (bins.map (fun b => le 2 (encInt 16 b))).flatten
    | .closing bins => s.writeRow p (aBase a.val + 7) 2 (bins.map (fun b => le 2 (encInt 16 b))).flatten
    | .mass m => s.writeRow p (aBase a.val + 4) 9 (le 2 m)
    | .viscous c => s.writeRow p (aBase a.val + 4) 0x0A (le 2 c))

/-- STAGE_ENTRY (R46): B+0x15:02. -/
def execStageEntry (p : Path) (d : Door) (entry : Nat) (s : State) : Result :=
  s.serve (fun s => s.writeRow p (bBase d.val + 0x15) 2 (le 8 entry))

/-- STAGED_APPLY (R48): 0 to B+0x15:03. -/
def execStagedApply (p : Path) (d : Door) (s : State) : Result := s.serve (fun s => s.writeRow p (bBase d.val + 0x15) 3 [0])

/-- STAGED_DISCARD (R48): 1 to B+0x15:03. -/
def execStagedDiscard (p : Path) (d : Door) (s : State) : Result := s.serve (fun s => s.writeRow p (bBase d.val + 0x15) 3 [1])

end Sys2Proof.Machine
end

