-- ==== Sys2Proof/Machine/InputRows.lean ====
section
/-! DEFINITION. The commands of the conditioned inputs: filters, faults, the functions of TI12 to TI16, the supervision of
command sources. -/

namespace Sys2Proof.Machine

/-- The filtered state changes once the raw state has differed for the debounce time (R280). -/
def Image.filterChange (im : Image) (i : InputId) : Image :=
  let x := im.input i
  if decide (0 < x.run) && decide (im.debounce i ≤ x.run) then im.onInput i (fun x => { x with filt := x.raw, run := 0 }) else im

/-- INPUT_FILTER_CHANGE (R280): the image takes it at the next frame boundary. -/
def execInputFilterChange (i : InputId) (s : State) : Result := s.act (fun im => im.filterChange i)

/-- RECEIVER_FRESHNESS_TIMEOUT (R277). -/
def execReceiverFreshnessTimeout (g : RxGroup) (s : State) : Result := s.act (fun im => im.freshnessTimeout g)

/-- INPUT_RANGE_FAULT (R278, R290). -/
def execInputRangeFault (m : Measured) (c : InputCause) (s : State) : Result := s.act (fun im => im.rangeFault m c)

/-- PLAUSIBILITY_FAULT (R285). -/
def execPlausibilityFault (d : Door) (c : Check) (s : State) : Result := s.act (fun im => im.plausibility d c)

/-- EXPECTATION_TIMEOUT (R286, R287). -/
def execExpectationTimeout (d : Door) (n : Fin 12) (s : State) : Result := s.act (fun im => im.expectMissed d n)

/-- INPUT_FAULT_CLEAR (R284). -/
def execInputFaultClear (m : Measured) (s : State) : Result := s.act (fun im => im.faultGone m)

/-- TI12 to TI16: input n + 12. -/
def functionInput (n : Fin 5) : Fin 16 := ⟨n.val + 11, by omega⟩

/-- A rising edge of an input that holds a function acts on every fitted doorway (R293). -/
def Image.functionEdge (im : Image) (n : Fin 5) (function : Nat) (f : Image → Door → Image) : Image :=
  let old := im.ti (functionInput n)
  let im := im.trainInput (functionInput n) true
  if im.tiFunction n = function && !old && im.ti (functionInput n) then
    im.eachDoor (fun im d => if im.fitted d then f im d else im)
  else im

/-- TI_FUNCTION_FAULT_RESET (R293, function 4): as command 3 of every doorway. -/
def execTiFunctionFaultReset (n : Fin 5) (s : State) : Result := s.act (fun im => im.functionEdge n 4 Image.resetDoor)

/-- TI_FUNCTION_EMERGENCY_RESET (R293, function 5): from the key-input source. -/
def execTiFunctionEmergencyReset (n : Fin 5) (s : State) : Result :=
  s.act (fun im => im.functionEdge n 5 (fun im d => im.emergencyReset d (bitOf (im.dreg d 0x0C 2) 1)))

/-- The auto-close suspension of an input with function 3 (R293): held while any such input reads true. -/
def Image.functionSuspend (im : Image) (n : Fin 5) (on : Bool) : Image :=
  let im := im.trainInput (functionInput n) on
  im.suspendDwells ((allFin 5).any (fun k => im.tiFunction k == 3 && im.ti (functionInput k)))

/-- TI_FUNCTION_AUTO_CLOSE_SUSPEND (R293). -/
def execTiFunctionAutoCloseSuspend (n : Fin 5) (on : Bool) (s : State) : Result := s.act (fun im => im.functionSuspend n on)

/-- COMMAND_SOURCE_TIMEOUT (R294, R295); `c`: the source. -/
def execCommandSourceTimeout (c : CmdSource) (s : State) : Result := s.act (fun im => im.sourceLost c)

/-- NETWORK_PERMIT_TIMEOUT (R87): the permit counts as missing, and tokens that need it are withdrawn (R67). -/
def execNetworkPermitTimeout (s : State) : Result := s.act (fun im => im.permitLost.decidePermits)

end Sys2Proof.Machine
end

