-- ==== Sys2Proof/Machine/LaneRows.lean ====
section
/-! DEFINITION. The commands of the Seam, the Buckle and the lanes. -/

namespace Sys2Proof.Machine

/-! ## Seam -/

/-- SEAM_BLOCK_RECEIVED (R308 to R313). -/
def execSeamBlockReceived (b : SeamBlock) (s : State) : Result := s.go (fun s => s.seamBlockReceived b)

/-- LINK_ACK_RECEIVED (R310): at the lane that sent the blocks it lists. -/
def execLinkAckReceived (e : LinkEnd) (seqs : List Nat) (s : State) : Result :=
  s.go (fun s => if s.powered then s.linkAcked e.lane e.link seqs else s)

/-- SEAM_RESEND_TIMEOUT (R310, R311). -/
def execSeamResendTimeout (e : LinkEnd) (seq : Nat) (s : State) : Result :=
  s.go (fun s => if s.powered then s.resend e.lane e.link seq else s)

/-- LINK_RETRAIN (R311): lanes that wait for a link go on once one has trained. -/
def execLinkRetrain (k : Link) (acked : Nat) (s : State) : Result :=
  s.go (fun s => if s.powered then (s.retrain k acked).linksFound else s)

/-- COMMIT_APPLY (R318). -/
def execCommitApply (s : State) : Result := s.live (fun s => s.applyCommit)

/-- COMMIT_ACK_RECEIVED (R317, R319, R320). -/
def execCommitAckReceived (a : AckPayload) (s : State) : Result := s.live (fun s => s.commitAck a)

/-- ACK_TIMEOUT (R320). -/
def execAckTimeout (s : State) : Result := s.live (fun s => s.ackLate)

/-- A following standby has applied no commit for 3 frames (R326, cause 8). -/
def State.standbyStarved (s : State) : State :=
  if 3 ≤ s.seam.standby && decide (s.seam.lastApplied + 3 < s.img.now) then s.unqualify 8 else s

/-- STANDBY_NO_COMMIT_TIMEOUT (R326). -/
def execStandbyNoCommitTimeout (s : State) : Result := s.live (fun s => s.standbyStarved)

/-- Both links have been down for 48 stitches (R326, cause 2): the Seam monitor clears the standby's line. -/
def State.monitorTrip (s : State) : State :=
  if !s.powered || decide (s.buckle.bothDown < 48) then s
  else
    let followed := decide (2 ≤ s.seam.standby)
    let s := s.onBuckle (fun b => { b with monitor := true, qualified := ⟨false, false⟩ })
    if followed then s.unqualify 2 else s

/-- SEAM_MONITOR_TIMEOUT (R326). -/
def execSeamMonitorTimeout (s : State) : Result := s.go (fun s => s.monitorTrip)

/-- FULL_COPY_START (R322). -/
def execFullCopyStart (s : State) : Result := s.live (fun s => s.startCopy)

/-! ## Buckle -/

/-- STROBE_LOSS_REVOCATION (R329). -/
def execStrobeLossRevocation (s : State) : Result := s.go (fun s => s.revoke)

/-- GRANT_FROM_NO_GRANT (R330, R340). -/
def execGrantFromNoGrant (s : State) : Result := s.go (fun s => s.grantFromNone)

/-- HOLD_WINDOW_EXPIRY (R304). -/
def execHoldWindowExpiry (s : State) : Result := s.go (fun s => s.windowEnd)

/-- RAIL_DISAGREEMENT (R333). -/
def execRailDisagreement (s : State) : Result := s.go (fun s => s.railFault)

/-- BELIEF_MISMATCH (R332). -/
def execBeliefMismatch (l : Lane) (s : State) : Result := s.go (fun s => s.belief l)

/-- HANDOVER_COMMAND (R334): 1 to 0x2201:01. -/
def execHandoverCommand (p : Path) (s : State) : Result := s.serve (fun s => s.writeRow p 0x2201 1 [1])

/-- SWITCHOVER (R335). -/
def execSwitchover (s : State) : Result := s.go (fun s => s.switchover)

/-- HOLD_RELEASE (R337). -/
def execHoldRelease (s : State) : Result := s.live (fun s => s.holdRelease)

/-- A lane that is not current has waited 10 s for the other to be granted, and asks for the grant itself (R341). -/
def State.waitOver (s : State) (l : Lane) : State :=
  let x := s.lanes.get l
  if s.powered && x.st = .operational && !x.current && !x.faulted && s.granted.isNone && decide (x.waitFrom + 160000 ≤ s.tick) then
    s.onBuckle (fun b => { b with request := b.request.on l (fun _ => true) })
  else s

/-- GRANT_REQUEST_WAIT_EXPIRY (R341). -/
def execGrantRequestWaitExpiry (l : Lane) (s : State) : Result := s.go (fun s => s.waitOver l)

/-! ## Lanes -/

/-- LOCKSTEP_MISMATCH (R355, R357): checker 1 first, 2 second, 3 both. -/
def execLockstepMismatch (l : Lane) (unit group : Fin 5) (checker : Fin 3) (s : State) : Result :=
  s.go (fun s => s.laneFault l 13 (checker.val + 1) unit.val group.val)

/-- UNCORRECTABLE_MEMORY_ERROR (R358). -/
def execUncorrectableMemoryError (l : Lane) (s : State) : Result := s.go (fun s => s.memoryFault l)

/-- INJECTION_DUE (R362). -/
def execInjectionDue (l : Lane) (r : Injection) (s : State) : Result := s.go (fun s => s.inject l r)

/-- POWER_GOOD (R364). -/
def execPowerGood (dc : Bool) (vin : Nat) (plug : Fin 64) (selfTestOk : Bool) (s : State) : Result :=
  s.go (fun s => s.powerGood dc vin plug.val selfTestOk)

/-- LOGIC_SUPPLY_FAIL (R487). -/
def execLogicSupplyFail (s : State) : Result := s.go (fun s => s.supplyFail)

/-- LANE_START (R364 to R369). -/
def execLaneStart (l : Lane) (r : StartResult) (s : State) : Result := s.go (fun s => s.laneStart l r)

/-- SEAM_UP_TIMEOUT (R367). -/
def execSeamUpTimeout (l : Lane) (s : State) : Result := s.go (fun s => s.seamLate l)

/-- RATE_DETECTION_TIMEOUT (R364). -/
def execRateDetectionTimeout (l : Lane) (s : State) : Result := s.go (fun s => s.ratesLate l)

/-- CLEAN_RUN_ELAPSED (R370). -/
def execCleanRunElapsed (l : Lane) (s : State) : Result := s.go (fun s => s.cleanRun l)

/-- LANE_RESTART (R357, R375). -/
def execLaneRestart (l : Lane) (s : State) : Result := s.go (fun s => s.restartLane l)

/-- LINING_ENTRY (R377). -/
def execLiningEntry (s : State) : Result := s.go (fun s => s.liningEntry)

/-- LINING_RETRY_START (R380): 1 to 0x2006:02. -/
def execLiningRetryStart (p : Path) (s : State) : Result := s.serve (fun s => s.writeRow p 0x2006 2 [1])

/-- RESTART_HALTED_LANE (R376): the lane to 0x220B:04. -/
def execRestartHaltedLane (p : Path) (l : Lane) (s : State) : Result := s.serve (fun s => s.writeRow p 0x220B 4 [l.code])

/-- CODING_PLUG_CHANGE (R476): shown at once, taken at the next restart. -/
def execCodingPlugChange (v : Fin 64) (s : State) : Result :=
  s.go (fun s => if s.powered then s.note (fun im => im.setReg 0x2903 1 v.val) else s)

end Sys2Proof.Machine
end

