-- ==== Sys2Proof/Machine/PermitRows.lean ====
section
/-! DEFINITION. The commands of the release inputs, the permit tokens, the door loops and the Mirror. -/

namespace Sys2Proof.Machine

/-- The pair a release or zero-speed channel belongs to: TI1, TI2 side A, TI3, TI4 side B, TI5, TI6 zero speed (R62). -/
def pairOf (ti : Fin 6) : Pair := if ti.val < 2 then .relA else if ti.val < 4 then .relB else .zero

/-- A channel of a pair changes (R62 to R65): the pair reads anew, and the permits are decided on it (R66, R67). -/
def Image.pairChange (im : Image) (ti : Fin 6) (on : Bool) : Image :=
  ((im.trainInput ⟨ti.val, by omega⟩ on).readPair false (pairOf ti)).decidePermits

/-- TI9 changes (R63). -/
def Image.tractionChange (im : Image) (on : Bool) : Image := ((im.trainInput 8 on).readTraction).decidePermits

/-- RELEASE_PAIR_CHANGE (R62). -/
def execReleasePairChange (ti : Fin 6) (on : Bool) (s : State) : Result := s.act (fun im => im.pairChange ti on)

/-- TRACTION_INPUT_CHANGE (R63). -/
def execTractionInputChange (on : Bool) (s : State) : Result := s.act (fun im => im.tractionChange on)

/-- PAIR_DISCREPANCY_LATCH (R64). -/
def execPairDiscrepancyLatch (q : Pair) (s : State) : Result := s.act (fun im => im.latchPair q)

/-- REGRANT_HOLDOFF_EXPIRY (R84): the permit of the side is decided again, its hold-off over. -/
def execRegrantHoldoffExpiry (side : Side) (s : State) : Result :=
  s.act (fun im => if im.holdoffOver side then im.decideToken side else im)

/-- GATE_COMPARATOR_CHANGE (R74): hardware of both lanes. -/
def execGateComparatorChange (d : Door) (tenthVolts : Nat) (s : State) : Result :=
  s.go (fun s => s.edit (fun im => im.comparator d tenthVolts))

/-- LOOP_FAULT_RESET (R78): the side to 0x230C:03. -/
def execLoopFaultReset (p : Path) (side : Side) (s : State) : Result :=
  s.serve (fun s => s.writeRow p 0x230C 3 [match side with | .a => 1 | .b => 2])

/-- LOOP_OPEN_COMMAND (R88): 0x2309:02, 0x230A:02. -/
def execLoopOpenCommand (p : Path) (side : Side) (on : Bool) (s : State) : Result :=
  s.serve (fun s => s.writeRow p (loopObj side) 2 [b2n on])

/-- TRACTION_OPEN_LOOP_TIMEOUT (R79). -/
def execTractionOpenLoopTimeout (s : State) : Result := s.act (fun im => im.tractionOpen)

/-- MIRROR_TRANSACTION (R90 to R93, R95). -/
def execMirrorTransaction (word : Fin 16) (parity : Bool) (edges startUs : Nat) (s : State) : Result :=
  s.go (fun s => s.mirrorTransaction word parity edges startUs)

/-- MIRROR_SELECT_DEASSERT (R94). -/
def execMirrorSelectDeassert (endUs : Nat) (s : State) : Result := s.go (fun s => s.mirrorDeassert endUs)

/-- MIRROR_TRANSACTION_TIMEOUT (R94). -/
def execMirrorTransactionTimeout (endUs : Nat) (s : State) : Result := s.go (fun s => s.mirrorTimeout endUs)

end Sys2Proof.Machine
end

