-- ==== Sys2Proof/Machine/RecorderRows.lean ====
section
/-! DEFINITION. The commands of the event recorder. -/

namespace Sys2Proof.Machine

/-- A lane whose application pair runs works on its own record store. -/
def State.storeWork (s : State) (l : Lane) (f : Store → Store) : State :=
  let x := s.lanes.get l
  if s.powered && (x.st = .operational || x.st = .lining) && !x.faulted then s.onStore l f else s

/-- NAND_WRITE (R403, R405): up to 4 slots, each programmed or failed. -/
def execNandWrite (l : Lane) (programOk : List Bool) (s : State) : Result := s.go (fun s => s.storeWork l (·.write programOk))

/-- NAND_ERASE_COMPLETE (R405, R406). -/
def execNandEraseComplete (l : Lane) (ok : Bool) (s : State) : Result := s.go (fun s => s.storeWork l (·.eraseDone ok))

/-- CHATTER_WINDOW_END (R414). -/
def execChatterWindowEnd (d : Door) (s : State) : Result := s.act (fun im => im.windowOver d)

/-- CURSOR_POSITION_WRITE (R416): sub 01 of a cursor. -/
def execCursorPositionWrite (p : Path) (k : Fin 4) (v : Nat) (s : State) : Result :=
  s.serve (fun s => s.writeRow p (cursorObj k) 1 (le 6 v))

/-- The read response of a cursor, answered at once. -/
def State.cursorAnswer (s : State) (p : Path) (k : Fin 4) (unread : List Nat) : State :=
  match s.readRow p (cursorObj k) 5 unread with
  | (s, code, data) => s.answer p (cursorObj k) 5 code data

/-- CURSOR_READ (R417 to R419). -/
def execCursorRead (p : Path) (k : Fin 4) (unreadable : List Nat) (s : State) : Result :=
  s.serve (fun s => s.cursorAnswer p k unreadable)

/-- CLEAR_RECORDS (R420): 1 to 0x2712:01. -/
def execClearRecords (p : Path) (s : State) : Result := s.serve (fun s => s.writeRow p 0x2712 1 [1])

/-- CLEAR_RECORDS_AND_LEDGER (R437): 2 to 0x2712:01. -/
def execClearRecordsAndLedger (p : Path) (s : State) : Result := s.serve (fun s => s.writeRow p 0x2712 1 [2])

/-- CLEAR_ERASE (R420). -/
def execClearErase (l : Lane) (s : State) : Result :=
  s.go (fun s => s.storeWork l (·.eraseOne s.committed.rcd.floor s.img.now))

end Sys2Proof.Machine
end

