-- ==== Sys2Proof/Machine/SupplyRows.lean ====
section
/-! DEFINITION. The commands of the supply: input loss and return, the power-loss commit, the hold-up store, the motor-bus
converter, Rest mode, the backup domain. -/

namespace Sys2Proof.Machine

/-! ## The power-loss commit (R230) -/

/-- Both lanes stop: no lane is granted, the bridges and the loops are off, the outputs in their safe states. -/
def State.stopLanes (s : State) : State :=
  let off := fun (x : LaneState) => { x with st := LaneSt.off, phase := 0, active := false }
  let s := (s.edit (fun im => im.safeOutputs.openLoops)).onBuckle (fun b => { b with
    railP := 0, railQ := 0, window := none, strobe := ⟨false, false⟩, before := ⟨false, false⟩, present := ⟨0, 0⟩,
    qualified := ⟨false, false⟩, request := ⟨false, false⟩ })
  { s.dropWork with lanes := ⟨off s.lanes.a, off s.lanes.b⟩, sealed := [], hold := { s.hold with st := 2 } }

/-- The commit is made whole: its records assembled, its delta sealed and in effect on both lanes that follow; then the
lanes stop. In Lining mode only the operating time and the wall time go to FRAM (R385). -/
def State.powerLoss (s : State) : State :=
  match s.activeLane with
  | none =>
    if s.lining then
      let c := s.img.clk
      let op := s.img.op
      (s.note (fun im => { im with clk := { im.clk with opSaved := op, wallSaved := c.wallUs } })).stopLanes
    else s
  | some l =>
    let cause := s.img.lossCommitCause
    if cause = 0 then s
    else
      let im0 := s.img
      let last := im0.reg 0x2700 2
      let both := s.qualified
      let s := s.edit (fun im => im.lossCommit cause)
      let s := (List.range 4).foldl (fun (s : State) _ => s.edit (fun im => im.assemble (s.assembleCtx im0 l false))) s
      let seqs := newSeqs last (s.img.reg 0x2700 2)
      let s := ((s.sectionS 1 seqs 3).releaseFrame l).settle s.img.now
      let s := if both then { s with shadow := s.committed }.onStore l.other (fun y => y.push seqs) else s
      s.stopLanes

/-- The input returns: before the commit the loss ends, after it the module starts as at a power-up (R236, R237). -/
def State.inputReturn (s : State) (vin : Nat) : State :=
  if s.img.belt.commitDone then
    if s.powered && s.activeLane.isNone then
      { s with powered := false }.powerGood (s.img.belt.input == 2) vin (s.img.reg 0x2903 1) s.buckle.selfTest
    else s
  else if s.running && s.img.belt.lostAt.isSome then s.edit (fun im => im.inputBack vin)
  else s

/-! ## The commands -/

/-- INPUT_LOSS_DECLARED (R222). -/
def execInputLossDeclared (s : State) : Result := s.act (fun im => im.declareLoss)

/-- POWER_LOSS_COMMIT (R230). -/
def execPowerLossCommit (s : State) : Result := s.go (fun s => s.powerLoss)

/-- INPUT_RETURN (R236, R237). -/
def execInputReturn (vin : Nat) (s : State) : Result := s.go (fun s => s.inputReturn vin)

/-- HOLDUP_MEASUREMENT (R215). -/
def execHoldupMeasurement (joules : Nat) (s : State) : Result := s.act (fun im => im.measureHoldup joules)

/-- MOTOR_BUS_FAULT (R217). -/
def execMotorBusFault (excess : Bool) (s : State) : Result := s.act (fun im => im.busFault excess)

/-- CLEAR_MODULE_LATCHES (R581): 1 to 0x2503:01. -/
def execClearModuleLatches (p : Path) (s : State) : Result := s.serve (fun s => s.writeRow p 0x2503 1 [1])

/-- REST_DELAY_EXPIRY (R232). -/
def execRestDelayExpiry (s : State) : Result := s.act (fun im => im.restByDelay)

/-- REST_ENTER_COMMAND (R232): 1 to 0x210C:01. -/
def execRestEnterCommand (p : Path) (s : State) : Result := s.serve (fun s => s.writeRow p 0x210C 1 [1])

/-- REST_LEAVE_COMMAND (R233): 2 to 0x210C:01. -/
def execRestLeaveCommand (p : Path) (s : State) : Result := s.serve (fun s => s.writeRow p 0x210C 1 [2])

/-- REST_WAKE (R233). -/
def execRestWake (s : State) : Result := s.act (fun im => if im.restMustEnd then im.leaveRest else im)

/-- REST_BUS_READY (R233). -/
def execRestBusReady (s : State) : Result := s.act (fun im => im.restReady)

/-- CELL_MEASUREMENT (R234). -/
def execCellMeasurement (mv : Nat) (s : State) : Result := s.act (fun im => im.measureCell mv)

/-- CLEAR_SEAL_LATCH (R234): 1 to 0x210D:05. -/
def execClearSealLatch (p : Path) (s : State) : Result := s.serve (fun s => s.writeRow p 0x210D 5 [1])

/-- OPERATING_TIME_SAVE (R198). -/
def execOperatingTimeSave (s : State) : Result := s.act (fun im => im.saveOp)

/-- BACKUP_DOMAIN_SUPPLY_FAIL (R234): the backup flag sets, in the backup domain's own hardware. -/
def execBackupDomainSupplyFail (s : State) : Result :=
  s.go (fun s => s.edit (fun im => { im with clk := { im.clk with backup := true } }))

/-- ENCLOSURE_COVER_OPENED (R609): the seal latch sets, in the backup domain's own hardware. -/
def execEnclosureCoverOpened (s : State) : Result :=
  s.go (fun s => s.edit (fun im => { im with belt := { im.belt with sealLatch := true } }))

end Sys2Proof.Machine
end

