-- ==== Sys2Proof/Machine/UpdateRows.lean ====
section
/-! DEFINITION. The commands of live update, service windows, authorisation, keys, doorway blocks, and of the events. -/

namespace Sys2Proof.Machine

/-- UPDATE_PREPARE (R561): 1 to 0x2800:01. -/
def execUpdatePrepare (p : Path) (s : State) : Result := s.serve (fun s => s.writeRow p 0x2800 1 [1])

/-- PREPARE_COMPLETE (R561). -/
def execPrepareComplete (s : State) : Result := s.serve (fun s => s.prepareComplete)

/-- UPDATE_CHUNK (R561): 0x2801:02. -/
def execUpdateChunk (p : Path) (data : Bytes) (s : State) : Result := s.serve (fun s => s.writeRow p 0x2801 2 data)

/-- UPDATE_VERIFY (R562): 2 to 0x2800:01. -/
def execUpdateVerify (p : Path) (s : State) : Result := s.serve (fun s => s.writeRow p 0x2800 1 [2])

/-- UPDATE_LEAPFROG (R563): 3 to 0x2800:01. -/
def execUpdateLeapfrog (p : Path) (s : State) : Result := s.serve (fun s => s.writeRow p 0x2800 1 [3])

/-- LEAPFROG_STEP_DONE (R563). -/
def execLeapfrogStepDone (ok : Bool) (s : State) : Result := s.live (fun s => s.leapStep ok)

/-- UPDATE_ROLLBACK (R565): 4 to 0x2800:01. -/
def execUpdateRollback (p : Path) (s : State) : Result := s.serve (fun s => s.writeRow p 0x2800 1 [4])

/-- UPDATE_ABORT (R565): 5 to 0x2800:01. -/
def execUpdateAbort (p : Path) (s : State) : Result := s.serve (fun s => s.writeRow p 0x2800 1 [5])

/-- SERVICE_WINDOW_UPDATE (R566): 6 to 0x2800:01. -/
def execServiceWindowUpdate (p : Path) (s : State) : Result := s.serve (fun s => s.writeRow p 0x2800 1 [6])

/-- CHUNK_REPORT_TIMEOUT (R561). -/
def execChunkReportTimeout (s : State) : Result := s.live (fun s => s.chunkLate)

/-- SERVICE_WINDOW_OPEN (R566): 1 to 0x2809:01. -/
def execServiceWindowOpen (p : Path) (s : State) : Result := s.serve (fun s => s.writeRow p 0x2809 1 [1])

/-- SERVICE_WINDOW_CLOSE (R566): 2 to 0x2809:01. -/
def execServiceWindowClose (p : Path) (s : State) : Result := s.serve (fun s => s.writeRow p 0x2809 1 [2])

/-- Both lanes are operational and the standby is qualified. -/
def State.bothUp (s : State) : Bool := s.running && s.qualified

/-- SERVICE_WINDOW_EXPIRY (R566): a window that has brought an update stays open until both lanes are qualified. -/
def execServiceWindowExpiry (s : State) : Result := s.live (fun s => s.edit (fun im => im.windowExpiry s.bothUp))

/-- AUTHORISATION_CHALLENGE (R567): 1 to 0x2804:01. -/
def execAuthorisationChallenge (p : Path) (s : State) : Result := s.serve (fun s => s.writeRow p 0x2804 1 [1])

/-- AUTHORISATION_RESPONSE (R567): 0x2804:03. -/
def execAuthorisationResponse (p : Path) (response : Bytes) (s : State) : Result :=
  s.serve (fun s => s.writeRow p 0x2804 3 response)

/-- AUTHORISATION_CLOSE (R567): 2 to 0x2804:01. -/
def execAuthorisationClose (p : Path) (s : State) : Result := s.serve (fun s => s.writeRow p 0x2804 1 [2])

/-- CHALLENGE_EXPIRY (R567). -/
def execChallengeExpiry (p : Path) (s : State) : Result := s.serve (fun s => s.edit (fun im => im.expireChallenge p))

/-- AUTHORISATION_TIMEOUT (R567). -/
def execAuthorisationTimeout (p : Path) (s : State) : Result := s.serve (fun s => s.edit (fun im => im.expireAuth p))

/-- AUTHORISATION_LOCKOUT_END (R567). -/
def execAuthorisationLockoutEnd (p : Path) (s : State) : Result := s.serve (fun s => s.edit (fun im => im.endLockout p))

/-- MAINTENANCE_KEY_WRITE (R569): 0x2807:01. -/
def execMaintenanceKeyWrite (p : Path) (key : Bytes) (s : State) : Result := s.serve (fun s => s.writeRow p 0x2807 1 key)

/-- DOORWAY_BLOCK_IMPORT (R571): 0x280A:03. -/
def execDoorwayBlockImport (p : Path) (data : Bytes) (s : State) : Result := s.serve (fun s => s.writeRow p 0x280A 3 data)

/-- TEST_EVENT (R589): 0x250D:01. -/
def execTestEvent (p : Path) (n : Nat) (s : State) : Result := s.serve (fun s => s.writeRow p 0x250D 1 (le 1 n))

/-- RESTORE_REACTION_DEFAULTS (R590): 1 to 0x250F:01. -/
def execRestoreReactionDefaults (p : Path) (s : State) : Result := s.serve (fun s => s.writeRow p 0x250F 1 [1])

/-- The hold time of an occurrence has passed: it is shown no longer (R582). -/
def Image.holdOver (im : Image) (scope : Fin 13) (n : Nat) : Image :=
  im.onScope scope (fun e => { e with holds := e.holds.filter (fun h => !(h.1 == n && decide (h.2 ≤ im.now))) })

/-- OCCURRENCE_HOLD_EXPIRY (R582). -/
def execOccurrenceHoldExpiry (scope : Fin 13) (n : Fin 64) (s : State) : Result := s.act (fun im => im.holdOver scope n.val)

end Sys2Proof.Machine
end

