-- ==== Sys2Proof/Machine/Dispatch.lean ====
section
/-! DEFINITION. The meaning of every command: one direct call per constructor. -/

namespace Sys2Proof.Machine

def exec (i : Instr) (s : State) : Host.Outcome State Fault Refusal :=
  match i with
  | .stitch x => Sys2Proof.Machine.execStitch x s
  | .frameWork x => Sys2Proof.Machine.execFrameWork x s
  | .beltConditionConfirmed c => Sys2Proof.Machine.execBeltConditionConfirmed c s
  | .beltStepDown => Sys2Proof.Machine.execBeltStepDown s
  | .survey => Sys2Proof.Machine.execSurvey s
  | .frameOverrun l w => Sys2Proof.Machine.execFrameOverrun l w s
  | .sliceWatchdog l slice => Sys2Proof.Machine.execSliceWatchdog l slice s
  | .openCommand p d => Sys2Proof.Machine.execOpenCommand p d s
  | .closeCommand p d => Sys2Proof.Machine.execCloseCommand p d s
  | .faultResetCommand p d => Sys2Proof.Machine.execFaultResetCommand p d s
  | .emergencyResetCommand p d => Sys2Proof.Machine.execEmergencyResetCommand p d s
  | .openButton d outside => Sys2Proof.Machine.execOpenButton d outside s
  | .crewCloseInput c => Sys2Proof.Machine.execCrewCloseInput c s
  | .emergencyHandleOperated d => Sys2Proof.Machine.execEmergencyHandleOperated d s
  | .emergencyHandleNormal d => Sys2Proof.Machine.execEmergencyHandleNormal d s
  | .selectiveEnableChange on => Sys2Proof.Machine.execSelectiveEnableChange on s
  | .releasePairChange ti on => Sys2Proof.Machine.execReleasePairChange ti on s
  | .tractionInputChange on => Sys2Proof.Machine.execTractionInputChange on s
  | .warningTimeElapsed d => Sys2Proof.Machine.execWarningTimeElapsed d s
  | .autoCloseDwellExpiry d => Sys2Proof.Machine.execAutoCloseDwellExpiry d s
  | .closedSettleElapsed d => Sys2Proof.Machine.execClosedSettleElapsed d s
  | .lockProvingTimeout d => Sys2Proof.Machine.execLockProvingTimeout d s
  | .lockTimeout d => Sys2Proof.Machine.execLockTimeout d s
  | .reclosePauseElapsed d => Sys2Proof.Machine.execReclosePauseElapsed d s
  | .openingRetryDelayExpiry d => Sys2Proof.Machine.execOpeningRetryDelayExpiry d s
  | .strokeTimeout d g => Sys2Proof.Machine.execStrokeTimeout d g s
  | .homingTimeout d => Sys2Proof.Machine.execHomingTimeout d s
  | .isolateCommand p d => Sys2Proof.Machine.execIsolateCommand p d s
  | .isolateForcedCommand p d => Sys2Proof.Machine.execIsolateForcedCommand p d s
  | .returnToServiceCommand p d => Sys2Proof.Machine.execReturnToServiceCommand p d s
  | .isolationSwitchInput d on => Sys2Proof.Machine.execIsolationSwitchInput d on s
  | .drainBoundExpiry item => Sys2Proof.Machine.execDrainBoundExpiry item s
  | .drainComplete item => Sys2Proof.Machine.execDrainComplete item s
  | .leafCountWrite p d n => Sys2Proof.Machine.execLeafCountWrite p d n s
  | .manualEnter p d => Sys2Proof.Machine.execManualEnter p d s
  | .manualLeave p d => Sys2Proof.Machine.execManualLeave p d s
  | .jogWrite p d v => Sys2Proof.Machine.execJogWrite p d v s
  | .jogRefreshExpiry d => Sys2Proof.Machine.execJogRefreshExpiry d s
  | .manualLockRelease p d on => Sys2Proof.Machine.execManualLockRelease p d on s
  | .clearDoorwayLatches p d => Sys2Proof.Machine.execClearDoorwayLatches p d s
  | .teachStart p d => Sys2Proof.Machine.execTeachStart p d s
  | .teachAbort p d => Sys2Proof.Machine.execTeachAbort p d s
  | .contourSheetWrite p a w => Sys2Proof.Machine.execContourSheetWrite p a w s
  | .stageEntry p d entry => Sys2Proof.Machine.execStageEntry p d entry s
  | .stagedApply p d => Sys2Proof.Machine.execStagedApply p d s
  | .stagedDiscard p d => Sys2Proof.Machine.execStagedDiscard p d s
  | .pairDiscrepancyLatch q => Sys2Proof.Machine.execPairDiscrepancyLatch q s
  | .regrantHoldoffExpiry side => Sys2Proof.Machine.execRegrantHoldoffExpiry side s
  | .gateComparatorChange d tenthVolts => Sys2Proof.Machine.execGateComparatorChange d tenthVolts s
  | .loopFaultReset p side => Sys2Proof.Machine.execLoopFaultReset p side s
  | .loopOpenCommand p side on => Sys2Proof.Machine.execLoopOpenCommand p side on s
  | .tractionOpenLoopTimeout => Sys2Proof.Machine.execTractionOpenLoopTimeout s
  | .mirrorTransaction word parity edges startUs => Sys2Proof.Machine.execMirrorTransaction word parity edges startUs s
  | .mirrorSelectDeassert endUs => Sys2Proof.Machine.execMirrorSelectDeassert endUs s
  | .mirrorTransactionTimeout endUs => Sys2Proof.Machine.execMirrorTransactionTimeout endUs s
  | .axisTargetWrite p a x => Sys2Proof.Machine.execAxisTargetWrite p a x s
  | .retargetStopComplete d g => Sys2Proof.Machine.execRetargetStopComplete d g s
  | .liveLimitWrite p a l v => Sys2Proof.Machine.execLiveLimitWrite p a l v s
  | .stallConfirmed a => Sys2Proof.Machine.execStallConfirmed a s
  | .lockZoneStallRelease a => Sys2Proof.Machine.execLockZoneStallRelease a s
  | .axisOvercurrentTrip a => Sys2Proof.Machine.execAxisOvercurrentTrip a s
  | .axisRetryDue a => Sys2Proof.Machine.execAxisRetryDue a s
  | .axisRetryRestore a => Sys2Proof.Machine.execAxisRetryRestore a s
  | .axisThermalLatch a => Sys2Proof.Machine.execAxisThermalLatch a s
  | .axisThermalClear a => Sys2Proof.Machine.execAxisThermalClear a s
  | .axisEnable p a => Sys2Proof.Machine.execAxisEnable p a s
  | .axisDisable p a => Sys2Proof.Machine.execAxisDisable p a s
  | .axisDisableForced p a => Sys2Proof.Machine.execAxisDisableForced p a s
  | .axisClearOvercurrent p a => Sys2Proof.Machine.execAxisClearOvercurrent p a s
  | .obstacleConfirmed a src => Sys2Proof.Machine.execObstacleConfirmed a src s
  | .estimateInvalidObstacle a => Sys2Proof.Machine.execEstimateInvalidObstacle a s
  | .obstacleStopEnd d g => Sys2Proof.Machine.execObstacleStopEnd d g s
  | .obstacleStopTimeout d g => Sys2Proof.Machine.execObstacleStopTimeout d g s
  | .edgeFaultClear d e => Sys2Proof.Machine.execEdgeFaultClear d e s
  | .inputLossDeclared => Sys2Proof.Machine.execInputLossDeclared s
  | .powerLossCommit => Sys2Proof.Machine.execPowerLossCommit s
  | .inputReturn vin => Sys2Proof.Machine.execInputReturn vin s
  | .holdupMeasurement joules => Sys2Proof.Machine.execHoldupMeasurement joules s
  | .motorBusFault excess => Sys2Proof.Machine.execMotorBusFault excess s
  | .clearModuleLatches p => Sys2Proof.Machine.execClearModuleLatches p s
  | .restDelayExpiry => Sys2Proof.Machine.execRestDelayExpiry s
  | .restEnterCommand p => Sys2Proof.Machine.execRestEnterCommand p s
  | .restLeaveCommand p => Sys2Proof.Machine.execRestLeaveCommand p s
  | .restWake => Sys2Proof.Machine.execRestWake s
  | .restBusReady => Sys2Proof.Machine.execRestBusReady s
  | .cellMeasurement mv => Sys2Proof.Machine.execCellMeasurement mv s
  | .clearSealLatch p => Sys2Proof.Machine.execClearSealLatch p s
  | .operatingTimeSave => Sys2Proof.Machine.execOperatingTimeSave s
  | .channelCommandWrite p c v => Sys2Proof.Machine.execChannelCommandWrite p c v s
  | .channelEnable p c => Sys2Proof.Machine.execChannelEnable p c s
  | .channelDisable p c => Sys2Proof.Machine.execChannelDisable p c s
  | .channelDisableForced p c => Sys2Proof.Machine.execChannelDisableForced p c s
  | .channelClearOvercurrent p c => Sys2Proof.Machine.execChannelClearOvercurrent p c s
  | .channelOvercurrentTrip c => Sys2Proof.Machine.execChannelOvercurrentTrip c s
  | .channelShortCircuitTrip c => Sys2Proof.Machine.execChannelShortCircuitTrip c s
  | .channelThermalLatch c deltaT junction => Sys2Proof.Machine.execChannelThermalLatch c deltaT junction s
  | .channelThermalClear c => Sys2Proof.Machine.execChannelThermalClear c s
  | .channelRetryDue c => Sys2Proof.Machine.execChannelRetryDue c s
  | .channelRetryRestore c => Sys2Proof.Machine.execChannelRetryRestore c s
  | .channelLatchOffClear c => Sys2Proof.Machine.execChannelLatchOffClear c s
  | .openLoadDetected c => Sys2Proof.Machine.execOpenLoadDetected c s
  | .bankSupplyFault d cause => Sys2Proof.Machine.execBankSupplyFault d cause s
  | .bankSupplyLost d tenthVolts => Sys2Proof.Machine.execBankSupplyLost d tenthVolts s
  | .bankSupplyReturn d tenthVolts => Sys2Proof.Machine.execBankSupplyReturn d tenthVolts s
  | .inputFilterChange item => Sys2Proof.Machine.execInputFilterChange item s
  | .receiverFreshnessTimeout g => Sys2Proof.Machine.execReceiverFreshnessTimeout g s
  | .inputRangeFault m c => Sys2Proof.Machine.execInputRangeFault m c s
  | .plausibilityFault d c => Sys2Proof.Machine.execPlausibilityFault d c s
  | .expectationTimeout d n => Sys2Proof.Machine.execExpectationTimeout d n s
  | .inputFaultClear m => Sys2Proof.Machine.execInputFaultClear m s
  | .tiFunctionFaultReset n => Sys2Proof.Machine.execTiFunctionFaultReset n s
  | .tiFunctionEmergencyReset n => Sys2Proof.Machine.execTiFunctionEmergencyReset n s
  | .tiFunctionAutoCloseSuspend n on => Sys2Proof.Machine.execTiFunctionAutoCloseSuspend n on s
  | .commandSourceTimeout c => Sys2Proof.Machine.execCommandSourceTimeout c s
  | .networkPermitTimeout => Sys2Proof.Machine.execNetworkPermitTimeout s
  | .seamBlockReceived b => Sys2Proof.Machine.execSeamBlockReceived b s
  | .linkAckReceived e seqs => Sys2Proof.Machine.execLinkAckReceived e seqs s
  | .seamResendTimeout e seq => Sys2Proof.Machine.execSeamResendTimeout e seq s
  | .linkRetrain k acked => Sys2Proof.Machine.execLinkRetrain k acked s
  | .commitApply => Sys2Proof.Machine.execCommitApply s
  | .commitAckReceived a => Sys2Proof.Machine.execCommitAckReceived a s
  | .ackTimeout => Sys2Proof.Machine.execAckTimeout s
  | .standbyNoCommitTimeout => Sys2Proof.Machine.execStandbyNoCommitTimeout s
  | .seamMonitorTimeout => Sys2Proof.Machine.execSeamMonitorTimeout s
  | .fullCopyStart => Sys2Proof.Machine.execFullCopyStart s
  | .strobeLossRevocation => Sys2Proof.Machine.execStrobeLossRevocation s
  | .grantFromNoGrant => Sys2Proof.Machine.execGrantFromNoGrant s
  | .holdWindowExpiry => Sys2Proof.Machine.execHoldWindowExpiry s
  | .railDisagreement => Sys2Proof.Machine.execRailDisagreement s
  | .beliefMismatch l => Sys2Proof.Machine.execBeliefMismatch l s
  | .handoverCommand p => Sys2Proof.Machine.execHandoverCommand p s
  | .switchover => Sys2Proof.Machine.execSwitchover s
  | .holdRelease => Sys2Proof.Machine.execHoldRelease s
  | .lockstepMismatch l unit group checker => Sys2Proof.Machine.execLockstepMismatch l unit group checker s
  | .uncorrectableMemoryError l => Sys2Proof.Machine.execUncorrectableMemoryError l s
  | .injectionDue l r => Sys2Proof.Machine.execInjectionDue l r s
  | .powerGood dc vin plug selfTestOk => Sys2Proof.Machine.execPowerGood dc vin plug selfTestOk s
  | .logicSupplyFail => Sys2Proof.Machine.execLogicSupplyFail s
  | .laneStart l r => Sys2Proof.Machine.execLaneStart l r s
  | .seamUpTimeout l => Sys2Proof.Machine.execSeamUpTimeout l s
  | .rateDetectionTimeout l => Sys2Proof.Machine.execRateDetectionTimeout l s
  | .cleanRunElapsed l => Sys2Proof.Machine.execCleanRunElapsed l s
  | .laneRestart l => Sys2Proof.Machine.execLaneRestart l s
  | .liningEntry => Sys2Proof.Machine.execLiningEntry s
  | .liningRetryStart p => Sys2Proof.Machine.execLiningRetryStart p s
  | .restartHaltedLane p l => Sys2Proof.Machine.execRestartHaltedLane p l s
  | .nandWrite l programOk => Sys2Proof.Machine.execNandWrite l programOk s
  | .nandEraseComplete l ok => Sys2Proof.Machine.execNandEraseComplete l ok s
  | .chatterWindowEnd d => Sys2Proof.Machine.execChatterWindowEnd d s
  | .cursorPositionWrite p k v => Sys2Proof.Machine.execCursorPositionWrite p k v s
  | .cursorRead p k unreadable => Sys2Proof.Machine.execCursorRead p k unreadable s
  | .clearRecords p => Sys2Proof.Machine.execClearRecords p s
  | .clearRecordsAndLedger p => Sys2Proof.Machine.execClearRecordsAndLedger p s
  | .clearErase l => Sys2Proof.Machine.execClearErase l s
  | .canFrameReceived q x => Sys2Proof.Machine.execCanFrameReceived q x s
  | .canCandidateTimeout q => Sys2Proof.Machine.execCanCandidateTimeout q s
  | .canErrorPassive q => Sys2Proof.Machine.execCanErrorPassive q s
  | .canBusOff q => Sys2Proof.Machine.execCanBusOff q s
  | .canBusOffRecovery q => Sys2Proof.Machine.execCanBusOffRecovery q s
  | .canQuarantineEnd q => Sys2Proof.Machine.execCanQuarantineEnd q s
  | .canSubmit q mailbox id tag data => Sys2Proof.Machine.execCanSubmit q mailbox id tag data s
  | .canTimeTagReached q mailbox => Sys2Proof.Machine.execCanTimeTagReached q mailbox s
  | .canFrameSent q mailbox => Sys2Proof.Machine.execCanFrameSent q mailbox s
  | .canNoAckAbort q mailbox => Sys2Proof.Machine.execCanNoAckAbort q mailbox s
  | .canCancel q mailbox won acked => Sys2Proof.Machine.execCanCancel q mailbox won acked s
  | .solitaryBeacon q => Sys2Proof.Machine.execSolitaryBeacon q s
  | .nmtStartRemoteNode q node => Sys2Proof.Machine.execNmtStartRemoteNode q node s
  | .nmtEnterPreoperational q node => Sys2Proof.Machine.execNmtEnterPreoperational q node s
  | .nmtStopRemoteNode q node => Sys2Proof.Machine.execNmtStopRemoteNode q node s
  | .nmtResetCommunication q node => Sys2Proof.Machine.execNmtResetCommunication q node s
  | .nmtResetNode q node => Sys2Proof.Machine.execNmtResetNode q node s
  | .sdoRequest q server r => Sys2Proof.Machine.execSdoRequest q server r s
  | .sdoTransferTimeout server => Sys2Proof.Machine.execSdoTransferTimeout server s
  | .rpdoReceived q n data => Sys2Proof.Machine.execRpdoReceived q n data s
  | .rpdoDeadlineExpiry n => Sys2Proof.Machine.execRpdoDeadlineExpiry n s
  | .tpdoTransmit n => Sys2Proof.Machine.execTpdoTransmit n s
  | .syncReceived q counter => Sys2Proof.Machine.execSyncReceived q counter s
  | .syncWindowClose => Sys2Proof.Machine.execSyncWindowClose s
  | .syncProduce => Sys2Proof.Machine.execSyncProduce s
  | .timeReceived q utcSeconds ms => Sys2Proof.Machine.execTimeReceived q utcSeconds ms s
  | .heartbeatProduce => Sys2Proof.Machine.execHeartbeatProduce s
  | .heartbeatConsumerTimeout k => Sys2Proof.Machine.execHeartbeatConsumerTimeout k s
  | .errorHistoryClear p => Sys2Proof.Machine.execErrorHistoryClear p s
  | .lssSwitchStateGlobal q configuration => Sys2Proof.Machine.execLssSwitchStateGlobal q configuration s
  | .lssSwitchStateSelective q vendor product revision serial => Sys2Proof.Machine.execLssSwitchStateSelective q vendor product revision serial s
  | .lssConfigureNodeId q id => Sys2Proof.Machine.execLssConfigureNodeId q id s
  | .lssConfigureBitTiming q table index => Sys2Proof.Machine.execLssConfigureBitTiming q table index s
  | .lssActivateBitTiming q delayMs => Sys2Proof.Machine.execLssActivateBitTiming q delayMs s
  | .lssStoreConfiguration q => Sys2Proof.Machine.execLssStoreConfiguration q s
  | .lssInquire q what => Sys2Proof.Machine.execLssInquire q what s
  | .lssIdentifyRemoteSlave q vendor product revLow revHigh serLow serHigh => Sys2Proof.Machine.execLssIdentifyRemoteSlave q vendor product revLow revHigh serLow serHigh s
  | .lssIdentifyNonconfigured q => Sys2Proof.Machine.execLssIdentifyNonconfigured q s
  | .lssFastscan q idNumber bitCheck lssSub lssNext => Sys2Proof.Machine.execLssFastscan q idNumber bitCheck lssSub lssNext s
  | .canPortEnable p q => Sys2Proof.Machine.execCanPortEnable p q s
  | .canPortDisable p q => Sys2Proof.Machine.execCanPortDisable p q s
  | .canPortDisableForced p q => Sys2Proof.Machine.execCanPortDisableForced p q s
  | .backboneLinkLoss x => Sys2Proof.Machine.execBackboneLinkLoss x s
  | .dhcpTimeout => Sys2Proof.Machine.execDhcpTimeout s
  | .dhcpLease ip mask gateway => Sys2Proof.Machine.execDhcpLease ip mask gateway s
  | .arpRequest service ip => Sys2Proof.Machine.execArpRequest service ip s
  | .icmpEcho service ip => Sys2Proof.Machine.execIcmpEcho service ip s
  | .statusTelegramDue => Sys2Proof.Machine.execStatusTelegramDue s
  | .pdPullRequest comId => Sys2Proof.Machine.execPdPullRequest comId s
  | .commandTelegram source seq dataset => Sys2Proof.Machine.execCommandTelegram source seq dataset s
  | .gatewayRead p tcp index sub => Sys2Proof.Machine.execGatewayRead p tcp index sub s
  | .gatewayWrite p tcp index sub data => Sys2Proof.Machine.execGatewayWrite p tcp index sub data s
  | .gatewayRequestTimeout p => Sys2Proof.Machine.execGatewayRequestTimeout p s
  | .tcpConnectionClose p => Sys2Proof.Machine.execTcpConnectionClose p s
  | .ptpSyncReceived offsetNs delayNs grandmaster utcOffset port => Sys2Proof.Machine.execPtpSyncReceived offsetNs delayNs grandmaster utcOffset port s
  | .sntpPoll => Sys2Proof.Machine.execSntpPoll s
  | .sntpReply utcMs stratum alarm => Sys2Proof.Machine.execSntpReply utcMs stratum alarm s
  | .syncSourceTimeout => Sys2Proof.Machine.execSyncSourceTimeout s
  | .ptpReturn => Sys2Proof.Machine.execPtpReturn s
  | .wallTimeSet p => Sys2Proof.Machine.execWallTimeSet p s
  | .dictionaryWrite p index sub data => Sys2Proof.Machine.execDictionaryWrite p index sub data s
  | .storeAll p signature => Sys2Proof.Machine.execStoreAll p signature s
  | .storeCommunication p signature => Sys2Proof.Machine.execStoreCommunication p signature s
  | .storeApplication p signature => Sys2Proof.Machine.execStoreApplication p signature s
  | .storeComplete ok => Sys2Proof.Machine.execStoreComplete ok s
  | .restoreAll p signature => Sys2Proof.Machine.execRestoreAll p signature s
  | .restoreCommunication p signature => Sys2Proof.Machine.execRestoreCommunication p signature s
  | .restoreApplication p signature => Sys2Proof.Machine.execRestoreApplication p signature s
  | .modeSelectWrite p v => Sys2Proof.Machine.execModeSelectWrite p v s
  | .legacyStagedWrite index sub value => Sys2Proof.Machine.execLegacyStagedWrite index sub value s
  | .gRecordRead p => Sys2Proof.Machine.execGRecordRead p s
  | .gRecordClear p => Sys2Proof.Machine.execGRecordClear p s
  | .legacyBusIdleAccept => Sys2Proof.Machine.execLegacyBusIdleAccept s
  | .updatePrepare p => Sys2Proof.Machine.execUpdatePrepare p s
  | .prepareComplete => Sys2Proof.Machine.execPrepareComplete s
  | .updateChunk p data => Sys2Proof.Machine.execUpdateChunk p data s
  | .updateVerify p => Sys2Proof.Machine.execUpdateVerify p s
  | .updateLeapfrog p => Sys2Proof.Machine.execUpdateLeapfrog p s
  | .leapfrogStepDone ok => Sys2Proof.Machine.execLeapfrogStepDone ok s
  | .updateRollback p => Sys2Proof.Machine.execUpdateRollback p s
  | .updateAbort p => Sys2Proof.Machine.execUpdateAbort p s
  | .serviceWindowUpdate p => Sys2Proof.Machine.execServiceWindowUpdate p s
  | .serviceWindowOpen p => Sys2Proof.Machine.execServiceWindowOpen p s
  | .serviceWindowClose p => Sys2Proof.Machine.execServiceWindowClose p s
  | .serviceWindowExpiry => Sys2Proof.Machine.execServiceWindowExpiry s
  | .authorisationChallenge p => Sys2Proof.Machine.execAuthorisationChallenge p s
  | .authorisationResponse p response => Sys2Proof.Machine.execAuthorisationResponse p response s
  | .authorisationClose p => Sys2Proof.Machine.execAuthorisationClose p s
  | .challengeExpiry p => Sys2Proof.Machine.execChallengeExpiry p s
  | .authorisationTimeout p => Sys2Proof.Machine.execAuthorisationTimeout p s
  | .authorisationLockoutEnd p => Sys2Proof.Machine.execAuthorisationLockoutEnd p s
  | .maintenanceKeyWrite p key => Sys2Proof.Machine.execMaintenanceKeyWrite p key s
  | .doorwayBlockImport p data => Sys2Proof.Machine.execDoorwayBlockImport p data s
  | .testEvent p n => Sys2Proof.Machine.execTestEvent p n s
  | .restoreReactionDefaults p => Sys2Proof.Machine.execRestoreReactionDefaults p s
  | .occurrenceHoldExpiry scope n => Sys2Proof.Machine.execOccurrenceHoldExpiry scope n s
  | .backupDomainSupplyFail => Sys2Proof.Machine.execBackupDomainSupplyFail s
  | .enclosureCoverOpened => Sys2Proof.Machine.execEnclosureCoverOpened s
  | .backboneLinkRestored x => Sys2Proof.Machine.execBackboneLinkRestored x s
  | .tcpConnectionOpen p => Sys2Proof.Machine.execTcpConnectionOpen p s
  | .codingPlugChange v => Sys2Proof.Machine.execCodingPlugChange v s
  | .openPhaseDetected a => Sys2Proof.Machine.execOpenPhaseDetected a s
  | .chunkReportTimeout => Sys2Proof.Machine.execChunkReportTimeout s
  | .openLoadCleared c => Sys2Proof.Machine.execOpenLoadCleared c s
  | .bankFaultCleared d => Sys2Proof.Machine.execBankFaultCleared d s
  | .canBusOffEventClear q => Sys2Proof.Machine.execCanBusOffEventClear q s
  | .grantRequestWaitExpiry l => Sys2Proof.Machine.execGrantRequestWaitExpiry l s
  | .trainOutputThermalShutdown n => Sys2Proof.Machine.execTrainOutputThermalShutdown n s
  | .trainOutputThermalRestart n => Sys2Proof.Machine.execTrainOutputThermalRestart n s

end Sys2Proof.Machine
end

