-- ==== Sys2Proof/Safety.lean ====
section
/-! DEFINITION. The words the statements are made of: when a write is taken and answered, what a command leaves as it
was, what an event shows, and the invariant of the grant hardware. -/

namespace Sys2Proof.Machine

/-! ## Writes -/

/-- A write of a native object is taken: a lane runs, the path sees the native object, and the checks of R510 pass. -/
def State.takes (s : State) (p : Path) (idx sub : Nat) (data : Bytes) : Prop :=
  s.running = true ∧ s.img.legacyAt p idx = false ∧ s.hush.checkWrite p idx sub data = Verdict.ok

/-- The answer to a write waits for the commit of its frame (R512). -/
def State.owes (t : State) (p : Path) (idx sub : Nat) : Prop := (⟨p, idx, sub, false⟩ : Answer) ∈ t.img.commit.answers

/-- An answer to an access has been sent: 0 or an abort code, and the data. -/
def State.sent (t : State) (p : Path) (idx sub code : Nat) (data : Bytes) : Prop :=
  Out.answer p idx sub code data ∈ t.img.outs

/-! ## Events -/

/-- An occurrence of event `n` stands in a scope: found since the last section D, or within its hold time (R582, R583). -/
def Image.shown (im : Image) (n : Nat) (scope : Fin 13) : Bool :=
  (im.ev.scopes.get scope).news.contains n || (im.ev.scopes.get scope).holds.any (fun h => h.1 == n)

/-- A latched event `n` is latched in a scope (R581). -/
def Image.isLatched (im : Image) (n : Nat) (scope : Fin 13) : Bool := bitOf (im.ev.scopes.get scope).latched n

/-! ## What stays as it was -/

/-- The registers every event may write: its counts, its last time and source, the recorder's peak and overflow counts. -/
def eventRegs (idx : Nat) : Bool := [0x2506, 0x2507, 0x2508, 0x250C, 0x2702, 0x2703].contains idx

/-- The registers a command of a doorway may write: its block, its axes' blocks, the side's count of EV36, the collapse
and abandonment counts, and those of its events. -/
def doorRegs (d : Door) (idx : Nat) : Bool :=
  (decide (bBase d.val ≤ idx) && decide (idx < bBase d.val + 0x20)) ||
    (decide (aBase (3 * d.val) ≤ idx) && decide (idx < aBase (3 * d.val) + 24)) ||
    [0x2308, 0x2406, 0x2709].contains idx || eventRegs idx

/-- A register file without the registers of some objects. -/
def RegFile.without (own : Nat → Bool) (m : RegFile) : RegFile := m.filter (fun e => !own (e.1 / 256))

/-- What a command of doorway `d` leaves as it was: everything but the doorway, its axes, its registers and events, the
recorder, the decisions and answers that wait, the update part and what was sent. -/
def Image.apart (d : Door) (im : Image) : Image :=
  { im with
    od := RegFile.without (doorRegs d) im.od
    doors := im.doors.set d.val Doorway.reset
    axes := ((im.axes.set (3 * d.val) AxisState.reset (by omega)).set (3 * d.val + 1) AxisState.reset (by omega)).set
      (3 * d.val + 2) AxisState.reset (by omega)
    ev := { scopes := im.ev.scopes.set (doorScope d).val EvState.reset, emcy := [] }
    rcd := Recorder.reset
    commit := { im.commit with decided := [], answers := [] }
    net := { im.net with upd := Update.reset }
    outs := [] }

/-- The registers a command of a channel may write. -/
def chanRegs (c : Chan) (idx : Nat) : Bool :=
  (decide (cBase c.val ≤ idx) && decide (idx < cBase c.val + 4)) || eventRegs idx

/-- What a command of channel `c` leaves as it was: everything but the channel, its registers and the events of its
doorway, the recorder, the answers that wait and what was sent. -/
def Image.apartChan (c : Chan) (im : Image) : Image :=
  { im with
    od := RegFile.without (chanRegs c) im.od
    chans := im.chans.set c.val Channel.reset
    ev := { scopes := im.ev.scopes.set (doorScope (chanDoor c)).val EvState.reset, emcy := [] }
    rcd := Recorder.reset
    commit := { im.commit with answers := [] }
    net := { im.net with upd := Update.reset }
    outs := [] }

/-- The part of the image that moves or switches something in the train: doorways, axes, channels, train outputs, permits
and loops. -/
def Image.plant (im : Image) :
    Vector Doorway 12 × Vector AxisState 36 × Vector Channel 192 × Vector TrainOut 4 × Permits :=
  (im.doors, im.axes, im.chans, im.tos, im.permits)

/-- Nothing of a state but its working image, and the base of the image without the commands of this frame, has changed. -/
def State.imageOnly (s t : State) : Prop := t = { s with img := t.img, trail := t.trail }

/-! ## The grant hardware -/

/-- The grant invariant: both rails carry the same code and never the invalid one (R327); without supply nothing is
granted; while the hold window runs, while a rail disagreement is latched, or without a passed self-test nothing is
granted (R329, R330, R333); while nothing is granted the hold cells do not pass (R304, R337); their state is one of three
(0x2206:01). -/
def State.grantInv (s : State) : Prop :=
  s.buckle.railP = s.buckle.railQ ∧ s.buckle.railP ≤ 2 ∧ (s.powered = false → s.buckle.railP = 0) ∧
    (s.buckle.window.isSome = true → s.buckle.railP = 0) ∧ (s.buckle.latched = true → s.buckle.railP = 0) ∧
    (s.buckle.selfTest = false → s.buckle.railP = 0) ∧ (s.buckle.railP = 0 → s.hold.st ≠ 0) ∧ s.hold.st ≤ 2

/-! ## Groups of commands -/

/-- Commands that act only while a lane runs the module, serves in Lining mode or detects its rates: all but those of the
hardware that acts on its own. -/
def needsLane : Instr → Bool
  | .stitch _ | .frameWork _ | .frameOverrun _ _ | .sliceWatchdog _ _ => false
  | .gateComparatorChange _ _ | .mirrorTransaction _ _ _ _ | .mirrorSelectDeassert _ | .mirrorTransactionTimeout _ => false
  | .powerLossCommit | .inputReturn _ | .backupDomainSupplyFail | .enclosureCoverOpened => false
  | .channelOvercurrentTrip _ | .channelShortCircuitTrip _ | .channelThermalLatch _ _ _ | .channelThermalClear _ => false
  | .trainOutputThermalShutdown _ | .trainOutputThermalRestart _ => false
  | .seamBlockReceived _ | .linkAckReceived _ _ | .seamResendTimeout _ _ | .linkRetrain _ _ | .seamMonitorTimeout => false
  | .strobeLossRevocation | .grantFromNoGrant | .holdWindowExpiry | .railDisagreement | .beliefMismatch _ => false
  | .switchover | .grantRequestWaitExpiry _ => false
  | .lockstepMismatch _ _ _ _ | .uncorrectableMemoryError _ | .injectionDue _ _ => false
  | .powerGood _ _ _ _ | .logicSupplyFail | .codingPlugChange _ => false
  | .laneStart _ _ | .seamUpTimeout _ | .rateDetectionTimeout _ | .cleanRunElapsed _ | .laneRestart _ | .liningEntry => false
  | .nandWrite _ _ | .nandEraseComplete _ _ | .clearErase _ => false
  | _ => true

/-- Commands of the networks, the time sources, the record stores, the supply's measurements and the lanes' own checks. -/
def movesNothing : Instr → Bool
  | .canFrameReceived _ _ | .canCandidateTimeout _ | .canErrorPassive _ | .canBusOff _ | .canBusOffRecovery _ => true
  | .canQuarantineEnd _ | .canBusOffEventClear _ | .canSubmit _ _ _ _ _ | .canTimeTagReached _ _ | .canFrameSent _ _ => true
  | .canNoAckAbort _ _ | .canCancel _ _ _ _ | .solitaryBeacon _ | .legacyBusIdleAccept => true
  | .nmtEnterPreoperational _ _ | .nmtStopRemoteNode _ _ | .nmtResetCommunication _ _ | .nmtResetNode _ _ => true
  | .sdoRequest _ _ _ | .sdoTransferTimeout _ | .rpdoReceived _ _ _ | .rpdoDeadlineExpiry _ | .tpdoTransmit _ => true
  | .syncReceived _ _ | .syncWindowClose | .syncProduce | .timeReceived _ _ _ | .heartbeatProduce => true
  | .heartbeatConsumerTimeout _ => true
  | .lssSwitchStateGlobal _ _ | .lssSwitchStateSelective _ _ _ _ _ | .lssConfigureNodeId _ _ => true
  | .lssConfigureBitTiming _ _ _ | .lssActivateBitTiming _ _ | .lssStoreConfiguration _ | .lssInquire _ _ => true
  | .lssIdentifyRemoteSlave _ _ _ _ _ _ _ | .lssIdentifyNonconfigured _ | .lssFastscan _ _ _ _ _ => true
  | .backboneLinkLoss _ | .backboneLinkRestored _ | .dhcpTimeout | .dhcpLease _ _ _ | .arpRequest _ _ | .icmpEcho _ _ => true
  | .statusTelegramDue | .pdPullRequest _ | .commandTelegram _ _ _ | .gatewayRead _ _ _ _ | .gatewayWrite _ _ _ _ _ => true
  | .gatewayRequestTimeout _ | .tcpConnectionOpen _ | .tcpConnectionClose _ => true
  | .ptpSyncReceived _ _ _ _ _ | .sntpPoll | .sntpReply _ _ _ | .syncSourceTimeout | .ptpReturn => true
  | .dictionaryWrite _ _ _ _ | .storeComplete _ | .prepareComplete | .cursorRead _ _ _ | .gRecordRead _ => true
  | .challengeExpiry _ | .authorisationTimeout _ | .authorisationLockoutEnd _ | .serviceWindowExpiry => true
  | .occurrenceHoldExpiry _ _ | .nandWrite _ _ | .nandEraseComplete _ _ | .clearErase _ => true
  | .inputLossDeclared | .holdupMeasurement _ | .motorBusFault _ | .cellMeasurement _ | .operatingTimeSave => true
  | .backupDomainSupplyFail | .enclosureCoverOpened | .beltConditionConfirmed _ | .beltStepDown => true
  | .restDelayExpiry | .restWake | .restBusReady => true
  | .mirrorTransaction _ _ _ _ | .mirrorSelectDeassert _ | .mirrorTransactionTimeout _ => true
  | .linkAckReceived _ _ | .seamResendTimeout _ _ | .lockstepMismatch _ _ _ _ | .uncorrectableMemoryError _ => true
  | .injectionDue _ _ | .cleanRunElapsed _ | .seamUpTimeout _ | .rateDetectionTimeout _ | .codingPlugChange _ => true
  | _ => false

end Sys2Proof.Machine
end

