-- ==== Sys2Proof/Certificates/Slice0/Obligations.lean ====
section
/-! DEFINITION. The statements for the provers, from the numbered rules of the specification. -/

open Sys2Proof Sys2Proof.Machine

/-- For every command c, every rest of the queue and every state s: the step of s with c in front is exec of c on s with
the rest of the queue. (the row's queue convention (notes/assumptions/1.md)) -/
def Obligations.StepRunsFrontCommand : Prop :=
  ∀ (s : State) (c : Instr) (rest : List Instr),
    step { s with pending := c :: rest } = exec c { s with pending := rest }

/-- Every command, in every state, answers a next state whose queue of waiting commands is the one it was given.
(notes/assumptions/1.md) -/
def Obligations.QueueIsKept : Prop :=
  ∀ (i : Instr) (s : State), ∃ t, exec i s = .next t ∧ t.pending = s.pending

/-- The state before the first power good meets the grant invariant: no lane granted, the hold cells in their safe
states. (R327, R330, R304) -/
def Obligations.GrantInvariantAtReset : Prop :=
  State.reset.grantInv

/-- For every state that meets the grant invariant and every command in front of its queue, the next state meets it:
both rails carry the same valid code, nothing is granted without supply, without a passed self-test, while a rail
disagreement is latched or while the hold window runs, and the hold cells do not pass while nothing is granted.
(R304, R327, R329, R330, R333, R334, R337) -/
def Obligations.EveryStepKeepsGrantInvariant : Prop :=
  ∀ s t : State, s.grantInv → step s = .next t → t.grantInv

/-- While a lane runs the module and the doorway has taken no transition in the frame: WARNING_TIME_ELAPSED takes
Warning to Closing, AUTO_CLOSE_DWELL_EXPIRY takes Open to Warning, RECLOSE_PAUSE_ELAPSED takes Reversing to Closing,
CLOSED_SETTLE_ELAPSED takes Closed-unlocked to Locking with the lock channels off and the lock timer started, each
where its timer has run its time. (R18, R19, R29, R30, R33) -/
def Obligations.CycleTimersMoveTheDoorway : Prop :=
  ∀ (s : State) (d : Door), s.running = true → (s.img.door d).moved = false →
    ((s.img.door d).st = .warning → s.img.elapsed (s.img.door d).timers.warning (s.img.dreg d 7 1) = true →
      ∃ t, exec (.warningTimeElapsed d) s = .next t ∧ (t.img.door d).st = .closing ∧ (t.img.door d).prev = .warning ∧
        (t.img.door d).since = s.img.now) ∧
    ((s.img.door d).st = .opened → (s.img.door d).dwellSuspended = false → s.img.inp.suspend = false → s.img.dreg d 3 9 ≠ 0 →
      s.img.elapsed (s.img.door d).timers.dwell (1000 * s.img.dreg d 3 9) = true → s.img.curtainHolds d = false →
      ∃ t, exec (.autoCloseDwellExpiry d) s = .next t ∧ (t.img.door d).st = .warning ∧ (t.img.door d).autoOnly = true ∧
        (t.img.door d).timers.warning = some s.img.now) ∧
    ((s.img.door d).st = .reversing → s.img.elapsed (s.img.door d).timers.pause (s.img.dreg d 4 3) = true →
      ∃ t, exec (.reclosePauseElapsed d) s = .next t ∧ (t.img.door d).st = .closing ∧ (t.img.door d).prev = .reversing) ∧
    ((s.img.door d).st = .closedUnlocked → s.img.elapsed (s.img.door d).timers.settle (s.img.dreg d 3 6) = true →
      ∃ t, exec (.closedSettleElapsed d) s = .next t ∧ (t.img.door d).st = .locking ∧ (t.img.door d).lockOn = false ∧
        (t.img.door d).timers.lock = some s.img.now)

/-- Of a fitted doorway: LOCK_PROVING_TIMEOUT takes an Opening doorway to Step-retracting where the step is out, else to
Locked, with its lock channels off; LOCK_TIMEOUT takes a Locking doorway to Fault-held with cause 2; both latch EV46
in the doorway's scope and count in B+0x0B:04. STROKE_TIMEOUT of a group that has used up its bound and
HOMING_TIMEOUT after its bound take the doorway to Fault-held with cause 4 and latch EV45;
OPENING_RETRY_DELAY_EXPIRY of an Opening doorway ends the delay, the state stays, and leaves that stand short of
their open end are sent there again. (R23, R34, R39, R20, R27, R38, R110) -/
def Obligations.LockAndMotionTimeouts : Prop :=
  (∀ (s : State) (d : Door), s.running = true → (s.img.door d).moved = false → s.img.fitted d = true →
    ((s.img.door d).st = .opening → s.img.elapsed (s.img.door d).timers.lockProving (s.img.dreg d 3 4) = true →
      ∃ t, exec (.lockProvingTimeout d) s = .next t ∧
        (t.img.door d).st = (if s.img.stepOut d then .stepRetracting else .locked) ∧ (t.img.door d).lockOn = false ∧
        t.img.dreg d 0x0B 4 = wrap (regBits (bBase d.val + 0x0B) 4) (s.img.dreg d 0x0B 4 + 1) ∧
        t.img.isLatched 46 (doorScope d) = true) ∧
    ((s.img.door d).st = .locking → s.img.elapsed (s.img.door d).timers.lock (s.img.dreg d 3 5) = true →
      ∃ t, exec (.lockTimeout d) s = .next t ∧ (t.img.door d).st = .faultHeld ∧ t.img.dreg d 0x10 3 = 2 ∧
        t.img.dreg d 0x0B 4 = wrap (regBits (bBase d.val + 0x0B) 4) (s.img.dreg d 0x0B 4 + 1) ∧
        t.img.isLatched 46 (doorScope d) = true)) ∧
  (∀ (s : State) (d : Door), s.running = true → s.img.fitted d = true →
    (∀ g : Group, (s.img.door d).moved = false → (s.img.door d).st.moving = true → (s.img.gen d g).strokeLimit ≠ 0 →
      ((s.img.gen d g).move.isSome = true ∨ (s.img.gen d g).stallHeld = true) → (s.img.gen d g).strokeLimit ≤ (s.img.gen d g).strokeUsed →
      ∃ t, exec (.strokeTimeout d g) s = .next t ∧ (t.img.door d).st = .faultHeld ∧ t.img.dreg d 0x10 3 = 4 ∧
        t.img.isLatched 45 (doorScope d) = true) ∧
    ((s.img.door d).moved = false → (s.img.door d).homing = true →
      s.img.elapsed (s.img.door d).timers.homing (s.img.homingBound d) = true →
      ∃ t, exec (.homingTimeout d) s = .next t ∧ (t.img.door d).st = .faultHeld ∧ t.img.dreg d 0x10 3 = 4 ∧
        t.img.isLatched 45 (doorScope d) = true) ∧
    ((s.img.door d).st = .opening → (s.img.door d).again = some .leaves →
      s.img.elapsed (s.img.door d).timers.retry (s.img.dreg d 4 4) = true →
      ∃ t, exec (.openingRetryDelayExpiry d) s = .next t ∧ (t.img.door d).st = .opening ∧ (t.img.door d).again = none ∧
        (t.img.door d).timers.retry = none ∧
        ((s.img.door d).leaves.pos < 256 * (s.img.clampGroup d .leaves ((s.img.groupLimits d .leaves).openEnd)).2 →
          ∃ bound, (some s.img.now, Order.target ⟨.resume, (s.img.clampGroup d .leaves ((s.img.groupLimits d .leaves).openEnd)).2, 0, bound⟩)
            ∈ (t.img.door d).leaves.orders)))

/-- OPEN_COMMAND to which no code of R618 applies, with result 0: a Released doorway no action of which is pending,
without a step, is Opening and its unlock is decided; with a step that is used and not blocked it is Step-extending;
a doorway in Warning by auto-close alone is Open; a Closing one that B+0x04:06 lets reopen is Reversing to full
open. In every other state the result is 1 and the state stays. OPEN_BUTTON asks the same of a Released doorway
through the input it names, where its source is enabled. Where openRefusal, the first code of R618 that applies, is
not 0, OPEN_COMMAND leaves the doorway's state and its decisions and shows that code in B+0x02:02. (R16, R21, R22,
R26, R618) -/
def Obligations.OpenRequests : Prop :=
  (∀ (s : State) (d : Door) (p : Path), s.running = true → s.takes p (bBase d.val + 2) 1 [1] →
    s.img.openRefusal d .network (s.img.openTimedOut d) = 0 →
    ((s.img.door d).st = .released → s.img.doorPending d = false →
      (s.img.stepFitted d = false →
        ∃ t, exec (.openCommand p d) s = .next t ∧ (t.img.door d).st = .opening ∧ .unlock d ∈ t.img.commit.decided ∧
          t.img.dreg d 2 2 = 0 ∧ t.owes p (bBase d.val + 2) 1) ∧
      (s.img.stepFitted d = true → s.img.dreg d 6 1 ≠ 0 → s.img.roleTrue d 13 = false →
        ∃ t, exec (.openCommand p d) s = .next t ∧ (t.img.door d).st = .stepExtending ∧ t.img.dreg d 2 2 = 0 ∧
          t.owes p (bBase d.val + 2) 1)) ∧
    ((s.img.door d).st = .warning → (s.img.door d).autoOnly = true →
      ∃ t, exec (.openCommand p d) s = .next t ∧ (t.img.door d).st = .opened ∧ t.img.dreg d 2 2 = 0 ∧
        t.owes p (bBase d.val + 2) 1) ∧
    ((s.img.door d).st = .closing → s.img.dreg d 4 6 = 1 →
      ∃ t, exec (.openCommand p d) s = .next t ∧ (t.img.door d).st = .reversing ∧ (t.img.door d).reverseFull = true ∧
        t.img.dreg d 2 2 = 0 ∧ t.owes p (bBase d.val + 2) 1) ∧
    (((s.img.door d).st = .released ∧ s.img.doorPending d = true) ∨
        ((s.img.door d).st = .warning ∧ (s.img.door d).autoOnly = false) ∨ ((s.img.door d).st = .closing ∧ s.img.dreg d 4 6 ≠ 1) ∨
        (s.img.door d).st ∉ [.released, .warning, .closing] →
      ∃ t, exec (.openCommand p d) s = .next t ∧ t.img.door d = s.img.door d ∧ t.img.commit.decided = s.img.commit.decided ∧
        t.img.dreg d 2 2 = 1)) ∧
  (∀ (s : State) (d : Door) (outside : Bool), s.running = true → (s.img.door d).st = .released → s.img.stepFitted d = false →
    s.img.doorPending d = false → s.img.fitted d = true → s.img.roleHeld d (if outside then 6 else 5) = true →
    bitOf (s.img.dreg d 2 3) (if outside then 1 else 0) = true →
    (s.img.doorInput d (if outside then 6 else 5) true).openRefusal d (if outside then .outside else .inside) false = 0 →
    ∃ t, exec (.openButton d outside) s = .next t ∧ (t.img.door d).st = .opening ∧ .unlock d ∈ t.img.commit.decided ∧
      t.img.dreg d 2 2 = 0) ∧
  (∀ (s : State) (d : Door) (p : Path), s.takes p (bBase d.val + 2) 1 [1] →
    s.img.openRefusal d .network (s.img.openTimedOut d) ≠ 0 →
    ∃ t, exec (.openCommand p d) s = .next t ∧ t.img.door d = s.img.door d ∧ t.img.commit.decided = s.img.commit.decided ∧
      t.img.dreg d 2 2 = s.img.openRefusal d .network (s.img.openTimedOut d))

/-- CLOSE_COMMAND shows the result R618 gives the state of the doorway, and where that has taken no transition in the
frame: an Opening doorway, an Open one that the light curtain does not hold, and a Fault-held one without latches,
which is to home, are in Warning with the warning time started and no auto-close mark, the reopen count of an Open
one at 0 and EV42 cleared; an Open doorway that the curtain holds keeps the request; a Warning by auto-close alone
is the request’s own. Where a transition has been taken the request waits for the next frame. A crew close does the
same: of its key to the fitted doorway whose key input it is, of a side to each fitted doorway of that side and to
no other. (R16, R17, R18, R29, R30, R618) -/
def Obligations.CloseRequestsStartTheWarning : Prop :=
  (∀ (s : State) (d : Door) (p : Path), s.takes p (bBase d.val + 2) 1 [2] →
    (∃ t, exec (.closeCommand p d) s = .next t ∧ t.img.dreg d 2 2 = closeResult (s.img.door d).st ∧
      t.owes p (bBase d.val + 2) 1 ∧ t.img.evActive 42 (doorScope d) = false ∧ (t.img.door d).dwellSuspended = false) ∧
    ((s.img.door d).moved = false →
      ((s.img.door d).st = .opening ∨ ((s.img.door d).st = .opened ∧ s.img.curtainHolds d = false) ∨
          ((s.img.door d).st = .faultHeld ∧ s.img.doorLatches d = 0) →
        ∃ t, exec (.closeCommand p d) s = .next t ∧ (t.img.door d).st = .warning ∧ (t.img.door d).prev = (s.img.door d).st ∧
          (t.img.door d).timers.warning = some s.img.now ∧ (t.img.door d).autoOnly = false ∧
          ((s.img.door d).st = .opened → t.img.dreg d 1 5 = 0) ∧
          ((s.img.door d).st = .faultHeld → (t.img.door d).homing = true)) ∧
      ((s.img.door d).st = .opened → s.img.curtainHolds d = true →
        ∃ t, exec (.closeCommand p d) s = .next t ∧ (t.img.door d).st = .opened ∧ (t.img.door d).closeHeld = some .network)) ∧
    ((s.img.door d).st = .warning → 
      ∃ t, exec (.closeCommand p d) s = .next t ∧ (t.img.door d).st = .warning ∧ (t.img.door d).autoOnly = false) ∧
    ((s.img.door d).moved = true → ((s.img.door d).st = .opening ∨ (s.img.door d).st = .opened ∨ (s.img.door d).st = .faultHeld) →
      ∃ t, exec (.closeCommand p d) s = .next t ∧ (t.img.door d).st = (s.img.door d).st ∧
        .close .network ∈ (t.img.door d).wishes)) ∧
  (∀ (s : State) (d : Door), s.running = true → s.img.fitted d = true → s.img.roleHeld d 12 = true →
    (s.img.door d).moved = false →
    ((s.img.door d).st = .opening ∨ ((s.img.door d).st = .opened ∧ (s.img.doorInput d 12 true).curtainHolds d = false) →
      ∃ t, exec (.crewCloseInput (.key d)) s = .next t ∧ (t.img.door d).st = .warning ∧ (t.img.door d).prev = (s.img.door d).st ∧
        (t.img.door d).timers.warning = some s.img.now ∧ (t.img.door d).autoOnly = false ∧
        ((s.img.door d).st = .opened → t.img.dreg d 1 5 = 0)) ∧
    ((s.img.door d).st = .opened → (s.img.doorInput d 12 true).curtainHolds d = true →
      ∃ t, exec (.crewCloseInput (.key d)) s = .next t ∧ (t.img.door d).st = .opened ∧ (t.img.door d).closeHeld = some .key)) ∧
  (∀ (s : State) (side : Side), s.running = true →
    ∃ t, exec (.crewCloseInput (match side with | .a => .sideA | .b => .sideB)) s = .next t ∧
      ∀ d : Door,
        (s.img.fitted d = true → s.img.sideOf d = side → (s.img.door d).moved = false →
          ((s.img.door d).st = .opening ∨ ((s.img.door d).st = .opened ∧ s.img.curtainHolds d = false) →
            (t.img.door d).st = .warning ∧ (t.img.door d).prev = (s.img.door d).st ∧
              (t.img.door d).timers.warning = some s.img.now ∧ (t.img.door d).autoOnly = false ∧
              ((s.img.door d).st = .opened → t.img.dreg d 1 5 = 0)) ∧
          ((s.img.door d).st = .opened → s.img.curtainHolds d = true →
            (t.img.door d).st = .opened ∧ (t.img.door d).closeHeld = some .crew)) ∧
        (s.img.fitted d = false ∨ s.img.sideOf d ≠ side → t.img.door d = s.img.door d))

/-- EMERGENCY_HANDLE_OPERATED takes a fitted doorway in service that has taken no transition in the frame to Emergency
with its lock channels off and EV48 active, and on an Isolated or Manual doorway raises EV48 alone; on such a
doorway EMERGENCY_HANDLE_NORMAL clears EV48; EMERGENCY_RESET_COMMAND ends Emergency in Locked, Closed-unlocked or
Warning by what is proven; the reset function of TI12 to TI16 ends it from the key source on a fitted doorway that
enables that source. (R16, R35, R36, R293, R618) -/
def Obligations.EmergencyHandleRules : Prop :=
  ∀ (s : State) (d : Door), s.running = true →
    (s.img.fitted d = true → s.img.roleHeld d 7 = true → (s.img.door d).st ≠ .isolated → (s.img.door d).st ≠ .manual →
      (s.img.door d).st ≠ .emergency → (s.img.door d).moved = false → (s.img.door d).handleSeen = false →
      ∃ t, exec (.emergencyHandleOperated d) s = .next t ∧ (t.img.door d).st = .emergency ∧ (t.img.door d).lockOn = false ∧
        t.img.evActive 48 (doorScope d) = true) ∧
    (s.img.fitted d = true → s.img.roleHeld d 7 = true → ((s.img.door d).st = .isolated ∨ (s.img.door d).st = .manual) →
      (s.img.door d).handleSeen = false →
      ∃ t, exec (.emergencyHandleOperated d) s = .next t ∧ (t.img.door d).st = (s.img.door d).st ∧
        (t.img.door d).handleSeen = true ∧ t.img.evActive 48 (doorScope d) = true) ∧
    (((s.img.door d).st = .isolated ∨ (s.img.door d).st = .manual) → (s.img.door d).handleSeen = true →
      (s.img.doorInput d 7 false).handle d = false →
      ∃ t, exec (.emergencyHandleNormal d) s = .next t ∧ (t.img.door d).st = (s.img.door d).st ∧
        (t.img.door d).handleSeen = false ∧ t.img.evActive 48 (doorScope d) = false) ∧
    (∀ p : Path, s.takes p (bBase d.val + 2) 1 [4] → (s.img.door d).st = .emergency → (s.img.door d).moved = false →
      bitOf (s.img.dreg d 0x0C 2) 0 = true → s.img.handle d = false →
      ∃ t, exec (.emergencyResetCommand p d) s = .next t ∧ t.img.evActive 48 (doorScope d) = false ∧ t.img.dreg d 2 2 = 0 ∧
        (t.img.door d).st = (if s.img.lockedProven d then .locked else if s.img.closedProven d then .closedUnlocked else .warning)) ∧
    (∀ n : Fin 5, s.img.tiFunction n = 5 → s.img.ti (functionInput n) = false →
      (s.img.trainInput (functionInput n) true).ti (functionInput n) = true → s.img.fitted d = true →
      (s.img.door d).st = .emergency → (s.img.door d).moved = false → bitOf (s.img.dreg d 0x0C 2) 1 = true →
      s.img.handle d = false →
      ∃ t, exec (.tiFunctionEmergencyReset n) s = .next t ∧ t.img.evActive 48 (doorScope d) = false ∧ t.img.dreg d 2 2 = 0 ∧
        (t.img.door d).st = (if s.img.lockedProven d then .locked else if s.img.closedProven d then .closedUnlocked else .warning))

/-- FAULT_RESET_COMMAND and CLEAR_DOORWAY_LATCHES leave no latch of a doorway whose condition is absent; the fault reset
takes a Fault-held doorway that is proven locked to Locked and shows result 0; the reset function of TI12 to TI16
does the same to every fitted doorway. (R581, R618, R293) -/
def Obligations.FaultResetsReleaseLatches : Prop :=
  ∀ (s : State) (d : Door), s.running = true →
    (∀ p : Path, s.takes p (bBase d.val + 0x10) 2 [1] →
      ∃ t, exec (.clearDoorwayLatches p d) s = .next t ∧ (t.img.door d).st = (s.img.door d).st ∧
        ∀ n ∈ doorLatched, s.img.evActive n (doorScope d) = false → t.img.isLatched n (doorScope d) = false) ∧
    (∀ p : Path, s.takes p (bBase d.val + 2) 1 [3] → (s.img.door d).st = .faultHeld → (s.img.door d).moved = false →
      s.img.lockedProven d = true →
      ∃ t, exec (.faultResetCommand p d) s = .next t ∧ (t.img.door d).st = .locked ∧ t.img.dreg d 2 2 = 0 ∧
        ∀ n ∈ doorLatched, s.img.evActive n (doorScope d) = false → t.img.isLatched n (doorScope d) = false) ∧
    (∀ n : Fin 5, s.img.tiFunction n = 4 → s.img.ti (functionInput n) = false →
      (s.img.trainInput (functionInput n) true).ti (functionInput n) = true → s.img.fitted d = true →
      ∃ t, exec (.tiFunctionFaultReset n) s = .next t ∧ t.img.dreg d 2 2 = 0 ∧
        (∀ k ∈ doorLatched, s.img.evActive k (doorScope d) = false → t.img.isLatched k (doorScope d) = false) ∧
        ((s.img.door d).st = .faultHeld → (s.img.door d).moved = false → s.img.lockedProven d = true →
          (t.img.door d).st = .locked))

/-- Of a doorway that has taken no transition in the frame: ISOLATE_COMMAND of a Locked or Released one without pending
records isolates it at once (isolation state 2, source 1); ISOLATE_FORCED_COMMAND isolates any other doorway at once
(state 4); the isolation switch isolates a Locked doorway with source 2 and its release returns it;
RETURN_TO_SERVICE_COMMAND of an Isolated fitted doorway ends in Locked, or in Fault-held with cause 1 where locked
is not proven; each of them shows EV49. A forced isolation of a doorway that has taken a transition waits for the
next frame. (R9, R11, R16, R42, R45, R617) -/
def Obligations.IsolationAndReturn : Prop :=
  ∀ (s : State) (d : Door), s.running = true → 
    (∀ p : Path, s.takes p (bBase d.val + 0x11) 1 [1] → (s.img.door d).drain = none → (s.img.door d).moved = false →
      s.img.recordsPending (doorScope d) = false →
      ((s.img.door d).st = .locked ∨ (s.img.door d).st = .released) →
      ∃ t, exec (.isolateCommand p d) s = .next t ∧ (t.img.door d).st = .isolated ∧ t.img.dreg d 0x11 2 = 2 ∧
        t.img.dreg d 0x11 3 = 1 ∧ t.img.shown 49 (doorScope d) = true) ∧
    (∀ p : Path, s.takes p (bBase d.val + 0x11) 1 [2] → (s.img.door d).st ≠ .isolated →
      ((s.img.door d).moved = false →
        ∃ t, exec (.isolateForcedCommand p d) s = .next t ∧ (t.img.door d).st = .isolated ∧ t.img.dreg d 0x11 2 = 4 ∧
          (t.img.door d).drain = none ∧ (t.img.door d).lockOn = false ∧ t.img.shown 49 (doorScope d) = true) ∧
      ((s.img.door d).moved = true →
        ∃ t, exec (.isolateForcedCommand p d) s = .next t ∧ (t.img.door d).st = (s.img.door d).st ∧
          .forced .network ∈ (t.img.door d).wishes)) ∧
    (∀ p : Path, s.takes p (bBase d.val + 0x11) 1 [3] → (s.img.door d).moved = false → (s.img.door d).st = .isolated →
      s.img.fitted d = true →
      ∃ t, exec (.returnToServiceCommand p d) s = .next t ∧ t.img.dreg d 0x11 2 = 0 ∧ t.img.dreg d 0x11 3 = 0 ∧
        t.img.shown 49 (doorScope d) = true ∧
        (if s.img.lockedProven d then (t.img.door d).st = .locked else (t.img.door d).st = .faultHeld ∧ t.img.dreg d 0x10 3 = 1)) ∧
    (s.img.fitted d = true → s.img.roleHeld d 8 = true → (s.img.door d).st = .locked → (s.img.door d).drain = none →
      (s.img.door d).moved = false → s.img.recordsPending (doorScope d) = false → (s.img.doorInput d 8 true).roleTrue d 8 = true →
      ∃ t, exec (.isolationSwitchInput d true) s = .next t ∧ (t.img.door d).st = .isolated ∧ t.img.dreg d 0x11 2 = 2 ∧
        t.img.dreg d 0x11 3 = 2 ∧ t.img.shown 49 (doorScope d) = true) ∧
    (s.img.fitted d = true → s.img.roleHeld d 8 = true → (s.img.door d).st = .isolated → s.img.dreg d 0x11 3 = 2 →
      (s.img.doorInput d 8 false).roleTrue d 8 = false → (s.img.door d).moved = false →
      ∃ t, exec (.isolationSwitchInput d false) s = .next t ∧ t.img.dreg d 0x11 2 = 0 ∧ t.img.shown 49 (doorScope d) = true ∧
        (if (s.img.doorInput d 8 false).lockedProven d then (t.img.door d).st = .locked
         else (t.img.door d).st = .faultHeld ∧ t.img.dreg d 0x10 3 = 1))

/-- DRAIN_COMPLETE, once the records of the item are committed, isolates a Locked doorway that drains with state 2,
disables an axis at rest with outcome 1, a channel without a flash dwell, a port without requests;
DRAIN_BOUND_EXPIRY isolates a doorway with state 3, disables an axis with outcome 2, a channel two frames after its
request, and a port at once. (R9, R10, R135, R265, R477, R617) -/
def Obligations.DrainsEndDisabled : Prop :=
  ∀ s : State, s.running = true →
    (∀ d : Door, (s.img.door d).drain.isSome = true → (s.img.door d).st = .locked → (s.img.door d).moved = false →
      s.img.recordsPending (doorScope d) = false →
      ∃ t, exec (.drainComplete (.door d)) s = .next t ∧ (t.img.door d).st = .isolated ∧ t.img.dreg d 0x11 2 = 2) ∧
    (∀ (d : Door) (x : DoorDrain), (s.img.door d).drain = some x → s.img.elapsed x.profileDone (s.img.dreg d 3 5) = true →
      (s.img.door d).moved = false →
      ∃ t, exec (.drainBoundExpiry (.door d)) s = .next t ∧ (t.img.door d).st = .isolated ∧ t.img.dreg d 0x11 2 = 3) ∧
    (∀ a : Axis, (s.img.axis a).drain.isSome = true → s.img.axisMoving a = false →
      s.img.recordsPending (doorScope (axisDoor a)) = false →
      ∃ t, exec (.drainComplete (.axis a)) s = .next t ∧ (t.img.axis a).disabled = true ∧ (t.img.axis a).drain = none ∧
        t.img.areg a 2 8 = 1) ∧
    (∀ (a : Axis) (x : AxisDrain), (s.img.axis a).drain = some x →
      s.img.strokeBound (axisDoor a) .leaves .stroke false ≤ x.ticks →
      ∃ t, exec (.drainBoundExpiry (.axis a)) s = .next t ∧ (t.img.axis a).disabled = true ∧ (t.img.axis a).drain = none ∧
        t.img.areg a 2 8 = 2) ∧
    (∀ c : Chan, (s.img.chan c).drain.isSome = true → (s.img.chan c).flashing = false →
      s.img.recordsPending (doorScope (chanDoor c)) = false →
      ∃ t, exec (.drainComplete (.chan c)) s = .next t ∧ (t.img.chan c).disabled = true ∧ (t.img.chan c).drain = none) ∧
    (∀ (c : Chan) (f : Nat), (s.img.chan c).drain = some f → f + 2 ≤ s.img.now →
      s.img.recordsPending (doorScope (chanDoor c)) = false →
      ∃ t, exec (.drainBoundExpiry (.chan c)) s = .next t ∧ (t.img.chan c).disabled = true ∧ (t.img.chan c).drain = none) ∧
    (∀ q : Port, s.img.portDrained q = true →
      ∃ t, exec (.drainComplete (.port q)) s = .next t ∧ (t.img.canPort q).st = .disabled) ∧
    (∀ q : Port, (s.img.canPort q).drain.isSome = true →
      ∃ t, exec (.drainBoundExpiry (.port q)) s = .next t ∧ (t.img.canPort q).st = .disabled)

/-- MANUAL_ENTER of a fitted Fault-held or Isolated doorway that has taken no transition in the frame takes it to Manual
with EV63; JOG_WRITE stores the jog value and restarts its 200 ms, and one of 0 stops the axes, JOG_REFRESH_EXPIRY
sets it to 0 after them; MANUAL_LOCK_RELEASE decides an unlock, or switches the lock channels off; MANUAL_LEAVE
clears EV63 and ends in Isolated, Locked or Fault-held. (R22, R41, notes/assumptions/41.md) -/
def Obligations.ManualModeRules : Prop :=
  ∀ (s : State) (d : Door) (p : Path), s.running = true →
    (s.takes p (bBase d.val + 0x12) 1 [1] → (s.img.door d).moved = false →
      ((s.img.door d).st = .faultHeld ∨ (s.img.door d).st = .isolated) → s.img.fitted d = true →
      ∃ t, exec (.manualEnter p d) s = .next t ∧ (t.img.door d).st = .manual ∧ t.img.dreg d 0x12 1 = 1 ∧
        (t.img.door d).manualFromIsolated = decide ((s.img.door d).st = .isolated) ∧ t.img.evActive 63 (doorScope d) = true) ∧
    (s.takes p (bBase d.val + 0x12) 1 [0] → (s.img.door d).st = .manual → (s.img.door d).moved = false →
      ∃ t, exec (.manualLeave p d) s = .next t ∧ t.img.dreg d 0x12 1 = 0 ∧ t.img.evActive 63 (doorScope d) = false ∧
        (t.img.door d).lockOn = false ∧
        (if (s.img.door d).manualFromIsolated then (t.img.door d).st = .isolated
         else if s.img.lockedProven d then (t.img.door d).st = .locked
         else (t.img.door d).st = .faultHeld ∧ t.img.dreg d 0x10 3 = 1)) ∧
    (∀ v : Int, -128 ≤ v → v ≤ 127 → s.takes p (bBase d.val + 0x12) 2 (le 1 (encInt 8 v)) → (s.img.door d).st = .manual →
      ∃ t, exec (.jogWrite p d v) s = .next t ∧ t.img.dsreg d 0x12 2 = v ∧ (t.img.door d).jogFrame = s.img.now ∧
        (v = 0 → (t.img.door d).jogBlocked = false ∧ ∀ k : Fin 3, (s.img.axis (axisOf d k)).solo.move.isSome = true →
          ∃ o ∈ (t.img.axis (axisOf d k)).solo.orders, o.2.isStop = true)) ∧
    ((s.img.door d).st = .manual → s.img.dsreg d 0x12 2 ≠ 0 → (s.img.door d).jogFrame + 200 ≤ s.img.now →
      ∃ t, exec (.jogRefreshExpiry d) s = .next t ∧ t.img.dsreg d 0x12 2 = 0 ∧ (t.img.door d).jogBlocked = false ∧
        ∀ k : Fin 3, (s.img.axis (axisOf d k)).solo.move.isSome = true →
          ∃ o ∈ (t.img.axis (axisOf d k)).solo.orders, o.2.isStop = true) ∧
    (s.takes p (bBase d.val + 0x12) 5 [1] → (s.img.door d).st = .manual → s.img.doorPending d = false →
      (s.img.door d).lockOn = false →
      ∃ t, exec (.manualLockRelease p d true) s = .next t ∧ .unlock d ∈ t.img.commit.decided ∧ t.img.dreg d 0x12 5 = 1) ∧
    (s.takes p (bBase d.val + 0x12) 5 [0] → (s.img.door d).st = .manual →
      ∃ t, exec (.manualLockRelease p d false) s = .next t ∧ (t.img.door d).lockOn = false ∧ t.img.dreg d 0x12 5 = 0)

/-- TEACH_START begins a teach with no cycle done; TEACH_ABORT of a fitted doorway ends a running one with result 2 and
EV54; CONTOUR_SHEET_WRITE makes a whole sheet the taught sheet of its direction, or sets the effective mass or the
viscous coefficient. (R15, R152, R154, R155) -/
def Obligations.TeachAndSheetWrites : Prop :=
  ∀ (s : State) (d : Door) (a : Axis) (p : Path), s.running = true →
    (s.takes p (bBase d.val + 0x14) 1 [1] →
      ∃ t, exec (.teachStart p d) s = .next t ∧ (t.img.door d).teach = ⟨true, s.img.now, 0, 0⟩ ∧ t.img.dreg d 0x14 2 = 1 ∧
        ∀ k : Fin 3, s.img.moverFitted d k = true → (t.img.axis (axisOf d k)).teach = []) ∧
    (s.takes p (bBase d.val + 0x14) 1 [2] → (s.img.door d).teach.running = true → s.img.fitted d = true →
      ∃ t, exec (.teachAbort p d) s = .next t ∧ (t.img.door d).teach.running = false ∧ t.img.dreg d 0x14 4 = 2 ∧
        t.img.shown 54 (doorScope d) = true) ∧
    (∀ bins : List Int, bins.length = 256 → (∀ b ∈ bins, -32768 ≤ b ∧ b ≤ 32767) →
      (s.takes p (aBase a.val + 7) 1 ((bins.map (fun b => le 2 (encInt 16 b))).flatten) →
        ∃ t, exec (.contourSheetWrite p a (.opening bins)) s = .next t ∧
          (t.img.axis a).opening = ⟨true, bins, List.replicate 256 0⟩ ∧ (t.img.axis a).closing = (s.img.axis a).closing) ∧
      (s.takes p (aBase a.val + 7) 2 ((bins.map (fun b => le 2 (encInt 16 b))).flatten) →
        ∃ t, exec (.contourSheetWrite p a (.closing bins)) s = .next t ∧
          (t.img.axis a).closing = ⟨true, bins, List.replicate 256 0⟩ ∧ (t.img.axis a).opening = (s.img.axis a).opening)) ∧
    (∀ m : Nat, m < 65536 → s.takes p (aBase a.val + 4) 9 (le 2 m) →
      ∃ t, exec (.contourSheetWrite p a (.mass m)) s = .next t ∧ t.img.areg a 4 9 = m) ∧
    (∀ c : Nat, c < 65536 → s.takes p (aBase a.val + 4) 0x0A (le 2 c) →
      ∃ t, exec (.contourSheetWrite p a (.viscous c)) s = .next t ∧ t.img.areg a 4 0x0A = c)

/-- STAGE_ENTRY appends its entry to the staged set; STAGED_DISCARD empties it; STAGED_APPLY of a set in a doorway that
may be configured makes it due; LEAF_COUNT_WRITE of 0 isolates the doorway with source 3, of 1 or 2 it changes the
leaf count and not the state; SELECTIVE_ENABLE_CHANGE takes each Released doorway that is no member to Locked while
the selective input reads true, and changes no other state; CHATTER_WINDOW_END ends collapse where no more cycles
than the threshold were folded, and begins the next window where more were. (R15, R24, R45, R46, R48, R414) -/
def Obligations.StagedConfigurationRules : Prop :=
  ∀ (s : State) (d : Door) (p : Path), s.running = true →
    (∀ e : Nat, e < 2 ^ 64 → s.takes p (bBase d.val + 0x15) 2 (le 8 e) →
      ∃ t, exec (.stageEntry p d e) s = .next t ∧ (t.img.door d).staged = (s.img.door d).staged ++ [stagedOf e] ∧
        t.img.dreg d 0x15 4 = 1) ∧
    (s.takes p (bBase d.val + 0x15) 3 [0] → s.img.mayConfigure d.val = true → (s.img.door d).staged ≠ [] →
      ∃ t, exec (.stagedApply p d) s = .next t ∧ (t.img.door d).applyDue = true ∧ (t.img.door d).staged = (s.img.door d).staged) ∧
    (s.takes p (bBase d.val + 0x15) 3 [1] →
      ∃ t, exec (.stagedDiscard p d) s = .next t ∧ (t.img.door d).staged = [] ∧ (t.img.door d).applyDue = false ∧
        t.img.dreg d 0x15 4 = 0) ∧
    (s.takes p (bBase d.val) 2 [0] →
      ∃ t, exec (.leafCountWrite p d 0) s = .next t ∧ (t.img.door d).st = .isolated ∧ t.img.leafCount d = 0 ∧
        t.img.dreg d 0x11 2 = 2 ∧ t.img.dreg d 0x11 3 = 3) ∧
    (∀ n : Nat, n = 1 ∨ n = 2 → s.takes p (bBase d.val) 2 [n] →
      ∃ t, exec (.leafCountWrite p d n) s = .next t ∧ t.img.leafCount d = n ∧ (t.img.door d).st = (s.img.door d).st) ∧
    (∀ on : Bool, ∃ t, exec (.selectiveEnableChange on) s = .next t ∧
      (t.img.door d).st =
        if (s.img.door d).st = .released ∧ (s.img.door d).moved = false ∧ s.img.member d = false ∧
            (s.img.trainInput 9 on).selective = true then .locked else (s.img.door d).st) ∧
    ((s.img.door d).chatter.active = true → (s.img.door d).chatter.start + s.img.windowOp d ≤ s.img.op →
      ((s.img.door d).chatter.cycles ≤ s.img.dreg d 0x13 2 →
        ∃ t, exec (.chatterWindowEnd d) s = .next t ∧ (t.img.door d).chatter.active = false ∧
          t.img.evActive 61 (doorScope d) = false) ∧
      (s.img.dreg d 0x13 2 < (s.img.door d).chatter.cycles →
        ∃ t, exec (.chatterWindowEnd d) s = .next t ∧ (t.img.door d).chatter.active = true ∧
          (t.img.door d).chatter.start = (s.img.door d).chatter.start + s.img.windowOp d ∧ (t.img.door d).chatter.cycles = 0))

/-- The events of one doorway (its timers, buttons, handle, isolation switch, drains, jogs, stops, edges and its chatter
window) change nothing outside the working image, and in it nothing but that doorway, its axes, its registers and
events, the recorder and the decisions that wait: every other doorway, axis, channel, train output, input, permit,
clock, supply and network value reads as before. Trips, thermal latches, retries and open loads of a channel change
nothing outside the working image, and in it nothing but the channel, its registers, the events of its doorway and
the recorder: every other channel, doorway, axis, input, permit, clock, supply and network value reads as before.
(R3, R4, R14, R16, R243, R249) -/
def Obligations.EventsLeaveTheRestAlone : Prop :=
  (∀ (s : State) (d : Door), ∀ i ∈ ([
      (.warningTimeElapsed d), (.autoCloseDwellExpiry d), (.closedSettleElapsed d), (.lockProvingTimeout d), (.lockTimeout d),
      (.reclosePauseElapsed d), (.openingRetryDelayExpiry d), (.homingTimeout d), (.strokeTimeout d .leaves),
      (.strokeTimeout d .step), (.openButton d true), (.openButton d false), (.crewCloseInput (.key d)),
      (.emergencyHandleOperated d), (.emergencyHandleNormal d), (.isolationSwitchInput d true),
      (.isolationSwitchInput d false), (.drainComplete (.door d)), (.drainBoundExpiry (.door d)), (.jogRefreshExpiry d),
      (.retargetStopComplete d .leaves), (.retargetStopComplete d .step), (.obstacleStopEnd d .leaves),
      (.obstacleStopEnd d .step), (.obstacleStopTimeout d .leaves), (.obstacleStopTimeout d .step), (.edgeFaultClear d .ea),
      (.edgeFaultClear d .eb), (.chatterWindowEnd d)] : List Instr),
    ∃ t, exec i s = .next t ∧ s.imageOnly t ∧ t.img.apart d = s.img.apart d) ∧
  (∀ (s : State) (c : Chan) (dt tj : Int), ∀ i ∈ ([
      (.channelOvercurrentTrip c), (.channelShortCircuitTrip c), (.channelThermalLatch c dt tj), (.channelThermalClear c),
      (.channelRetryDue c), (.channelRetryRestore c), (.channelLatchOffClear c), (.openLoadDetected c),
      (.openLoadCleared c)] : List Instr),
    ∃ t, exec i s = .next t ∧ s.imageOnly t ∧ t.img.apartChan c = s.img.apartChan c)

/-- TRACTION_INPUT_CHANGE: traction is active exactly where TI9 reads active or TI9 is in fault, and 0x2304:01 and
0x2304:02 show it and the fault. (R63) -/
def Obligations.TractionReadsItsInputOrItsFault : Prop :=
  ∀ (s : State) (on : Bool), s.running = true →
    ∃ t, exec (.tractionInputChange on) s = .next t ∧
      t.img.permits.traction = (on || decide ((s.img.inp.tis.get 8).fault ≠ 0)) ∧
      t.img.reg 0x2304 1 = b2n (on || decide ((s.img.inp.tis.get 8).fault ≠ 0)) ∧
      t.img.reg 0x2304 2 = b2n (decide ((s.img.inp.tis.get 8).fault ≠ 0))

/-- RELEASE_PAIR_CHANGE: two true channels of a pair without latch make the pair read true; a release channel that goes
false withdraws the held token of its side with cause 1. PAIR_DISCREPANCY_LATCH latches a pair whose count has
reached its time, with EV34 or EV35. REGRANT_HOLDOFF_EXPIRY grants a token all of whose conditions hold.
NETWORK_PERMIT_TIMEOUT of a permit that is required withdraws the held token of a side whose other conditions hold
with cause 5. A side on which an action is pending decides nothing further. (R62, R64, R66, R67, R68, R84, R87,
R316) -/
def Obligations.PairsAndTokens : Prop :=
  ∀ s : State, s.running = true →
    (∀ (ti : Fin 6) (on : Bool), (s.img.permits.pair (pairOf ti)).latched = false →
      (s.img.trainInput ⟨ti.val, by omega⟩ on).channel (pairInputs (pairOf ti)).1 = true →
      (s.img.trainInput ⟨ti.val, by omega⟩ on).channel (pairInputs (pairOf ti)).2 = true →
      ∃ t, exec (.releasePairChange ti on) s = .next t ∧ (t.img.permits.pair (pairOf ti)).reading = true ∧
        t.img.reg (pairObj (pairOf ti)) 1 = 1) ∧
    (∀ (side : Side) (ti : Fin 6), pairOf ti = relPair side → (s.img.inp.tis.get ⟨ti.val, by omega⟩).fault = 0 →
      (s.img.permits.side side).held = true → s.img.sidePending side = false →
      ∃ t, exec (.releasePairChange ti false) s = .next t ∧ .withdraw side 1 ∈ t.img.commit.decided ∧
        (t.img.permits.pair (pairOf ti)).reading = false) ∧
    (∀ q : Pair, (s.img.permits.pair q).latched = false → 0 < (s.img.permits.pair q).differ →
      s.img.pairTime q ≤ (s.img.permits.pair q).differ →
      ∃ t, exec (.pairDiscrepancyLatch q) s = .next t ∧ (t.img.permits.pair q).latched = true ∧
        (t.img.permits.pair q).reading = false ∧ t.img.evActive (match q with | .zero => 35 | _ => 34) modScope = true) ∧
    (∀ side : Side, s.img.grantConditions side = 63 → (s.img.permits.side side).held = false → s.img.sidePending side = false →
      ∃ t, exec (.regrantHoldoffExpiry side) s = .next t ∧ .grant side ∈ t.img.commit.decided ∧
        t.img.reg (tokenObj side) 2 = 63) ∧
    (∀ side : Side, s.img.sidePending side = true →
      ∃ t, exec (.regrantHoldoffExpiry side) s = .next t ∧ t.img.commit = s.img.commit) ∧
    (∀ (ti : Fin 6) (on : Bool), s.img.sidePending .a = true → s.img.sidePending .b = true →
      ∃ t, exec (.releasePairChange ti on) s = .next t ∧ t.img.commit = s.img.commit) ∧
    (∀ side : Side, s.img.permitRequired = true → s.img.inp.sup.permitOut = false →
      max (s.img.inp.sup.permit.getD 0) (max (s.img.inp.sup.permitReq.getD s.img.now) s.img.inp.sup.since) + s.img.reg 0x2305 4 ≤ s.img.now →
      (s.img.permits.side side).held = true → s.img.sidePending side = false → s.img.reg (tokenObj side) 3 = 1 →
      (s.img.permits.pair (relPair side)).reading = true → s.img.permits.zero.reading = true → s.img.permits.traction = false →
      s.img.reg 0x2305 side.code = 1 →
      ∃ t, exec .networkPermitTimeout s = .next t ∧ t.img.inp.sup.permitOut = true ∧
        .withdraw side 5 ∈ t.img.commit.decided)

/-- GATE_COMPARATOR_CHANGE, whichever lane runs: the comparator of the doorway reads closed at 14.0 V and above, open at
10.0 V and below, keeps its reading between; the other comparators and everything else stay. (R74) -/
def Obligations.GateComparatorThresholds : Prop :=
  ∀ (s : State) (d : Door) (v : Nat), ∃ t, exec (.gateComparatorChange d v) s = .next t ∧
    (140 ≤ v → t.img.permits.comparators.get d = true) ∧ (v ≤ 100 → t.img.permits.comparators.get d = false) ∧
    (100 < v → v < 140 → t.img.permits.comparators.get d = s.img.permits.comparators.get d) ∧
    (∀ e : Door, e ≠ d → t.img.permits.comparators.get e = s.img.permits.comparators.get e) ∧
    t = { s with img := { s.img with
      outs := [], permits := { s.img.permits with comparators := t.img.permits.comparators } } }

/-- LOOP_OPEN_COMMAND sets the open request of a side, and a side that has it commands its lane switch open;
LOOP_FAULT_RESET clears the side's fault; TRACTION_OPEN_LOOP_TIMEOUT raises EV37 once traction has been active with
a loop that does not conduct for longer than 0x2300:04. (R77, R78, R79, R88) -/
def Obligations.LoopCommandsAndTraction : Prop :=
  ∀ (s : State) (p : Path) (side : Side), s.running = true →
    (∀ on : Bool, s.takes p (loopObj side) 2 [b2n on] →
      ∃ t, exec (.loopOpenCommand p side on) s = .next t ∧ t.img.reg (loopObj side) 2 = b2n on ∧
        (on = true → t.img.loopCommand side = false) ∧ t.owes p (loopObj side) 2) ∧
    (s.takes p 0x230C 3 [match side with | .a => 1 | .b => 2] →
      ∃ t, exec (.loopFaultReset p side) s = .next t ∧ (t.img.permits.side side).fault = 0 ∧ t.img.reg 0x230C side.code = 0 ∧
        t.owes p 0x230C 3) ∧
    (∀ f : Nat, s.img.permits.tractionSince = some f → f + s.img.reg 0x2300 4 < s.img.now → s.img.permits.ev37 = false →
      ∃ t, exec .tractionOpenLoopTimeout s = .next t ∧ t.img.evActive 37 modScope = true ∧ t.img.permits.ev37 = true ∧
        t.img.reg 0x2312 1 = 1)

/-- A transaction of an enabled Mirror with a right parity bit drives its first word with the check code of that word,
whole from 44 edges on, and as many of its bits as the clock goes below that; every word but 0, 1 and 7 is as the
word register holds it. One with a wrong parity bit drives the inverted code of 0xFFFF_FFFF in the same way. The end
of select or 1 ms of it ends the transaction, counted as aborted where it comes before the last bit of the first
word has been taken. (R90, R91, R93, R94) -/
def Obligations.MirrorTransactions : Prop :=
  ∀ s : State,
    (∀ (w : Fin 16) (par : Bool) (edges start : Nat), s.powered = true → s.img.reg 0x230F 1 ≠ 0 → s.mirror.active = none →
      (mirrorParity w.val par = true → 5 ≤ edges →
        ∃ t words, exec (.mirrorTransaction w par edges start) s = .next t ∧ t.mirror.active = some (w, edges, words, start) ∧
          (if 44 ≤ edges then .mirror w.val (words.get w) (mirrorCrc w.val (words.get w)) ∈ t.img.outs
           else t.img.outs = [.mirrorPart w.val (edges - 4)
             ((words.get w * 256 + mirrorCrc w.val (words.get w)) / 2 ^ (44 - edges))]) ∧
          ∀ n : Fin 16, n.val ≠ 0 → n.val ≠ 1 → n.val ≠ 7 → words.get n % 2 ^ 32 = s.mirror.words.get n % 2 ^ 32) ∧
      (mirrorParity w.val par = false → 5 ≤ edges →
        ∃ t, exec (.mirrorTransaction w par edges start) s = .next t ∧
          t.img.outs = [if 44 ≤ edges then .mirror w.val 0xFFFFFFFF (255 - mirrorCrc w.val 0xFFFFFFFF)
            else .mirrorPart w.val (edges - 4)
              ((0xFFFFFFFF * 256 + (255 - mirrorCrc w.val 0xFFFFFFFF)) / 2 ^ (44 - edges))])) ∧
    (∀ (w : Fin 16) (edges start stop : Nat) (words : Vector Nat 16), s.mirror.active = some (w, edges, words, start) →
      (∃ t, exec (.mirrorSelectDeassert stop) s = .next t ∧ t.mirror.active = none ∧ t.mirror.last = some (w, stop) ∧
        t.img.reg 0x2310 4 = if edges < 45 then wrap (regBits 0x2310 4) (s.img.reg 0x2310 4 + 1) else s.img.reg 0x2310 4) ∧
      (start + 1000 ≤ stop →
        ∃ t, exec (.mirrorTransactionTimeout stop) s = .next t ∧ t.mirror.active = none ∧ t.mirror.last = some (w, stop) ∧
          t.img.reg 0x2310 4 = wrap (regBits 0x2310 4) (s.img.reg 0x2310 4 + 1)))

/-- AXIS_ENABLE ends the disabled state; AXIS_DISABLE of an axis that neither moves nor waits for records disables it
with outcome 1, of any other begins its drain; AXIS_DISABLE_FORCED disables at once with outcome 3 and EV49;
AXIS_CLEAR_OVERCURRENT clears the latch and restores the retries; AXIS_TARGET_WRITE stores the target,
LIVE_LIMIT_WRITE the live limit; each shows result 0. (R9, R11, R122, R132, R135, R136, R144) -/
def Obligations.AxisCommandsAndWrites : Prop :=
  ∀ (s : State) (a : Axis) (p : Path), s.running = true →
    (s.takes p (aBase a.val + 2) 1 [1] →
      ∃ t, exec (.axisEnable p a) s = .next t ∧ (t.img.axis a).disabled = false ∧ t.img.areg a 2 2 = 0 ∧ t.img.areg a 2 8 = 0) ∧
    (s.takes p (aBase a.val + 2) 1 [2] → (s.img.axis a).disabled = false → (s.img.axis a).drain = none →
      (s.img.axisMoving a = false → s.img.recordsPending (doorScope (axisDoor a)) = false →
        ∃ t, exec (.axisDisable p a) s = .next t ∧ (t.img.axis a).disabled = true ∧ t.img.areg a 2 2 = 0 ∧ t.img.areg a 2 8 = 1) ∧
      (s.img.axisMoving a = true ∨ s.img.recordsPending (doorScope (axisDoor a)) = true →
        ∃ t, exec (.axisDisable p a) s = .next t ∧ (t.img.axis a).disabled = false ∧ t.img.areg a 2 2 = 0 ∧
          (t.img.axis a).drain = some ⟨s.img.now, 0⟩)) ∧
    (s.takes p (aBase a.val + 2) 1 [3] →
      ∃ t, exec (.axisDisableForced p a) s = .next t ∧ (t.img.axis a).disabled = true ∧ t.img.areg a 2 2 = 0 ∧ t.img.areg a 2 8 = 3 ∧
        t.img.shown 49 (doorScope (axisDoor a)) = true) ∧
    (s.takes p (aBase a.val + 2) 1 [4] →
      ∃ t, exec (.axisClearOvercurrent p a) s = .next t ∧ (t.img.axis a).guard.latched = false ∧ t.img.areg a 2 2 = 0 ∧
        t.img.areg a 5 9 = wrap 8 (s.img.areg a 5 7)) ∧
    (∀ x : Int, -2 ^ 31 ≤ x → x < 2 ^ 31 → s.takes p (aBase a.val + 2) 3 (le 4 (encInt 32 x)) →
      ∃ t, exec (.axisTargetWrite p a x) s = .next t ∧ t.img.asreg a 2 3 = x ∧ t.img.areg a 2 2 = 0) ∧
    (∀ (l : LiveLimit) (v : Nat), v < 2 ^ 32 → s.takes p (aBase a.val + 1) (liveSub l) (le 4 v) →
      ∃ t, exec (.liveLimitWrite p a l v) s = .next t ∧ t.img.areg a 1 (liveSub l) = v)

/-- Of a used axis: AXIS_OVERCURRENT_TRIP counts in A+5:0D, shows EV51 and makes a retry due, or latches where none is
left; AXIS_RETRY_DUE uses one retry and begins to reacquire the rotor angle; AXIS_RETRY_RESTORE restores the retries
after 10 s of enabled operation without a trip; AXIS_THERMAL_LATCH of a hot bridge latches with EV52;
AXIS_THERMAL_CLEAR clears it after 5 s, and EV52 with the last of the doorway; OPEN_PHASE_DETECTED of an isolated
doorway's axis leaves its Contour untaught. (R5, R44, R131, R132, R133, R134, R151) -/
def Obligations.AxisProtectionRules : Prop :=
  ∀ (s : State) (a : Axis), s.running = true →
    (s.img.axisUsed a = true →
      (∃ t, exec (.axisOvercurrentTrip a) s = .next t ∧ t.img.shown 51 (doorScope (axisDoor a)) = true ∧
        (t.img.axis a).guard.clean = 0 ∧ t.img.areg a 5 0x0D = wrap (regBits (aBase a.val + 5) 0x0D) (s.img.areg a 5 0x0D + 1) ∧
        (min (s.img.areg a 5 9) (s.img.areg a 5 7) ≠ 0 → (t.img.axis a).guard.retryDue = some (s.img.now + s.img.areg a 5 8)) ∧
        (min (s.img.areg a 5 9) (s.img.areg a 5 7) = 0 → (t.img.axis a).guard.latched = true))) ∧
    (∀ f : Nat, (s.img.axis a).guard.retryDue = some f → f ≤ s.img.now → (s.img.axis a).guard.latched = false →
      (s.img.axis a).guard.thermal = false →
      ∃ t, exec (.axisRetryDue a) s = .next t ∧
        t.img.areg a 5 9 = wrap 8 (min (s.img.areg a 5 9) (s.img.areg a 5 7) - 1) ∧
        (t.img.axis a).guard.retryDue = none ∧ (t.img.axis a).guard.reacquire = some s.img.now) ∧
    (10000 ≤ (s.img.axis a).guard.clean →
      ∃ t, exec (.axisRetryRestore a) s = .next t ∧ t.img.areg a 5 9 = wrap 8 (s.img.areg a 5 7)) ∧
    (s.img.axisUsed a = true → (s.img.axis a).guard.thermal = false → 1500 < (s.img.axis a).plant.bridgeTemp →
      ∃ t, exec (.axisThermalLatch a) s = .next t ∧ (t.img.axis a).guard.thermal = true ∧
        t.img.evActive 52 (doorScope (axisDoor a)) = true) ∧
    ((s.img.axis a).guard.thermal = true → s.img.elapsed (s.img.axis a).guard.coolSince 5000 = true →
      ∃ t, exec (.axisThermalClear a) s = .next t ∧ (t.img.axis a).guard.thermal = false ∧
        ((∀ b : Axis, b ≠ a → axisDoor b = axisDoor a → (s.img.axis b).guard.thermal = false) →
          t.img.evActive 52 (doorScope (axisDoor a)) = false)) ∧
    (s.img.axisUsed a = true → (s.img.door (axisDoor a)).st = .isolated →
      ∃ t, exec (.openPhaseDetected a) s = .next t ∧ (t.img.axis a).openPhase = true ∧
        (t.img.axis a).opening.taught = false ∧ (t.img.axis a).closing.taught = false)

/-- OBSTACLE_CONFIRMED by the source of the lowest code that confirms, and ESTIMATE_INVALID_OBSTACLE, on a doorway
without an obstacle mark it with its source, frame and stitch, order an obstacle stop of every group that moves, and
outside Manual and a drain count it and show EV40 or EV41. OBSTACLE_STOP_END and OBSTACLE_STOP_TIMEOUT keep the
obstacle of a closing doorway for the reversal and begin the retry of an opening one; the time limit leaves no group
moving and puts a fast mover into coils shorted. STALL_CONFIRMED in the end zone references the axis there, in the
lock zone holds a closing leaf, elsewhere counts, shows EV44 and resynchronises where a stall is no obstacle source.
LOCK_ZONE_STALL_RELEASE lets the last held leaf’s move go on; RETARGET_STOP_COMPLETE plans the target that waits and
forgets it; EDGE_FAULT_CLEAR ends an edge's fault, and EV43 with the last edge. (R121, R126, R128, R148, R161, R163,
R165, R169, R170, R27) -/
def Obligations.ObstaclesAndStalls : Prop :=
  (∀ (s : State) (a : Axis), s.running = true → (s.img.door (axisDoor a)).leaves.obstacle = none →
    (s.img.door (axisDoor a)).step.obstacle = none →
    (∀ src : ObstacleSource, src ≠ .stall → s.img.axisUsed a = true → s.img.obstacleBy a src = true →
      s.img.lowestSource a src = (a, src) →
      ∃ t, exec (.obstacleConfirmed a src) s = .next t ∧
        (t.img.axisGen a).obstacle = some (sourceCode src, s.img.now, if src = .curtain then 15 else s.img.clk.stitch) ∧
        (t.img.axisGen a).reactionDue = true ∧
        (∀ g : Group, (s.img.gen (axisDoor a) g).move.isSome = true →
          (if src = .curtain then some s.img.now else none, Order.obstacle (s.img.dreg (axisDoor a) 5 7) (!s.img.obstacleClosing a))
            ∈ (t.img.gen (axisDoor a) g).orders) ∧
        ((s.img.door (axisDoor a)).st ≠ .manual → (s.img.door (axisDoor a)).drain = none →
          t.img.shown (if s.img.obstacleClosing a then 40 else 41) (doorScope (axisDoor a)) = true ∧
          t.img.dreg (axisDoor a) 0x0E (if s.img.obstacleClosing a then 8 else 9) =
            wrap (regBits (bBase (axisDoor a).val + 0x0E) 8) (s.img.dreg (axisDoor a) 0x0E (if s.img.obstacleClosing a then 8 else 9) + 1))) ∧
    (s.img.compareState a = 4 → 32 < (s.img.axis a).force.invalidRun →
      ∃ t, exec (.estimateInvalidObstacle a) s = .next t ∧ (t.img.axisGen a).obstacle = some (1, s.img.now, s.img.clk.stitch) ∧
        (t.img.axisGen a).reactionDue = true ∧
        (∀ g : Group, (s.img.gen (axisDoor a) g).move.isSome = true →
          (none, Order.obstacle (s.img.dreg (axisDoor a) 5 7) (!s.img.obstacleClosing a)) ∈ (t.img.gen (axisDoor a) g).orders) ∧
        t.img.areg a 4 0x0E = wrap (regBits (aBase a.val + 4) 0x0E) (s.img.areg a 4 0x0E + 1))) ∧
  (∀ (s : State) (d : Door), s.running = true → (s.img.door d).homing = false → (s.img.door d).drain = none →
    ((s.img.door d).st = .closing → (s.img.door d).leaves.obstacleSince (s.img.door d).since = true →
      (s.img.obstacleStopOver d .leaves = true →
        ∃ t, exec (.obstacleStopEnd d .leaves) s = .next t ∧ (t.img.door d).leaves.stopEnded = true ∧
          (t.img.door d).leaves.obstacle = (s.img.door d).leaves.obstacle ∧ (t.img.door d).st = .closing) ∧
      (s.img.obstacleStopLate d .leaves = true →
        ∃ t, exec (.obstacleStopTimeout d .leaves) s = .next t ∧ (t.img.door d).leaves.stopEnded = true ∧
          (t.img.door d).leaves.obstacle = (s.img.door d).leaves.obstacle ∧ (t.img.door d).st = .closing ∧
          (t.img.door d).leaves.move = none ∧ (t.img.door d).step.move = none ∧
          ∀ k : Fin 3, 2000 ≤ (s.img.axis (axisOf d k)).plant.vel.natAbs → (t.img.axis (axisOf d k)).shorted = true)) ∧
    ((s.img.door d).st = .opening →
      (s.img.obstacleStopOver d .leaves = true →
        ∃ t, exec (.obstacleStopEnd d .leaves) s = .next t ∧ (t.img.door d).st = .opening ∧ (t.img.door d).again = some .leaves ∧
          (t.img.door d).giveUp = decide (s.img.dreg d 4 5 ≤ (s.img.door d).retries) ∧
          (t.img.door d).retries = min (s.img.dreg d 4 5) ((s.img.door d).retries + 1) ∧
          (t.img.door d).leaves.reactionDue = false) ∧
      (s.img.obstacleStopLate d .leaves = true →
        ∃ t, exec (.obstacleStopTimeout d .leaves) s = .next t ∧ (t.img.door d).st = .opening ∧
          (t.img.door d).again = some .leaves ∧ (t.img.door d).leaves.move = none ∧ (t.img.door d).leaves.reactionDue = false))) ∧
  (∀ (s : State) (a : Axis) (m : Move), s.running = true → s.img.stallReached a = true → s.img.axisMove a = some m →
    m.kind = .stroke →
    (s.img.inEndZone a m.toOpen = true → ((s.img.door (axisDoor a)).homing = false ∨ m.kind.isStop = false) →
      ∃ t, exec (.stallConfirmed a) s = .next t ∧ (t.img.axis a).referenced = true ∧ (t.img.axis a).atEnd = some m.toOpen ∧
        (t.img.axis a).plant.pos = (if m.toOpen then (s.img.areg a 6 1 : Int) else 0)) ∧
    (s.img.inEndZone a m.toOpen = false → (s.img.obstacleGroup (axisDoor a)) = none →
      (m.toOpen = false → s.img.inLockZone a = true →
        ∃ t, exec (.stallConfirmed a) s = .next t ∧ (t.img.axis a).zoneHold = true ∧
          t.img.areg a 3 9 = wrap (regBits (aBase a.val + 3) 9) (s.img.areg a 3 9 + 1)) ∧
      (m.toOpen = true ∨ s.img.inLockZone a = false →
        (∃ t, exec (.stallConfirmed a) s = .next t ∧ t.img.shown 44 (doorScope (axisDoor a)) = true ∧
          t.img.areg a 3 9 = wrap (regBits (aBase a.val + 3) 9) (s.img.areg a 3 9 + 1)) ∧
        (bitOf (s.img.dreg (axisDoor a) 5 1) 4 = false →
          ∃ t, exec (.stallConfirmed a) s = .next t ∧ (t.img.axis a).sp = 256 * (s.img.axis a).plant.pos)))) ∧
  (∀ (s : State) (a : Axis), s.running = true → (s.img.axis a).zoneHold = true →
    2 * (s.img.axis a).plant.angle.natAbs < s.img.stallLimit a →
    (∃ t, exec (.lockZoneStallRelease a) s = .next t ∧ (t.img.axis a).zoneHold = false) ∧
    (∀ h : Held, (s.img.leadGen a).held = some h → h.cause = .stall → s.img.belt.level < 3 →
      (∀ k : Fin 3, axisOf (axisDoor a) k ≠ a → (s.img.axis (axisOf (axisDoor a) k)).zoneHold = false) →
      ∃ t, exec (.lockZoneStallRelease a) s = .next t ∧ (t.img.leadGen a).held = none ∧
        ((s.img.leadGen a).pos ≠ 256 * h.aim.target → (t.img.leadGen a).move =
          some (planMove (s.img.leadTerms a).plan (s.img.leadTerms a).referenced h.aim.kind (s.img.leadGen a).pos h.aim.target h.aim.durMs)))) ∧
  (∀ (s : State) (d : Door) (g : Group) (x : Aim), s.running = true → (s.img.gen d g).pending = some x →
    (s.img.gen d g).atRest = true → s.img.belt.level < 3 → s.img.heldUp d = false →
    ∃ t, exec (.retargetStopComplete d g) s = .next t ∧ (t.img.gen d g).pending = none ∧
      (t.img.gen d g).strokeUsed = 0 ∧ (t.img.gen d g).strokeLimit = x.bound ∧
      (t.img.gen d g).move = (if (s.img.gen d g).pos = 256 * x.target then none
        else some (planMove (s.img.groupTerms d g).plan (s.img.groupReferenced d g) x.kind (s.img.gen d g).pos x.target x.durMs))) ∧
  (∀ (s : State) (d : Door) (e : Edge), s.running = true → ((s.img.door d).edge e).fault = true →
    ((s.img.door d).edge e).reading = 0 → ((s.img.door d).edge e).normalSince + 1000 ≤ s.img.now →
    ∃ t, exec (.edgeFaultClear d e) s = .next t ∧ ((t.img.door d).edge e).fault = false ∧
      ((∀ x : Edge, x ≠ e → ((s.img.door d).edge x).fault = false) → t.img.evActive 43 (doorScope d) = false))

/-- INPUT_LOSS_DECLARED below 40 V after the ride-through time, or with the link below 360 V, marks the loss and raises
EV01. POWER_LOSS_COMMIT, once one of its causes holds, saves the operating time and stops both lanes: no grant, the
hold cells in their safe states, the loops open, the train outputs off. INPUT_RETURN before the commit ends the
loss; after it both lanes start anew. (R222, R230, R236, R237, R304) -/
def Obligations.InputLossAndItsReturn : Prop :=
  ∀ s : State,
    (s.running = true → s.img.belt.lostAt = none → s.img.belt.vin < 400 →
      (s.img.elapsed s.img.belt.absentSince (s.img.reg 0x2106 7) = true ∨ s.img.belt.link < 3600) →
      ∃ t, exec .inputLossDeclared s = .next t ∧ t.img.belt.lostAt = some s.img.now ∧ t.img.belt.lossVin = s.img.belt.vin ∧
        t.img.evActive 1 modScope = true) ∧
    (s.running = true → s.img.lossCommitCause ≠ 0 →
      ∃ t, exec .powerLossCommit s = .next t ∧ t.lanes.a.st = .off ∧ t.lanes.b.st = .off ∧ t.buckle.railP = 0 ∧
        t.buckle.railQ = 0 ∧ t.hold.st = 2 ∧ t.sealed = [] ∧ t.img.clk.opSaved = s.img.op ∧ t.img.belt.commitDone = true ∧
        (∀ n : Fin 4, (t.img.tos.get n).on = false) ∧
        ∀ k : Side, (t.img.permits.side k).laneClosed = false) ∧
    (∀ vin : Nat, s.running = true → s.img.belt.commitDone = false → s.img.belt.lostAt.isSome = true →
      ∃ t, exec (.inputReturn vin) s = .next t ∧ t.img.belt.lostAt = none ∧ t.img.belt.vin = vin ∧
        t.img.evActive 1 modScope = false) ∧
    (∀ vin : Nat, s.powered = true → s.activeLane = none → s.img.belt.commitDone = true →
      ∃ t, exec (.inputReturn vin) s = .next t ∧ t.powered = true ∧ t.lanes.a.st = .starting ∧ t.lanes.b.st = .starting ∧
        t.lanes.a.kind = 1 ∧ t.lanes.b.kind = 1 ∧ t.tick = 0)

/-- HOLDUP_MEASUREMENT shows the joules and raises EV03 below 450 J, clears it from 450 J; MOTOR_BUS_FAULT stops the
converter with its cause and latches EV02; CLEAR_MODULE_LATCHES releases EV02 and restarts it; CELL_MEASUREMENT
shows the cell and raises EV05 below 2,600 mV; CLEAR_SEAL_LATCH clears the latch that ENCLOSURE_COVER_OPENED sets
whichever lane runs, as BACKUP_DOMAIN_SUPPLY_FAIL sets the backup flag; OPERATING_TIME_SAVE saves the operating time
and changes nothing else. (R198, R215, R217, R234, R581, R609) -/
def Obligations.SupplyMeasurementsAndFaults : Prop :=
  ∀ s : State,
    (∀ j : Nat, s.running = true →
      ∃ t, exec (.holdupMeasurement j) s = .next t ∧ t.img.reg 0x210A 1 = wrap 16 j ∧
        t.img.evActive 3 modScope = decide (j < 450)) ∧
    (∀ excess : Bool, s.running = true → s.img.belt.converter = true →
      (if excess then decide (2 ≤ s.img.belt.busHigh) else s.img.elapsed s.img.belt.busLowSince 100) = true →
      ∃ t, exec (.motorBusFault excess) s = .next t ∧ t.img.belt.converter = false ∧
        t.img.belt.busFault = (if excess then 1 else 2) ∧ t.img.isLatched 2 modScope = true) ∧
    (∀ p : Path, s.takes p 0x2503 1 [1] → s.img.isLatched 2 modScope = true → s.img.evActive 2 modScope = false →
      ∃ t, exec (.clearModuleLatches p) s = .next t ∧ t.img.isLatched 2 modScope = false ∧ t.img.belt.converter = true ∧
        t.img.belt.busFault = 0 ∧ t.owes p 0x2503 1) ∧
    (∀ mv : Nat, s.running = true →
      ∃ t, exec (.cellMeasurement mv) s = .next t ∧ t.img.reg 0x210D 1 = wrap 16 mv ∧ t.img.belt.cellMv = mv ∧
        t.img.evActive 5 modScope = decide (mv < 2600)) ∧
    (∀ p : Path, s.takes p 0x210D 5 [1] →
      ∃ t, exec (.clearSealLatch p) s = .next t ∧ t.img.belt.sealLatch = false ∧ t.owes p 0x210D 5) ∧
    (s.running = true → s.img.clk.opSaved + 100 ≤ s.img.op →
      ∃ t, exec .operatingTimeSave s = .next t ∧ s.imageOnly t ∧
        t.img = { s.img with outs := [], clk := { s.img.clk with opSaved := s.img.op } }) ∧
    (exec .backupDomainSupplyFail s = .next { s with img := { s.img with outs := [], clk := { s.img.clk with backup := true } } }) ∧
    (exec .enclosureCoverOpened s = .next { s with img := { s.img with outs := [], belt := { s.img.belt with sealLatch := true } } })

/-- REST_DELAY_EXPIRY enters Rest mode where TI11 has been false for 0x210C:02 and every condition of R232 holds;
REST_ENTER_COMMAND enters it; the converter is off and 0x210C:03 reads 1. REST_LEAVE_COMMAND and REST_WAKE leave it
and start the wake-up, REST_BUS_READY ends the wake-up. BELT_CONDITION_CONFIRMED confirms a condition that has held
for 0x2105:07 stitches in a row, and a sag that enters level 1 raises EV00; BELT_STEP_DOWN after the exit hysteresis
decides the next lower level; neither changes the level in force, which the next frame boundary sets. (R232, R233,
R219, R221, R223) -/
def Obligations.RestAndBeltRules : Prop :=
  (∀ s : State,
    (s.running = true → s.img.belt.rest = false → s.img.reg 0x210C 2 ≠ 0 →
      s.img.elapsed s.img.belt.restSince (1000 * s.img.reg 0x210C 2) = true → s.img.mayRest = true → s.img.restInhibit = false →
      ∃ t, exec .restDelayExpiry s = .next t ∧ t.img.belt.rest = true ∧ t.img.belt.converter = false ∧ t.img.reg 0x210C 3 = 1) ∧
    (∀ p : Path, s.takes p 0x210C 1 [1] →
      ∃ t, exec (.restEnterCommand p) s = .next t ∧ t.img.belt.rest = true ∧ t.img.belt.converter = false ∧
        t.img.reg 0x210C 3 = 1 ∧ t.owes p 0x210C 1) ∧
    (∀ p : Path, s.takes p 0x210C 1 [2] → s.img.belt.rest = true →
      ∃ t, exec (.restLeaveCommand p) s = .next t ∧ t.img.belt.rest = false ∧ t.img.belt.restWaking = some s.img.now ∧
        t.img.reg 0x210C 3 = 0 ∧ t.owes p 0x210C 1) ∧
    (s.running = true → s.img.belt.rest = true → s.img.restMustEnd = true →
      ∃ t, exec .restWake s = .next t ∧ t.img.belt.rest = false ∧ t.img.belt.restWaking = some s.img.now ∧ t.img.reg 0x210C 3 = 0) ∧
    (s.running = true → ∃ t, exec .restBusReady s = .next t ∧ t.img.belt.restWaking = none ∧ t.img.belt.rest = s.img.belt.rest)) ∧
  (∀ s : State, s.running = true →
    (∀ c : BeltCond, s.img.reg 0x2105 7 ≤ (s.img.belt.conds.get c.idx).run →
      ∃ t, exec (.beltConditionConfirmed c) s = .next t ∧ (t.img.belt.conds.get c.idx).confirmed = true ∧
        t.img.belt.level = s.img.belt.level ∧
        (c = .sag → s.img.belt.level = 0 → s.img.belt.next = 0 → t.img.evActive 0 modScope = true)) ∧
    (s.img.belt.next = s.img.belt.level → 0 < s.img.belt.level →
      s.img.elapsed s.img.belt.clearSince (s.img.reg 0x2105 6) = true →
      ∃ t, exec .beltStepDown s = .next t ∧ t.img.belt.next = s.img.belt.level - 1 ∧ t.img.belt.level = s.img.belt.level ∧
        t.img.belt.clearSince = some s.img.now))

/-- CHANNEL_COMMAND_WRITE shows its value and result 0; CHANNEL_ENABLE ends the disabled state with the retries at their
limit; CHANNEL_DISABLE begins the drain and drops a pending retry; CHANNEL_DISABLE_FORCED disables at once, without
its drain and its retry and with EV49, and leaves its switch to the next frame boundary; CHANNEL_CLEAR_OVERCURRENT
clears the latch and restores the retries. Each shows result 0 and leaves every other channel, register and part of
the module as it was. (R9, R10, R11, R252, R262, R265) -/
def Obligations.ChannelCommands : Prop :=
  ∀ (s : State) (c : Chan) (p : Path),
    (∀ v : Nat, v < 256 → s.takes p (cBase c.val + 1) 1 [v] →
      ∃ t, exec (.channelCommandWrite p c v) s = .next t ∧ t.img.creg c 1 1 = v ∧ t.img.creg c 1 3 = 0 ∧
        t.owes p (cBase c.val + 1) 1 ∧ s.imageOnly t ∧ t.img.apartChan c = s.img.apartChan c) ∧
    (s.takes p (cBase c.val + 1) 2 [1] →
      ∃ t, exec (.channelEnable p c) s = .next t ∧ (t.img.chan c).disabled = false ∧ t.img.creg c 1 3 = 0 ∧
        t.img.creg c 1 7 = wrap 8 (s.img.creg c 0 9) ∧ s.imageOnly t ∧ t.img.apartChan c = s.img.apartChan c) ∧
    (s.takes p (cBase c.val + 1) 2 [2] → (s.img.chan c).disabled = false → (s.img.chan c).drain = none →
      ∃ t, exec (.channelDisable p c) s = .next t ∧ (t.img.chan c).drain = some s.img.now ∧ (t.img.chan c).retryDue = none ∧
        t.img.creg c 1 3 = 0 ∧ s.imageOnly t ∧ t.img.apartChan c = s.img.apartChan c) ∧
    (s.takes p (cBase c.val + 1) 2 [3] →
      ∃ t, exec (.channelDisableForced p c) s = .next t ∧ (t.img.chan c).disabled = true ∧ (t.img.chan c).drain = none ∧
        (t.img.chan c).retryDue = none ∧ (t.img.chan c).out = (s.img.chan c).out ∧ t.img.creg c 1 3 = 0 ∧
        t.img.shown 49 (doorScope (chanDoor c)) = true ∧ s.imageOnly t ∧ t.img.apartChan c = s.img.apartChan c) ∧
    (s.takes p (cBase c.val + 1) 2 [4] →
      ∃ t, exec (.channelClearOvercurrent p c) s = .next t ∧ (t.img.chan c).ocLatched = false ∧ (t.img.chan c).retryDue = none ∧
        t.img.creg c 1 3 = 0 ∧ t.img.creg c 1 7 = wrap 8 (s.img.creg c 0 9) ∧ s.imageOnly t ∧
        t.img.apartChan c = s.img.apartChan c)

/-- CHANNEL_OVERCURRENT_TRIP and CHANNEL_SHORT_CIRCUIT_TRIP switch a conducting channel off whichever lane runs; while
one runs they make a retry due, or latch where none is left, and on a fitted doorway show EV55. CHANNEL_RETRY_DUE
switches on and uses one retry; CHANNEL_RETRY_RESTORE restores them after 10 s; CHANNEL_LATCH_OFF_CLEAR clears the
latch after 1 s commanded off. (R246, R247, R249, R250, R252, R267) -/
def Obligations.ChannelTripsAndRetries : Prop :=
  ∀ (s : State) (c : Chan),
    (∀ short : Bool, (s.img.chan c).out = true →
      ∃ t, exec (if short then .channelShortCircuitTrip c else .channelOvercurrentTrip c) s = .next t ∧
        (t.img.chan c).out = false ∧ (t.img.chan c).oc = true ∧ (t.img.chan c).short = short ∧
        (s.running = false → (t.img.chan c).unseen = true) ∧
        (s.running = true →
          (s.img.fitted (chanDoor c) = true → t.img.shown 55 (doorScope (chanDoor c)) = true) ∧
          (if s.img.creg c 1 7 = 0 then (t.img.chan c).ocLatched = true
           else (t.img.chan c).retryDue = some (s.img.now + s.img.creg c 0 0x0A)))) ∧
    (∀ f : Nat, s.running = true → (s.img.chan c).retryDue = some f → f ≤ s.img.now → s.img.chanTold c = true →
      s.img.mayConduct c = true → 0 < s.img.creg c 1 7 →
      ∃ t, exec (.channelRetryDue c) s = .next t ∧ (t.img.chan c).out = true ∧ (t.img.chan c).retryDue = none ∧
        t.img.creg c 1 7 = wrap 8 (s.img.creg c 1 7 - 1) ∧ (t.img.chan c).inrushEnd = s.img.now + s.img.creg c 0 4) ∧
    (s.running = true → (s.img.chan c).out = true → (s.img.chan c).onSince + 10000 ≤ s.img.now →
      (s.img.chan c).lastTrip + 10000 ≤ s.img.now →
      ∃ t, exec (.channelRetryRestore c) s = .next t ∧ t.img.creg c 1 7 = wrap 8 (s.img.creg c 0 9)) ∧
    (s.running = true → (s.img.chan c).ocLatched = true → (s.img.chan c).cmd = false →
      (s.img.chan c).cmdOffSince + 1000 ≤ s.img.now →
      ∃ t, exec (.channelLatchOffClear c) s = .next t ∧ (t.img.chan c).ocLatched = false ∧
        t.img.creg c 1 7 = wrap 8 (s.img.creg c 0 9))

/-- CHANNEL_THERMAL_LATCH above the temperature-rise limit or 175 °C switches the channel off and latches whichever lane
runs, with EV56 of a fitted doorway while one runs; CHANNEL_THERMAL_CLEAR clears the latch after 1 s, and without a
lane at once; OPEN_LOAD_DETECTED raises EV57 of a fitted doorway after the delay, OPEN_LOAD_CLEARED ends the flag
after the delay, and EV57 with the last of the bank. (R248, R249, R251, R258) -/
def Obligations.ChannelThermalAndOpenLoad : Prop :=
  ∀ (s : State) (c : Chan),
    (∀ (dt tj : Int), (s.img.chan c).thDT = false → (s.img.chan c).thTJ = false →
      (10 * (s.img.creg c 0 5 : Int) < dt ∨ 1750 < tj) →
      ∃ t, exec (.channelThermalLatch c dt tj) s = .next t ∧ (t.img.chan c).out = false ∧
        (t.img.chan c).thDT = decide (10 * (s.img.creg c 0 5 : Int) < dt) ∧ (t.img.chan c).thTJ = decide (1750 < tj) ∧
        (t.img.chan c).junction = tj ∧
        (s.running = true → s.img.fitted (chanDoor c) = true → t.img.evActive 56 (doorScope (chanDoor c)) = true)) ∧
    (((s.img.chan c).thDT = true ∨ (s.img.chan c).thTJ = true) →
      (s.running = false ∨ s.img.elapsed (s.img.chan c).coolSince 1000 = true) →
      ∃ t, exec (.channelThermalClear c) s = .next t ∧ (t.img.chan c).thDT = false ∧ (t.img.chan c).thTJ = false) ∧
    (s.running = true → (s.img.chan c).out = true → (s.img.chan c).openLoad = false → s.img.creg c 0 8 ≤ (s.img.chan c).openRun →
      0 < (s.img.chan c).openRun →
      ∃ t, exec (.openLoadDetected c) s = .next t ∧ (t.img.chan c).openLoad = true ∧
        (s.img.fitted (chanDoor c) = true → t.img.evActive 57 (doorScope (chanDoor c)) = true)) ∧
    (s.running = true → (s.img.chan c).openLoad = true → s.img.creg c 0 8 ≤ (s.img.chan c).openClear → 0 < (s.img.chan c).openClear →
      ∃ t, exec (.openLoadCleared c) s = .next t ∧ (t.img.chan c).openLoad = false ∧
        ((∀ n : Fin 16, chanOf (chanDoor c) n ≠ c → (s.img.chan (chanOf (chanDoor c) n)).openLoad = false) →
          t.img.evActive 57 (doorScope (chanDoor c)) = false))

/-- BANK_SUPPLY_LOST below 18 V switches the channels of the bank off, BANK_SUPPLY_RETURN from 18 V on marks it present;
BANK_SUPPLY_FAULT raises EV58 with its cause once it has held, BANK_FAULT_CLEARED clears it 1 s after;
TRAIN_OUTPUT_THERMAL_SHUTDOWN switches the output off and TRAIN_OUTPUT_THERMAL_RESTART ends it, whichever lane runs
and without an event. (R244, R270, R606) -/
def Obligations.BanksAndTrainOutputs : Prop :=
  ∀ (s : State) (d : Door),
    (∀ v : Nat, s.running = true → v < 180 → (s.img.door d).bankPresent = true →
      ∃ t, exec (.bankSupplyLost d v) s = .next t ∧ (t.img.door d).bankPresent = false ∧ t.img.dreg d 0x11 4 = 0 ∧
        t.img.dreg d 0x16 6 = v ∧ ∀ n : Fin 16, (t.img.chan (chanOf d n)).out = false) ∧
    (∀ v : Nat, s.running = true → 180 ≤ v → v < 65536 →
      ∃ t, exec (.bankSupplyReturn d v) s = .next t ∧ (t.img.door d).bankPresent = true ∧ t.img.dreg d 0x11 4 = 1 ∧
        t.img.dreg d 0x16 6 = v) ∧
    (∀ cause : Fin 3, s.running = true → s.img.fitted d = true → (s.img.door d).st ≠ .isolated → (s.img.door d).bankFault = 0 →
      (cause = 0 → 10 ≤ (s.img.door d).bankLow) → (cause = 1 → 10 ≤ (s.img.door d).bankHigh) →
      (cause = 2 → 1000 ≤ (s.img.door d).bankOver) →
      ∃ t, exec (.bankSupplyFault d cause) s = .next t ∧ (t.img.door d).bankFault = cause.val + 1 ∧
        t.img.dreg d 0x16 8 = cause.val + 1 ∧ t.img.evActive 58 (doorScope d) = true) ∧
    (s.running = true → (s.img.door d).bankFault ≠ 0 → s.img.elapsed (s.img.door d).bankAbsent 1000 = true →
      ∃ t, exec (.bankFaultCleared d) s = .next t ∧ (t.img.door d).bankFault = 0 ∧ t.img.dreg d 0x16 8 = 0 ∧
        t.img.evActive 58 (doorScope d) = false) ∧
    (∀ n : Fin 4, ∃ t, exec (.trainOutputThermalShutdown n) s = .next t ∧ (t.img.tos.get n).on = false ∧
      (t.img.tos.get n).hot = true ∧ t.img.ev = s.img.ev ∧ ∀ m : Fin 4, m ≠ n → t.img.tos.get m = s.img.tos.get m) ∧
    (∀ n : Fin 4, ∃ t, exec (.trainOutputThermalRestart n) s = .next t ∧ (t.img.tos.get n).hot = false ∧
      (t.img.tos.get n).on = (s.img.tos.get n).on ∧ t.img.ev = s.img.ev)

/-- INPUT_FILTER_CHANGE takes the raw state once it has differed for the debounce time; INPUT_RANGE_FAULT of a train
input that has exceeded its range for 16 samples is a fault of cause 1, reversed for as many of cause 2;
RECEIVER_FRESHNESS_TIMEOUT after 8 stitches puts every train input without a fault in fault of cause 4;
PLAUSIBILITY_FAULT puts the inputs its check names in fault of cause 6; EXPECTATION_TIMEOUT puts the input in fault
of cause 7; INPUT_FAULT_CLEAR ends a fault whose cause has been absent for 1 s, one of cause 7 at once. (R277, R278,
R280, R281, R284, R285, R287) -/
def Obligations.InputFiltersAndFaults : Prop :=
  ∀ s : State, s.running = true →
    (∀ i : InputId, 0 < (s.img.input i).run → s.img.debounce i ≤ (s.img.input i).run →
      ∃ t, exec (.inputFilterChange i) s = .next t ∧ (t.img.input i).filt = (s.img.input i).raw ∧ (t.img.input i).run = 0 ∧
        (t.img.input i).img = (s.img.input i).img) ∧
    (∀ n : Fin 16, (s.img.input (.ti n)).fault = 0 →
      (16 ≤ (s.img.input (.ti n)).excess →
        ∃ t, exec (.inputRangeFault (.input (.ti n)) .overRange) s = .next t ∧ (t.img.input (.ti n)).fault = 1 ∧
          t.img.evActive 59 modScope = true) ∧
      (16 ≤ (s.img.input (.ti n)).rev →
        ∃ t, exec (.inputRangeFault (.input (.ti n)) .reverse) s = .next t ∧ (t.img.input (.ti n)).fault = 2 ∧
          t.img.evActive 59 modScope = true)) ∧
    (8 ≤ s.img.inp.stale.get RxGroup.train.idx →
      ∃ t, exec (.receiverFreshnessTimeout .train) s = .next t ∧ t.img.evActive 60 modScope = true ∧
        ∀ n : Fin 16, (t.img.input (.ti n)).fault = (if (s.img.input (.ti n)).fault = 0 then 4 else (s.img.input (.ti n)).fault)) ∧
    (∀ (d : Door) (n : Fin 12), s.img.checksRun d = true → s.img.role d n = 9 → ((s.img.door d).dis.get n).fault = 0 →
      s.img.elapsed (s.img.checkTimer d .p3) (s.img.checkTime d .p3) = true →
      ∃ t, exec (.plausibilityFault d .p3) s = .next t ∧ ((t.img.door d).dis.get n).fault = 6 ∧
        t.img.isLatched 59 (doorScope d) = true) ∧
    (∀ (d : Door) (n : Fin 12), s.img.role d n ≠ 0 → s.img.fitted d = true → (s.img.door d).st ≠ .isolated →
      s.img.elapsed ((s.img.door d).dis.get n).expect (s.img.expectTime d ((s.img.door d).dis.get n).want) = true →
      ((s.img.door d).dis.get n).img ≠ ((s.img.door d).dis.get n).want →
      ∃ t, exec (.expectationTimeout d n) s = .next t ∧ ((t.img.door d).dis.get n).fault = 7 ∧
        ((t.img.door d).dis.get n).expect = none ∧ t.img.isLatched 60 (doorScope d) = true) ∧
    (∀ i : InputId, (s.img.input i).fault ≠ 0 → s.img.causePresent i = false →
      ((s.img.input i).fault = 7 ∨ s.img.elapsed (s.img.input i).absentSince 1000 = true) →
      ∃ t, exec (.inputFaultClear (.input i)) s = .next t ∧ (t.img.input i).fault = 0 ∧ (t.img.input i).run = 0)

/-- COMMAND_SOURCE_TIMEOUT of an RPDO or the TRDP telegram that has been silent for its time marks the source out and
raises EV31 or EV33, counted where it was not active; the train output command falls to 0 with the telegram.
TI_FUNCTION_AUTO_CLOSE_SUSPEND holds the dwells while, and only while, an input of function 3 reads true. (R293,
R294, R295) -/
def Obligations.SourcesAndSuspension : Prop :=
  ∀ s : State, s.running = true →
    (∀ n : Fin 32, s.img.rpdoSource n = true → bitOf s.img.inp.sup.rpdoOut n.val = false →
      (s.img.inp.sup.rpdo.get n).getD s.img.inp.sup.since + s.img.reg 0x2405 1 ≤ s.img.now →
      ∃ t, exec (.commandSourceTimeout (.rpdo n)) s = .next t ∧ bitOf t.img.inp.sup.rpdoOut n.val = true ∧
        t.img.evActive 31 modScope = true ∧
        (s.img.evActive 31 modScope = false →
          t.img.reg 0x2405 5 = wrap (regBits 0x2405 5) (s.img.reg 0x2405 5 + 1))) ∧
    (s.img.trdpSource = true → s.img.inp.sup.trdpOut = false →
      s.img.inp.sup.trdp.getD s.img.inp.sup.since + s.img.reg 0x2405 2 ≤ s.img.now →
      ∃ t, exec (.commandSourceTimeout .trdp) s = .next t ∧ t.img.inp.sup.trdpOut = true ∧ t.img.evActive 33 modScope = true ∧
        t.img.reg 0x2405 4 = 1 ∧ t.img.reg 0x230E 2 = 0 ∧
        (s.img.evActive 33 modScope = false →
          t.img.reg 0x2405 6 = wrap (regBits 0x2405 6) (s.img.reg 0x2405 6 + 1))) ∧
    (∀ (n : Fin 5) (on : Bool), ∃ t, exec (.tiFunctionAutoCloseSuspend n on) s = .next t ∧
      (t.img.inp.suspend = true ↔
        ∃ k : Fin 5, s.img.tiFunction k = 3 ∧ (s.img.trainInput (functionInput n) on).ti (functionInput k) = true))

/-- STITCH of a powered module counts one stitch, samples the strobes at the Buckle, ages the hold window, and while a
lane runs takes the stitch number on; of an unpowered one it does nothing. FRAME_WORK while a lane runs begins the
next frame, also where nothing has been written; without a lane it changes nothing but what a standby shadows.
SURVEY, where one is due, shows the equations that are breached in 0x2600:03 and is done; a first breach latches
EV18 and freezes the snapshot. (R6, R108, R184, R186, R305, R328, R434, R435) -/
def Obligations.StitchFrameAndSurvey : Prop :=
  (∀ s : State,
    (∀ x : StitchSample, s.powered = true →
      ∃ t, exec (.stitch x) s = .next t ∧ t.tick = s.tick + 1 ∧ t.buckle.strobe = ⟨s.lanes.a.strobes, s.lanes.b.strobes⟩ ∧
        t.buckle.before = s.buckle.strobe ∧ t.buckle.window = s.buckle.window.map (· + 1) ∧
        (s.running = true → t.img.clk.stitch =
          (if s.img.clk.boundary then s.img.clk.stitch else if s.img.clk.stitch < 15 then s.img.clk.stitch + 1 else 0))) ∧
    (∀ x : StitchSample, s.powered = false → exec (.stitch x) s = .next { s with img := { s.img with outs := [] } }) ∧
    (∀ x : FrameSample, s.running = true → s.rerun = false → s.img.due = [] →
      ∃ t, exec (.frameWork x) s = .next t ∧ t.img.now = wrap 64 (s.img.now + 1)) ∧
    (∀ x : FrameSample, s.activeLane = none → s.lining = false →
      ∃ t, exec (.frameWork x) s = .next t ∧ s.imageOnly t ∧ t.img = { s.img with outs := [] })) ∧
  (∀ s : State, s.running = true → s.img.commit.survey = true →
    ∃ t, exec .survey s = .next t ∧ t.img.commit.survey = false ∧
      t.img.reg 0x2600 3 = wrap (regBits 0x2600 3) (breachedEquations (s.img.ledger s.flying)) ∧
      (breachedEquations (s.img.ledger s.flying) ≠ 0 → s.img.reg 0x2608 1 = 0 →
        t.img.isLatched 18 modScope = true ∧ t.img.reg 0x2608 1 = 1))

/-- Of an operational lane: FRAME_OVERRUN shows EV06, counts its deadline and notes the frame, and the second frame in a
row is a lane fault; SLICE_WATCHDOG, LOCKSTEP_MISMATCH and UNCORRECTABLE_MEMORY_ERROR fault the lane and keep event,
checker, unit and group in its fault latch, and it asks for no grant; INJECTION_DUE that passes sets the next one
600 s on, one whose raw comparison is missing is a fault of event 14, one that leaves a residual mismatch a fault of
event 13. (R185, R190, R191, R355, R357, R358, R362) -/
def Obligations.LaneFaultRules : Prop :=
  ∀ (s : State) (l : Lane), s.powered = true → (s.lanes.get l).st = .operational → (s.lanes.get l).faulted = false →
    (∀ w : Deadline,
      ∃ t, exec (.frameOverrun l w) s = .next t ∧ t.img.shown 6 modScope = true ∧
        (t.lanes.get l).overran = some (s.img.now, w == .second) ∧
        (∀ b : Bool, ∀ f : Nat, (s.lanes.get l).overran = some (f, b) → f + 1 = s.img.now →
          (t.lanes.get l).faulted = true ∧ t.buckle.request.get l = false)) ∧
    (∀ k : Fin 4,
      ∃ t, exec (.sliceWatchdog l k) s = .next t ∧ (t.lanes.get l).faulted = true ∧ t.buckle.request.get l = false ∧
        (t.lanes.get l).latch = some ⟨if s.granted = some l then 7 else 8, 0, k.val + 1, 0, s.img.clk.frame, s.img.clk.stitch⟩) ∧
    (∀ (unit group : Fin 5) (checker : Fin 3),
      ∃ t, exec (.lockstepMismatch l unit group checker) s = .next t ∧ (t.lanes.get l).faulted = true ∧
        t.buckle.request.get l = false ∧
        (t.lanes.get l).latch = some ⟨13, checker.val + 1, unit.val, group.val, s.img.clk.frame, s.img.clk.stitch⟩) ∧
    (∃ t, exec (.uncorrectableMemoryError l) s = .next t ∧ (t.lanes.get l).faulted = true ∧ t.buckle.request.get l = false ∧
        (t.lanes.get l).latch = some ⟨if s.granted = some l then 7 else 8, 0, 0, 0, s.img.clk.frame, s.img.clk.stitch⟩) ∧
    ((s.lanes.get l).injDue ≤ s.img.clk.opMs → s.img.clk.frame % 64 ≠ 0 → (s.lanes.get l).overran = none →
      (∃ t, exec (.injectionDue l .passed) s = .next t ∧ (t.lanes.get l).injDue = (s.lanes.get l).injDue + 600000 ∧
        (t.lanes.get l).injLast = s.img.clk.opMs ∧ (t.lanes.get l).faulted = false) ∧
      (∀ u g k : Nat, ∃ t, exec (.injectionDue l (.rawMissing u g k)) s = .next t ∧ (t.lanes.get l).faulted = true ∧
        (t.lanes.get l).latch = some ⟨14, wrap 8 k, wrap 8 u, wrap 8 g, s.img.clk.frame, s.img.clk.stitch⟩) ∧
      (∀ u g : Nat, ∃ t, exec (.injectionDue l (.residual u g)) s = .next t ∧ (t.lanes.get l).faulted = true ∧
        (t.lanes.get l).latch = some ⟨13, 3, wrap 8 u, wrap 8 g, s.img.clk.frame, s.img.clk.stitch⟩))

/-- SEAM_BLOCK_RECEIVED by a lane that hears the link: a block whose check passes and whose epoch is the present one is
to be acknowledged and is noted, a duplicate is acknowledged again and counted; a damaged one or one of another
epoch is counted and changes no more. LINK_ACK_RECEIVED ends the flight of the blocks it lists and of no other;
SEAM_RESEND_TIMEOUT sends a block that is 3 stitches late again, and after the fourth re-send its link is faulted
and its blocks move to the other link; LINK_RETRAIN with 64 test blocks acknowledged brings a link up, with any
other number it does not. (R308, R309, R310, R311, R312, R313) -/
def Obligations.SeamBlocksAndLinks : Prop :=
  ∀ s : State,
    (∀ b : SeamBlock, s.hears b.sender.other = true → s.seam.up b.link = true →
      (b.crcOk = true → b.body ≠ .other → b.epoch = s.epoch →
        ((s.seam.received.get b.sender).contains b.seq = false →
          ∃ t, exec (.seamBlockReceived b) s = .next t ∧ (b.sender.other, b.link, b.seq) ∈ t.seam.toAck ∧
            b.seq ∈ t.seam.received.get b.sender) ∧
        ((s.seam.received.get b.sender).contains b.seq = true →
          ∃ t, exec (.seamBlockReceived b) s = .next t ∧ (b.sender.other, b.link, b.seq) ∈ t.seam.toAck ∧
            t.seam.received = s.seam.received ∧ t.lanes = s.lanes ∧
            t.img.reg 0x2202 8 = wrap (regBits 0x2202 8) (s.img.reg 0x2202 8 + 1))) ∧
      (b.crcOk = false ∨ b.body = .other →
        ∃ t, exec (.seamBlockReceived b) s = .next t ∧ t.seam = s.seam ∧ t.lanes = s.lanes ∧ t.buckle = s.buckle ∧
          t.img.reg 0x2202 7 = wrap (regBits 0x2202 7) (s.img.reg 0x2202 7 + 1)) ∧
      (b.crcOk = true → b.body ≠ .other → b.epoch ≠ s.epoch →
        ∃ t, exec (.seamBlockReceived b) s = .next t ∧ t.seam = s.seam ∧ t.lanes = s.lanes ∧ t.buckle = s.buckle ∧
          t.img.reg 0x2202 8 = wrap (regBits 0x2202 8) (s.img.reg 0x2202 8 + 1))) ∧
    (∀ (l : Lane) (k : Link) (seqs : List Nat), s.powered = true →
      ∃ t, exec (.linkAckReceived ⟨l, k⟩ seqs) s = .next t ∧
        t.seam.flights = s.seam.flights.filter (fun f => !(f.sender == l && f.link == k && seqs.contains f.seq)) ∧
        t.img.reg 0x2202 4 = wrap (regBits 0x2202 4) (s.img.reg 0x2202 4 +
          (s.seam.flights.filter (fun f => f.sender == l && f.link == k && seqs.contains f.seq && f.counted)).length)) ∧
    (∀ (l : Lane) (k : Link) (seq : Nat) (f : Flight), s.powered = true →
      s.seam.flights.find? (fun f => f.sender == l && f.link == k && f.seq == seq) = some f → 3 ≤ f.age →
      (f.resends < 4 → ∃ t bytes, exec (.seamResendTimeout ⟨l, k⟩ seq) s = .next t ∧ t.seam.linkState k = s.seam.linkState k ∧
        t.img.outs = [.seam l k f.body.type seq true bytes] ∧
        t.seam.flights = s.seam.flights.map (fun g =>
          if g.sender == l && g.link == k && g.seq == seq then { g with age := 0, resends := g.resends + 1 } else g)) ∧
      (4 ≤ f.resends → ∃ t, exec (.seamResendTimeout ⟨l, k⟩ seq) s = .next t ∧ t.seam.linkState k = 3 ∧
        (∀ g ∈ t.seam.flights, g.link ≠ k) ∧ t.seam.flights.length = s.seam.flights.length)) ∧
    (∀ k : Link, s.powered = true → s.seam.linkState k ≠ 2 →
      (∃ t, exec (.linkRetrain k 64) s = .next t ∧ t.seam.linkState k = 2 ∧ t.buckle.monitor = false) ∧
      (∀ n : Nat, n ≠ 64 → ∃ t, exec (.linkRetrain k n) s = .next t ∧ t.seam.linkState k ≠ 2))

/-- COMMIT_APPLY applies the oldest sealed frame the standby holds whole, and with a digest that differs applies
nothing. COMMIT_ACK_RECEIVED with result 0 notes the frame that takes effect, and the next STITCH releases the
commits up to it; with another result the standby is unqualified. ACK_TIMEOUT of a commit 3 frames old, and
STANDBY_NO_COMMIT_TIMEOUT, unqualify the standby with EV11, and the active runs single-lane; SEAM_MONITOR_TIMEOUT
clears the qualified lines; FULL_COPY_START begins a copy. (R189, R317, R318, R319, R320, R322, R326) -/
def Obligations.CommitAndStandbyRules : Prop :=
  ∀ (s : State) (l : Lane), s.activeLane = some l →
    (∀ (head : Image) (rest : List Image) (r : RxFrame), s.sealed = head :: rest → s.standbyUp = true → 2 ≤ s.seam.standby →
      s.seam.rx.find? (fun r => r.frame == wrap 32 head.now) = some r → r.complete = true →
      (r.commit = some true →
        ∃ t, exec .commitApply s = .next t ∧ t.seam.lastApplied = head.now ∧ t.sealed = rest ∧
          (3 ≤ s.seam.standby → t.shadow = head ∧ (t.lanes.get l.other).current = true)) ∧
      (r.commit = some false →
        ∃ t, exec .commitApply s = .next t ∧ t.seam.lastApplied = s.seam.lastApplied ∧ t.sealed = s.sealed ∧ t.shadow = s.shadow)) ∧
    (∀ a : AckPayload, s.img.commit.singleLane = false → s.img.commit.out.any (fun c => c.frame == a.frame) = true →
      (a.result = 0 →
        ∃ t, exec (.commitAckReceived a) s = .next t ∧ t.img.commit = s.img.commit ∧
          t.landing = some (match s.landing with | some f => max f a.frame | none => a.frame) ∧
          (a.frame = s.img.now → t.img.inp.other = some (a.di, a.ti) ∧ t.img.reg 0x2203 4 = wrap 8 s.img.clk.stitch)) ∧
      (a.result ≠ 0 →
        ∃ t, exec (.commitAckReceived a) s = .next t ∧ t.img.commit.singleLane = true ∧
          t.buckle.qualified.get l.other = false ∧ t.img.evActive 11 modScope = true)) ∧
    (∀ (x : StitchSample) (f : Nat), s.landing = some f →
      ∃ t, exec (.stitch x) s = .next t ∧ t.landing = none ∧ ∀ c ∈ t.img.commit.out, f < c.frame) ∧
    (∀ (c : CommitRec) (cs : List CommitRec), s.img.commit.out = c :: cs → s.img.commit.singleLane = false → c.frame + 3 ≤ s.img.now →
      ∃ t, exec .ackTimeout s = .next t ∧ t.img.commit.singleLane = true ∧ t.landing = some s.releasedFrame ∧
        t.buckle.qualified.get l.other = false ∧ t.img.evActive 11 modScope = true) ∧
    (3 ≤ s.seam.standby → s.seam.lastApplied + 3 < s.img.now →
      ∃ t, exec .standbyNoCommitTimeout s = .next t ∧ t.buckle.qualified.get l.other = false ∧ t.seam.standby ≤ 1 ∧
        t.img.evActive 11 modScope = true) ∧
    (48 ≤ s.buckle.bothDown →
      ∃ t, exec .seamMonitorTimeout s = .next t ∧ t.buckle.monitor = true ∧ t.buckle.qualified = ⟨false, false⟩) ∧
    (s.standbyUp = true → s.seam.standby ≤ 1 → s.seam.upCount ≠ 0 →
      ∃ t, exec .fullCopyStart s = .next t ∧ t.seam.standby = 2 ∧ t.seam.sections = 0 ∧ t.seam.copyNext = some 0 ∧
        (t.lanes.get l.other).current = false)

/-- STROBE_LOSS_REVOCATION after 4 boundaries without the granted lane's strobe gives the grant to the other lane where
its line is set and it strobed, else to none; GRANT_FROM_NO_GRANT gives it to the lane that applies;
HOLD_WINDOW_EXPIRY brings the safe states once 50 ms have passed; RAIL_DISAGREEMENT latches no grant;
BELIEF_MISMATCH demotes an active lane that is not granted, and keeps one that is granted without a new epoch from
strobing; HANDOVER_COMMAND flags the handover; SWITCHOVER makes the granted standby the active lane; HOLD_RELEASE
hands the cells over; GRANT_REQUEST_WAIT_EXPIRY lets a lane that is not current ask once it has waited 10 s. (R304,
R329, R330, R332, R333, R334, R335, R337, R341, R378) -/
def Obligations.GrantChanges : Prop :=
  ∀ s : State,
    (∀ l : Lane, s.granted = some l → 4 ≤ s.buckle.missing →
      ∃ t, exec .strobeLossRevocation s = .next t ∧ t.hold.st = 1 ∧ t.buckle.epoch = s.buckle.epoch + 1 ∧
        (if s.buckle.qualified.get l.other = true ∧ s.buckle.before.get l.other = true ∧ s.lining = false then
          t.granted = some l.other ∧ t.takeover.isSome = true
         else t.buckle.railP = 0 ∧ t.buckle.railQ = 0 ∧ t.buckle.window = some 0)) ∧
    (∀ l : Lane, s.applicant = some l →
      ((s.lanes.get l).st = .operational →
        ∃ t, exec .grantFromNoGrant s = .next t ∧ t.granted = some l ∧ t.owner = l ∧ (t.lanes.get l).active = true ∧
          t.buckle.epoch = s.buckle.epoch + 1 ∧ t.hold.st = 1 ∧ t.running = true) ∧
      ((s.lanes.get l).st = .lining →
        ∃ t, exec .grantFromNoGrant s = .next t ∧ t.granted = some l ∧ t.owner = l ∧ t.buckle.epoch = s.buckle.epoch + 1 ∧
          t.hold.st = 0 ∧ t.lining = true)) ∧
    (∀ n : Nat, s.buckle.window = some n → 800 ≤ n →
      ∃ t, exec .holdWindowExpiry s = .next t ∧ t.buckle.window = none ∧ t.hold.st = 2 ∧
        (∀ k : Fin 4, (t.img.tos.get k).on = false) ∧
        (s.buckle.latched = true → t.buckle.latched = false ∧ t.buckle.selfTest = true ∧ t.lanes.a.st = .starting ∧
          t.lanes.b.st = .starting)) ∧
    (s.powered = true → s.buckle.latched = false →
      ∃ t, exec .railDisagreement s = .next t ∧ t.buckle.latched = true ∧ t.buckle.railP = 0 ∧ t.buckle.railQ = 0 ∧
        t.buckle.window = some 0 ∧ t.hold.st = 1 ∧ t.img.isLatched 12 modScope = true) ∧
    (∀ l : Lane, s.powered = true → (s.lanes.get l).faulted = false →
      ((s.lanes.get l).active = true → s.granted ≠ some l →
        ∃ t, exec (.beliefMismatch l) s = .next t ∧ (t.lanes.get l).active = false ∧ t.img.shown 15 modScope = true) ∧
      ((s.lanes.get l).active = false → s.granted = some l → s.takeover = none → (s.lanes.get l).st = .operational →
        ∃ t, exec (.beliefMismatch l) s = .next t ∧ (t.lanes.get l).active = false ∧ (t.lanes.get l).strobes = false ∧
          t.img.shown 15 modScope = true)) ∧
    (∀ p : Path, s.takes p 0x2201 1 [1] →
      ∃ t, exec (.handoverCommand p) s = .next t ∧ t.img.commit.handover = true ∧ t.owes p 0x2201 1) ∧
    (∀ (l : Lane) (x : Takeover), s.granted = some l → s.takeover = some x → x.taken = false → s.owner ≠ l →
      (s.lanes.get l).st = .operational → (s.lanes.get l).faulted = false →
      ∃ t, exec .switchover s = .next t ∧ t.owner = l ∧ (t.lanes.get l).active = true ∧ t.committed = s.shadow ∧
        t.img.shown 9 modScope = true ∧ t.img.evActive 11 modScope = true) ∧
    (∀ x : Takeover, s.running = true → s.takeover = some x → x.committed = true → x.released = none →
      ∃ t, exec .holdRelease s = .next t ∧ t.hold.st = 0 ∧
        ∀ c : Chan, (t.img.chan c).held = false ∧ t.hold.drive.get c = (s.img.chan c).out) ∧
    (∀ l : Lane, s.powered = true → (s.lanes.get l).st = .operational → (s.lanes.get l).current = false →
      (s.lanes.get l).faulted = false → s.granted = none → (s.lanes.get l).waitFrom + 160000 ≤ s.tick →
      ∃ t, exec (.grantRequestWaitExpiry l) s = .next t ∧ t.buckle.request.get l = true)

/-- POWER_GOOD of an unpowered module starts both lanes with the epoch and the stitch count at 0, no grant, and the hold
cells in their safe states; LOGIC_SUPPLY_FAIL stops everything; CODING_PLUG_CHANGE shows the value at once.
LANE_START with every result good, fresh samples and the lane switches open, or a lane granted, brings a lane to its
rate detection or into operation; SEAM_UP_TIMEOUT lets it go on without a link, RATE_DETECTION_TIMEOUT without a
rate; CLEAN_RUN_ELAPSED after 10 s clears the failed-start counter; LANE_RESTART of a faulted lane starts it anew,
or leaves it off where its faults have reached the limit; LINING_ENTRY of two halted lanes, or of one whose other
has sent no status block for 10 s, enters Lining mode; LINING_RETRY_START and RESTART_HALTED_LANE start the lanes
they name. (R327, R364, R476, R487, R497, R365, R367, R368, R370, R375, R376, R377) -/
def Obligations.PowerAndLaneStart : Prop :=
  (∀ s : State,
    (∀ (dc : Bool) (vin : Nat) (plug : Fin 64) (ok : Bool), s.powered = false →
      ∃ t, exec (.powerGood dc vin plug ok) s = .next t ∧ t.powered = true ∧ t.tick = 0 ∧ t.buckle.epoch = 0 ∧
        t.buckle.selfTest = ok ∧ t.buckle.railP = 0 ∧ t.buckle.railQ = 0 ∧ t.hold.st = 2 ∧ t.lanes.a.st = .starting ∧
        t.lanes.b.st = .starting ∧ t.img.belt.vin = vin ∧ t.img.belt.input = (if dc then 2 else 1)) ∧
    (s.powered = true →
      ∃ t, exec .logicSupplyFail s = .next t ∧ t.powered = false ∧ t.lanes.a.st = .off ∧ t.lanes.b.st = .off ∧
        t.granted = none ∧ t.hold.st = 2 ∧ t.seam.upCount = 0) ∧
    (∀ v : Fin 64, s.powered = true →
      ∃ t, exec (.codingPlugChange v) s = .next t ∧ t.img.reg 0x2903 1 = v.val ∧ t.committed.reg 0x2903 1 = v.val)) ∧
  (∀ s : State,
    (∀ (l : Lane) (r : StartResult), s.powered = true → (s.lanes.get l).st = .starting → (s.lanes.get l).phase = 2 →
      (s.lanes.get l).freeStart = true → s.candidate? l = none → s.slotState l (s.chosenSlot l) ≠ 0 →
      ((s.lanes.get l).slot (s.chosenSlot l)).bootable = true → r.slotOk = (true, true) →
      r.injection = .passed → r.sramOk = true → r.norOk = true → r.link1 = true → r.readbackOk = true → s.buckle.agree = true →
      s.buckle.selfTest = true → (∀ g : Fin 13, s.img.inp.stale.get g < 8) →
      (s.granted.isSome = true ∨ (s.img.permits.sideA.laneClosed = false ∧ s.img.permits.sideB.laneClosed = false)) →
      ∃ t, exec (.laneStart l r) s = .next t ∧
        ((t.lanes.get l).st = .operational ∨ ((t.lanes.get l).st = .starting ∧ (t.lanes.get l).phase = 8))) ∧
    (∀ (l : Lane) (r : StartResult), (s.lanes.get l).st = .starting → (s.lanes.get l).phase = 6 →
      (s.lanes.get l).result = some r → r.readbackOk = true → s.buckle.agree = true → s.buckle.selfTest = true →
      (∀ g : Fin 13, s.img.inp.stale.get g < 8) →
      (s.granted.isSome = true ∨ (s.img.permits.sideA.laneClosed = false ∧ s.img.permits.sideB.laneClosed = false)) →
      ∃ t, exec (.seamUpTimeout l) s = .next t ∧
        ((t.lanes.get l).st = .operational ∨ ((t.lanes.get l).st = .starting ∧ (t.lanes.get l).phase = 8))) ∧
    (∀ l : Lane, (s.lanes.get l).st = .starting → (s.lanes.get l).phase = 8 →
      ∃ t, exec (.rateDetectionTimeout l) s = .next t ∧ (t.lanes.get l).st = .operational ∧ (t.lanes.get l).phase = 9 ∧
        (t.lanes.get l).opAt = some s.img.clk.opMs) ∧
    (∀ (l : Lane) (f : Nat), (s.lanes.get l).opAt = some f → (s.lanes.get l).st = .operational → (s.lanes.get l).faulted = false →
      f + 10000 ≤ s.img.clk.opMs → s.img.reg (startObj l) 1 ≠ 0 →
      ∃ t, exec (.cleanRunElapsed l) s = .next t ∧ t.img.reg (startObj l) 1 = 0) ∧
    (∀ l : Lane, s.powered = true → (s.lanes.get l).faulted = true → (s.lanes.get l).st ≠ .lining → s.granted ≠ some l →
      ∃ t, exec (.laneRestart l) s = .next t ∧ (t.lanes.get l).faulted = false ∧
        (if s.img.reg 0x220B 3 ≤ (s.lanes.get l).recentFaults s.img.clk.opMs then (t.lanes.get l).st = .faultRate
         else (t.lanes.get l).st = .starting ∧ (t.lanes.get l).phase = 2)) ∧
    (s.powered = true → s.running = false → s.lining = false →
      (s.lanes.a.st = .halted → s.lanes.b.st = .halted →
        ∃ t, exec .liningEntry s = .next t ∧ t.lanes.a.st = .lining ∧ t.lanes.b.st = .lining ∧ t.lining = true) ∧
      (∀ l : Lane, (s.lanes.get l).st = .halted → (s.lanes.get l.other).statusAt + 160000 ≤ s.tick →
        ∃ t, exec .liningEntry s = .next t ∧ (t.lanes.get l).st = .lining ∧ t.buckle.request.get l = true)) ∧
    (∀ p : Path, s.lining = true → s.running = false → s.img.legacyAt p 0x2006 = false →
      s.hush.checkWrite p 0x2006 2 [1] = Verdict.ok →
      ∃ t, exec (.liningRetryStart p) s = .next t ∧ t.lanes.a.st = .starting ∧ t.lanes.b.st = .starting ∧
        t.lanes.a.kind = 4 ∧ t.lanes.b.kind = 4) ∧
    (∀ (p : Path) (l : Lane), s.takes p 0x220B 4 [l.code] →
      ∃ t, exec (.restartHaltedLane p l) s = .next t ∧ (t.lanes.get l).st = .starting ∧ (t.lanes.get l).freeStart = true ∧
        t.owes p 0x220B 4))

/-- NAND_WRITE programs the record at the head of the queue into the block being written, or begins the next block and
the erase of the oldest; NAND_ERASE_COMPLETE ends the erase, and a failed one retires the block; CLEAR_ERASE erases
one block below the floor, at most one every 4 frames. CURSOR_POSITION_WRITE takes its value, 0 for the oldest
record and all ones for the newest; CURSOR_READ below the oldest record answers with result 1 and goes on at it,
above the newest it answers with result 2 and stays; CLEAR_RECORDS and CLEAR_RECORDS_AND_LEDGER wait for section R
with state 3 and show EV22. (R403, R405, R406, R420, R416, R417, R418, R419, R437) -/
def Obligations.RecorderRules : Prop :=
  (∀ (s : State) (l : Lane), s.powered = true → ((s.lanes.get l).st = .operational ∨ (s.lanes.get l).st = .lining) →
    (s.lanes.get l).faulted = false →
    (∀ (q : Nat) (rest : List Nat), (s.stores.get l).st = 1 → (s.stores.get l).ring ≠ 0 → (s.stores.get l).erasing = false →
      (s.stores.get l).queue = q :: rest → (s.stores.get l).blocks ≠ [] →
      ((s.stores.get l).current.used < 256 →
        ∃ t, exec (.nandWrite l [true]) s = .next t ∧ (t.stores.get l).queue = rest ∧ (t.stores.get l).written = q ∧
          t.stores.get l.other = s.stores.get l.other) ∧
      (256 ≤ (s.stores.get l).current.used → (s.stores.get l).ring ≤ (s.stores.get l).blocks.length + 1 →
        ∃ t, exec (.nandWrite l [true]) s = .next t ∧ (t.stores.get l).queue = q :: rest ∧ (t.stores.get l).erasing = true ∧
          (t.stores.get l).blocks.length = (s.stores.get l).blocks.length)) ∧
    (∀ ok : Bool, (s.stores.get l).erasing = true →
      ∃ t, exec (.nandEraseComplete l ok) s = .next t ∧ (t.stores.get l).erasing = false ∧
        (ok = false → (t.stores.get l).retired = (s.stores.get l).retired + 1 ∧
          (t.stores.get l).eraseFails = (s.stores.get l).eraseFails + 1)) ∧
    ((s.stores.get l).toErase s.committed.rcd.floor ≠ 0 → (s.stores.get l).lastErase + 4 ≤ s.img.now →
      ∃ t, exec (.clearErase l) s = .next t ∧ (t.stores.get l).blocks.length + 1 = (s.stores.get l).blocks.length ∧
        (t.stores.get l).lastErase = s.img.now)) ∧
  (∀ (s : State) (p : Path),
    (∀ (k : Fin 4) (v : Nat), v < 2 ^ 48 → s.takes p (cursorObj k) 1 (le 6 v) →
      ∃ t, exec (.cursorPositionWrite p k v) s = .next t ∧ t.owes p (cursorObj k) 1 ∧
        t.img.reg (cursorObj k) 1 = (if v = 0 then wrap 48 s.gOldestHeld
          else if v = 2 ^ 48 - 1 then wrap 48 (s.committed.reg 0x2700 2) else v)) ∧
    (∀ (k : Fin 4) (unread : List Nat) (l : Lane), s.activeLane = some l → s.checkRead p (cursorObj k) 5 = 0 →
      s.img.legacy p = false →
      (s.img.reg (cursorObj k) 1 < (s.stores.get l).oldest s.committed.rcd.floor →
        ∃ t data, exec (.cursorRead p k unread) s = .next t ∧ t.sent p (cursorObj k) 5 0 (1 :: data) ∧
          t.img.reg (cursorObj k) 1 = wrap 48 ((s.stores.get l).oldest s.committed.rcd.floor) ∧
          t.img.reg (cursorObj k) 6 = 1) ∧
      ((s.stores.get l).oldest s.committed.rcd.floor ≤ s.img.reg (cursorObj k) 1 →
        s.committed.reg 0x2700 2 < s.img.reg (cursorObj k) 1 →
        ∃ t data, exec (.cursorRead p k unread) s = .next t ∧ t.sent p (cursorObj k) 5 0 (2 :: data) ∧
          t.img.reg (cursorObj k) 1 = wrap 48 (s.img.reg (cursorObj k) 1) ∧ t.img.reg (cursorObj k) 6 = 2)) ∧
    (s.takes p 0x2712 1 [1] →
      ∃ t, exec (.clearRecords p) s = .next t ∧ t.img.rcd.clearing = 1 ∧ t.img.reg 0x2712 2 = 3 ∧ t.img.shown 22 modScope = true ∧
        t.owes p 0x2712 1) ∧
    (s.takes p 0x2712 1 [2] →
      ∃ t, exec (.clearRecordsAndLedger p) s = .next t ∧ t.img.rcd.clearing = 2 ∧ t.img.reg 0x2712 2 = 3 ∧
        t.img.shown 22 modScope = true ∧ t.owes p 0x2712 1))

/-- CAN_FRAME_RECEIVED on a port in use counts the frame, and one that a service uses enters the receive FIFO of 64 with
the frame time; CAN_CANDIDATE_TIMEOUT takes the next candidate rate; LEGACY_BUS_IDLE_ACCEPT in Overlay mode takes
500 kbit/s on X7. CAN_ERROR_PASSIVE of an error-active port sends EMCY 0x8120; CAN_BUS_OFF counts, raises EV27 or
EV28, and the eighth within 60 s begins the quarantine; CAN_BUS_OFF_RECOVERY makes the port error-active and sends
EMCY 0x8140; CAN_QUARANTINE_END after 10 s makes it error-active; CAN_BUS_OFF_EVENT_CLEAR clears the event after 1 s
error-active. (R446, R452, R454, R463, R532, R455, R456, R457) -/
def Obligations.CanReceptionAndFaults : Prop :=
  (∀ s : State, s.portsUp = true →
    (∀ (q : Port) (f : CanFrame), (s.img.canPort q).listens = true → (f.fd = false ∨ s.img.fdPort q = true) →
      (∃ t, exec (.canFrameReceived q (.frame f)) s = .next t ∧
        t.img.preg q 0x0F = wrap (regBits q.obj 0x0F) (s.img.preg q 0x0F + 1)) ∧
      (f.remote = false → f.extended = false → s.img.usedId f.id = true → (s.img.canPort q).st ≠ .detecting →
        (s.img.canPort q).rx.length < 64 →
        ∃ t, exec (.canFrameReceived q (.frame f)) s = .next t ∧
          (t.img.canPort q).rx = (s.img.canPort q).rx ++ [(f, s.img.nowUs)])) ∧
    (∀ q : Port, (s.img.canPort q).st = .detecting →
      ∃ t, exec (.canCandidateTimeout q) s = .next t ∧ (t.img.canPort q).nomTry = (s.img.canPort q).nomTry + 1 ∧
        (t.img.canPort q).nomRun = 0) ∧
    (s.img.overlay = true → (s.img.canPort .x7).st = .detecting →
      ∃ t, exec .legacyBusIdleAccept s = .next t ∧ (t.img.canPort .x7).st = .active ∧ t.img.preg .x7 5 = 500)) ∧
  (∀ (s : State) (q : Port), (s.running = true ∨ s.lining = true) →
    ((s.img.canPort q).st = .active →
      ∃ t, exec (.canErrorPassive q) s = .next t ∧ (t.img.canPort q).st = .passive ∧ ciaEmcy 0x8120 q ∈ t.img.ev.emcy) ∧
    ((s.img.canPort q).transmits = true →
      ∃ t, exec (.canBusOff q) s = .next t ∧ t.img.evActive (busOffEvent q) modScope = true ∧
        t.img.preg q 0x0C = wrap (regBits q.obj 0x0C) (s.img.preg q 0x0C + 1) ∧
        (t.img.canPort q).st =
          (if 8 ≤ ((s.img.canPort q).busOffs.filter (fun f => decide (s.img.now < f + 60000))).length + 1 then .quarantine else .busOff)) ∧
    ((s.img.canPort q).st = .busOff →
      ∃ t, exec (.canBusOffRecovery q) s = .next t ∧ (t.img.canPort q).st = .active ∧ ciaEmcy 0x8140 q ∈ t.img.ev.emcy ∧
        t.img.preg q 0x0A = 0 ∧ t.img.preg q 0x0B = 0 ∧ (t.img.canPort q).boxes = (s.img.canPort q).boxes) ∧
    ((s.img.canPort q).st = .quarantine → (s.img.canPort q).quarantined + 10000 ≤ s.img.now →
      ∃ t, exec (.canQuarantineEnd q) s = .next t ∧ (t.img.canPort q).st = .active ∧ t.img.preg q 0x0A = 0 ∧ t.img.preg q 0x0B = 0) ∧
    (∀ f : Nat, (s.img.canPort q).activeSince = some f → f + 1000 ≤ s.img.now → (s.img.canPort q).st = .active →
      ∃ t, exec (.canBusOffEventClear q) s = .next t ∧ t.img.evActive (busOffEvent q) modScope = false))

/-- CAN_SUBMIT places a request that the mailbox can take and counts it; CAN_TIME_TAG_REACHED makes it eligible;
CAN_FRAME_SENT, CAN_NO_ACK_ABORT and CAN_CANCEL end it and count the outcome sent, aborted, cancelled; an
unacknowledged request begins the solitary state with EV29; SOLITARY_BEACON submits the heartbeat every 100 ms.
(R432, R458, R460, R461, R462, R464) -/
def Obligations.CanMailboxes : Prop :=
  ∀ (s : State) (q : Port) (k : Fin 32), (s.running = true ∨ s.lining = true) →
    (∀ (id : Nat) (tag : Option Nat) (data : Bytes), s.img.maySubmit q k tag = true →
      ∃ t, exec (.canSubmit q k id tag data) s = .next t ∧ (t.img.canPort q).boxes.get k = some ⟨id, data, tag, .other⟩ ∧
        t.img.reg (canLedger q) 1 = wrap (regBits (canLedger q) 1) (s.img.reg (canLedger q) 1 + 1)) ∧
    (∀ r : Request, (s.img.canPort q).boxes.get k = some r → s.img.tagReached r.tag = true →
      ∃ t, exec (.canTimeTagReached q k) s = .next t ∧ (t.img.canPort q).boxes.get k = some { r with tag := none }) ∧
    (s.img.contends q k = true →
      (∃ t, exec (.canFrameSent q k) s = .next t ∧
        t.img.reg (canLedger q) 2 = wrap (regBits (canLedger q) 2) (s.img.reg (canLedger q) 2 + 1) ∧
        (k.val ≠ 2 → k.val ≠ 3 → (t.img.canPort q).boxes.get k = none)) ∧
      (∃ t, exec (.canNoAckAbort q k) s = .next t ∧ (t.img.canPort q).boxes.get k = none ∧ (t.img.canPort q).solitary = true ∧
        t.img.reg (canLedger q) 4 = wrap (regBits (canLedger q) 4) (s.img.reg (canLedger q) 4 + 1) ∧
        ((s.img.canPort q).solitary = false → t.img.evActive 29 modScope = true)) ∧
      (∃ t, exec (.canCancel q k true true) s = .next t ∧ (t.img.canPort q).boxes.get k = none ∧
        t.img.reg (canLedger q) 2 = wrap (regBits (canLedger q) 2) (s.img.reg (canLedger q) 2 + 1) ∧
        t.img.reg 0x2904 2 = wrap (regBits 0x2904 2) (s.img.reg 0x2904 2 + 1))) ∧
    (((s.img.canPort q).boxes.get k).isSome = true → ∀ acked : Bool,
      ∃ t, exec (.canCancel q k false acked) s = .next t ∧ (t.img.canPort q).boxes.get k = none ∧
        t.img.reg (canLedger q) 3 = wrap (regBits (canLedger q) 3) (s.img.reg (canLedger q) 3 + 1)) ∧
    ((s.img.canPort q).solitary = true → (s.img.canPort q).lastBeacon + 100 ≤ s.img.now → s.img.configured = true →
      (s.img.canPort q).accepts = true → (s.img.canPort q).boxes.get 0 = none →
      ∃ t, exec (.solitaryBeacon q) s = .next t ∧
        (t.img.canPort q).boxes.get 0 = some ⟨0x700 + s.img.nodeId, [s.img.nmt], none, .beacon⟩ ∧
        (t.img.canPort q).lastBeacon = s.img.now)

/-- While a lane runs, the NMT commands that concern the node set 0x2903:05: start 5, enter pre-operational 127, stop 4;
Reset Communication and Reset Node end pre-operational, or initialising for a node without a node-ID, with every
pending request ended. CAN_PORT_ENABLE of a disabled port begins rate detection with its boot-up due;
CAN_PORT_DISABLE begins the drain; CAN_PORT_DISABLE_FORCED stops the port at once, with nothing pending and EV49.
(R466, R476, R10, R11, R477, R480, R481) -/
def Obligations.NmtAndPortService : Prop :=
  (∀ (s : State) (q : Port) (node : Nat), s.img.nmtFor q node = true →
    (s.running = true →
      (∃ t, exec (.nmtStartRemoteNode q node) s = .next t ∧ t.img.nmt = 5) ∧
      (∃ t, exec (.nmtEnterPreoperational q node) s = .next t ∧ t.img.nmt = 127) ∧
      (∃ t, exec (.nmtStopRemoteNode q node) s = .next t ∧ t.img.nmt = 4)) ∧
    ((s.running = true ∨ s.lining = true) →
      (∃ t, exec (.nmtResetCommunication q node) s = .next t ∧ t.img.nmt = (if t.img.configured then 127 else 0) ∧
        (∀ k : Fin 2, (t.img.net.co.servers.get k).job = .idle) ∧ ∀ r : Fin 32, r ≠ 0 → ((t.img.canPort q).boxes.get r) = none) ∧
      (∃ t, exec (.nmtResetNode q node) s = .next t ∧ t.img.nmt = (if t.img.configured then 127 else 0) ∧
        (∀ k : Fin 2, (t.img.net.co.servers.get k).job = .idle) ∧ ∀ r : Fin 32, r ≠ 0 → ((t.img.canPort q).boxes.get r) = none))) ∧
  (∀ (s : State) (p : Path) (q : Port),
    (s.takes p q.obj 8 [1] → (s.img.canPort q).st = .disabled →
      ∃ t, exec (.canPortEnable p q) s = .next t ∧ (t.img.canPort q).st = .detecting ∧ (t.img.canPort q).bootDue = true ∧
        t.img.preg q 5 = 0 ∧ t.owes p q.obj 8) ∧
    (s.takes p q.obj 8 [2] → (s.img.canPort q).st ≠ .disabled → (s.img.canPort q).drain = none →
      ∃ t, exec (.canPortDisable p q) s = .next t ∧ (t.img.canPort q).drain = some s.img.now ∧
        (t.img.canPort q).emcyQueue = [] ∧ t.owes p q.obj 8) ∧
    (s.takes p q.obj 8 [3] → (s.img.canPort q).st ≠ .disabled →
      ∃ t, exec (.canPortDisableForced p q) s = .next t ∧ (t.img.canPort q).st = .disabled ∧ (t.img.canPort q).pending = 0 ∧
        t.img.shown 49 modScope = true ∧ t.owes p q.obj 8))

/-- A free server that is offered on the port answers an upload with the code of its read check; an expedited download
that passes the checks waits for section D; SDO_TRANSFER_TIMEOUT ends a transfer that has waited longer than 1,000
ms with abort 0x0504 0000. (R467, R511) -/
def Obligations.SdoTransfers : Prop :=
  ∀ (s : State) (k : Fin 2), (s.running = true ∨ s.lining = true) →
    (∀ (q : Port) (idx sub : Nat), s.serverOn q k = true → s.img.serverBusy k = false →
      (∃ t data, exec (.sdoRequest q k (.upload idx sub)) s = .next t ∧
        t.sent (serverPath k) idx sub (s.checkRead (serverPath k) idx sub) data) ∧
      (∀ data : Bytes, data.length ≤ s.img.expeditedMax q → s.hush.checkWrite (serverPath k) idx sub data = Verdict.ok →
        ∃ t, exec (.sdoRequest q k (.download idx sub data)) s = .next t ∧
          (⟨serverPath k, idx, sub, data, false⟩ : DueWrite) ∈ t.img.due)) ∧
    (∀ (idx sub size : Nat) (data : Bytes) (tog block : Bool),
      (s.img.net.co.servers.get k).job = .download idx sub size data tog block →
      (s.img.net.co.servers.get k).last + 1000 < s.img.now →
      ∃ t, exec (.sdoTransferTimeout k) s = .next t ∧ (t.img.net.co.servers.get k).job = .idle ∧
        ∀ q : Port, (s.img.net.co.servers.get k).port = some q → (s.img.canPort q).accepts = true → s.img.net.co.echo = [] →
          (t.img.canPort q).boxes.get (if k = 0 then 2 else 3) =
            some ⟨s.img.sdoCob k, 0x80 :: (le 2 idx ++ [sub] ++ le 4 abTimeout), none, if k = 0 then .sdo1 else .sdo2⟩)

/-- RPDO_RECEIVED of a valid RPDO notes the reception, and one that is too short sends EMCY 0x8210; RPDO_DEADLINE_EXPIRY
of an RPDO that is no command source sends EMCY 0x8250; TPDO_TRANSMIT submits the committed content; SYNC_RECEIVED
shows its counter and begins the window, SYNC_WINDOW_CLOSE cancels the synchronous TPDOs not yet sent; SYNC_PRODUCE
tags each SYNC one period after the one before. (R468, R469, R470) -/
def Obligations.ProcessDataRules : Prop :=
  ∀ s : State, s.running = true →
    (∀ (q : Port) (n : Fin 32) (data : Bytes), s.img.pdoOn q = true → s.img.pdoOffered n = true → s.img.rpdoValid n = true →
      s.img.pdoPort 1 n.val q = true →
      (s.img.rpdoBits n ≤ 8 * data.length →
        ∃ t, exec (.rpdoReceived q n data) s = .next t ∧ t.img.net.co.rpdoSeen.get n = some s.img.now) ∧
      (8 * data.length < s.img.rpdoBits n →
        ∃ t, exec (.rpdoReceived q n data) s = .next t ∧ ciaEmcy 0x8210 q ∈ t.img.ev.emcy ∧
          t.img.net.co.rpdoSeen = s.img.net.co.rpdoSeen ∧ t.img.due = s.img.due)) ∧
    (∀ (n : Fin 32) (f : Nat), s.img.net.co.rpdoSeen.get n = some f → s.img.operational = true → s.img.rpdoValid n = true →
      s.img.rpdoSource n = false → s.img.reg (0x1400 + n.val) 5 ≠ 0 → f + s.img.reg (0x1400 + n.val) 5 ≤ s.img.now →
      ∃ t, exec (.rpdoDeadlineExpiry n) s = .next t ∧ t.img.net.co.rpdoSeen.get n = none ∧
        (⟨0x8250, 0xFF, 1, 0, Source.zero⟩ : Emcy) ∈ t.img.ev.emcy) ∧
    (∀ (n : Fin 32) (q : Port) (k : Fin 32), s.img.operational = true → s.img.configured = true → s.img.tpdoValid n = true →
      254 ≤ s.img.reg (0x1800 + n.val) 2 → s.img.overlay = false → s.tpdoDue n = true →
      s.img.openPorts.filter (fun q => s.img.pdoPort 2 n.val q) = [q] → s.img.tpdoBox q n = some k →
      ∃ t, exec (.tpdoTransmit n) s = .next t ∧ (t.img.tpdo n).lastSent = some s.img.now ∧
        (t.img.tpdo n).data = s.tpdoData n ∧ (t.img.tpdo n).waiting = false ∧
        (s.img.net.co.echo = [] → (t.img.canPort q).boxes.get k =
          some ⟨wrap 11 (s.img.reg (0x1800 + n.val) 1), s.tpdoData n, none, .tpdo n⟩)) ∧
    (∀ (q : Port) (c : Option Nat), (s.img.canPort q).transmits = true → s.img.servicesOn = true →
      ∃ t, exec (.syncReceived q c) s = .next t ∧ t.img.reg 0x2905 3 = wrap (regBits 0x2905 3) (c.getD 0) ∧
        (s.img.operational = true → t.img.net.co.syncAt = some s.img.now)) ∧
    (∀ f : Nat, s.img.net.co.syncAt = some f → s.img.reg 0x1007 0 ≠ 0 → 1000 * f + s.img.reg 0x1007 0 ≤ s.img.nowUs →
      ∃ t, exec .syncWindowClose s = .next t ∧ t.img.net.co.syncAt = none ∧
        ∀ (q : Port) (k : Fin 32), s.img.holdsSync q k = true → (t.img.canPort q).boxes.get k = none) ∧
    (∀ x : Nat, s.img.servicesOn = true → bitOf (s.img.reg 0x1005 0) 30 = true → s.img.reg 0x1006 0 ≠ 0 →
      s.img.openPorts.any (fun q => ((s.img.canPort q).boxes.get 5).isNone) = true → s.img.net.co.syncTag = some x →
      s.img.tagAllowed (some (x + max 1000 (s.img.reg 0x1006 0))) = true →
      ∃ t, exec .syncProduce s = .next t ∧ t.img.net.co.syncTag = some (x + max 1000 (s.img.reg 0x1006 0)) ∧
        ∀ q ∈ s.img.openPorts, (s.img.canPort q).boxes.get 5 = none →
          (t.img.canPort q).boxes.get 5 = some ⟨wrap 11 (s.img.reg 0x1005 0),
            if s.img.reg 0x1019 0 = 0 then [] else [s.img.net.co.syncCount % s.img.reg 0x1019 0 + 1],
            some (x + max 1000 (s.img.reg 0x1006 0)), .sync⟩)

/-- TIME_RECEIVED shows the time in TAI and sets nothing; HEARTBEAT_PRODUCE submits the first heartbeat of a port in
mailbox 0; HEARTBEAT_CONSUMER_TIMEOUT of a silent node raises EV30; ERROR_HISTORY_CLEAR empties 0x1003. (R471, R473,
R474) -/
def Obligations.TimeAndHeartbeats : Prop :=
  ∀ s : State,
    (∀ (q : Port) (utc ms : Nat), s.running = true → (s.img.canPort q).transmits = true → s.img.servicesOn = true →
      bitOf (s.img.reg 0x1012 0) 31 = true → s.img.overlay = false →
      ∃ t, exec (.timeReceived q utc ms) s = .next t ∧ t.img.clk = s.img.clk ∧
        t.img.reg 0x2905 1 = wrap (regBits 0x2905 1) ((Int.ofNat utc + s.img.utcOffset).toNat * 2 ^ 16 + ms % 1000)) ∧
    (∀ q : Port, (s.running = true ∨ s.lining = true) → s.img.reg 0x1017 0 ≠ 0 → (s.img.canPort q).bootDue = false →
      (s.img.canPort q).solitary = false → (s.img.canPort q).hbTag = none → s.img.configured = true → s.img.nmt ≠ 0 →
      s.img.maySubmit q 0 none = true →
      ∃ t, exec .heartbeatProduce s = .next t ∧
        (t.img.canPort q).boxes.get 0 = some ⟨0x700 + s.img.nodeId, [s.img.nmt], some s.img.nowUs, .heartbeat⟩ ∧
        (t.img.canPort q).hbTag = some s.img.nowUs) ∧
    (∀ (k : Fin 16) (f : Nat), s.running = true → s.img.net.co.hbSeen.get k = some f → bitOf s.img.net.co.hbLost k.val = false →
      s.img.reg 0x1016 (k.val + 1) % 0x10000 ≠ 0 → f + s.img.reg 0x1016 (k.val + 1) % 0x10000 ≤ s.img.now →
      ∃ t, exec (.heartbeatConsumerTimeout k) s = .next t ∧ t.img.evActive 30 modScope = true ∧
        bitOf t.img.net.co.hbLost k.val = true) ∧
    (∀ p : Path, s.takes p 0x1003 0 [0] →
      ∃ t, exec (.errorHistoryClear p) s = .next t ∧ t.img.reg 0x1003 0 = 0 ∧ t.owes p 0x1003 0)

/-- On a port where the slave answers: the switch services, node-ID and bit timing, their activation and storage, the
inquiries, the identify services and Fastscan (its start at bit 128, and each step whose upper bits match, which
ends in the configuration state once bit 0 of the last part matches), each with its answer in mailbox 4. (R475) -/
def Obligations.LssServices : Prop :=
  ∀ (s : State) (q : Port), s.running = true → s.lssOn q = true →
    (∀ on : Bool, ∃ t, exec (.lssSwitchStateGlobal q on) s = .next t ∧ t.img.net.co.lss.configuring = on) ∧
    (∃ t, exec (.lssSwitchStateSelective q (s.img.identity 0) (s.img.identity 1) (s.img.identity 2) (s.img.identity 3)) s = .next t ∧
      t.img.net.co.lss.configuring = true ∧ (t.img.canPort q).boxes.get 4 = some ⟨0x7E4, padTo 8 [0x44], none, .lss⟩) ∧
    (s.img.net.co.lss.configuring = true →
      (∀ id : Nat, s.img.plugSets = false → 1 ≤ id → id ≤ 127 →
        ∃ t, exec (.lssConfigureNodeId q id) s = .next t ∧ t.img.net.co.lss.nodeId = some id ∧
          (t.img.canPort q).boxes.get 4 = some ⟨0x7E4, padTo 8 [0x11, 0], none, .lss⟩) ∧
      (∀ index r : Nat, lssRate index = some r →
        ∃ t, exec (.lssConfigureBitTiming q 0 index) s = .next t ∧ t.img.net.co.lss.timing = some (q, index) ∧
          (t.img.canPort q).boxes.get 4 = some ⟨0x7E4, padTo 8 [0x13, 0], none, .lss⟩) ∧
      (∀ (q' : Port) (index r d : Nat), s.img.net.co.lss.timing = some (q', index) → (s.img.canPort q').transmits = true →
        lssRate index = some r → ∃ t, exec (.lssActivateBitTiming q d) s = .next t ∧ t.img.preg q' 5 = r) ∧
      (∀ id : Nat, s.img.net.co.lss.nodeId = some id →
        ∃ t, exec (.lssStoreConfiguration q) s = .next t ∧ t.img.reg 0x2903 3 = wrap 8 id ∧
          (t.img.canPort q).boxes.get 4 = some ⟨0x7E4, padTo 8 [0x17, 0], none, .lss⟩) ∧
      (∀ what : Fin 5, ∃ t, exec (.lssInquire q what) s = .next t ∧
        (t.img.canPort q).boxes.get 4 = some ⟨0x7E4, padTo 8 (if what = 4 then [0x5E, wrap 8 s.img.nodeId]
          else (0x5A + what.val) :: le 4 (s.img.identity what.val)), none, .lss⟩)) ∧
    (∀ rLow rHigh nLow nHigh : Nat, rLow ≤ s.img.identity 2 → s.img.identity 2 ≤ rHigh → nLow ≤ s.img.identity 3 →
      s.img.identity 3 ≤ nHigh →
      ∃ t, exec (.lssIdentifyRemoteSlave q (s.img.identity 0) (s.img.identity 1) rLow rHigh nLow nHigh) s = .next t ∧
        (t.img.canPort q).boxes.get 4 = some ⟨0x7E4, padTo 8 [0x4F], none, .lss⟩) ∧
    (s.img.configured = false →
      (∃ t, exec (.lssIdentifyNonconfigured q) s = .next t ∧ (t.img.canPort q).boxes.get 4 = some ⟨0x7E4, padTo 8 [0x50], none, .lss⟩) ∧
      (∀ (id : Nat) (sub next : Fin 4), s.img.net.co.lss.configuring = false →
        ∃ t, exec (.lssFastscan q id 128 sub next) s = .next t ∧ t.img.net.co.lss.scan = 0 ∧ (t.img.canPort q).boxes.get 4 = some ⟨0x7E4, padTo 8 [0x4F], none, .lss⟩) ∧
      (∀ (id check : Nat) (sub next : Fin 4), s.img.net.co.lss.configuring = false → check < 32 →
        s.img.net.co.lss.scan = sub.val → s.img.identity sub.val / 2 ^ check = wrap 32 id / 2 ^ check →
        ∃ t, exec (.lssFastscan q id check sub next) s = .next t ∧ t.img.net.co.lss.scan = next.val ∧
          t.img.net.co.lss.configuring = (decide (check = 0) && decide (next.val < sub.val)) ∧
          (t.img.canPort q).boxes.get 4 = some ⟨0x7E4, padTo 8 [0x4F], none, .lss⟩))

/-- BACKBONE_LINK_LOSS of a port in use shows 0 and raises EV32, BACKBONE_LINK_RESTORED shows 1 and clears EV32 with the
last port; DHCP_TIMEOUT takes the static values, DHCP_LEASE the lease; ARP_REQUEST and ICMP_ECHO for the module's
address are answered, others are not; STATUS_TELEGRAM_DUE and PD_PULL_REQUEST send the committed dataset;
COMMAND_TELEGRAM that passes its checks is noted, one that fails is counted alone. (R488, R492, R493, R494, R495) -/
def Obligations.BackboneLinksAndAddresses : Prop :=
  ∀ s : State,
    (∀ x : Fin 2, s.running = true → bitOf (s.img.bootReg 0x2906 4) x.val = true → s.img.net.bb.lost.get x = false →
      ∃ t, exec (.backboneLinkLoss x) s = .next t ∧ t.img.reg 0x2906 (x.val + 1) = 0 ∧ t.img.net.bb.lost.get x = true ∧
        t.img.evActive 32 modScope = true) ∧
    (∀ x : Fin 2, s.running = true → s.img.net.bb.lost.get x = true →
      ∃ t, exec (.backboneLinkRestored x) s = .next t ∧ t.img.reg 0x2906 (x.val + 1) = 1 ∧ t.img.net.bb.lost.get x = false ∧
        ((∀ y : Fin 2, y ≠ x → s.img.net.bb.lost.get y = false) → t.img.evActive 32 modScope = false)) ∧
    (s.running = true → s.img.bootReg 0x2907 1 = 1 → s.img.net.bb.lease = false → s.img.inp.sup.since + 30000 ≤ s.img.now →
      ∃ t, exec .dhcpTimeout s = .next t ∧ t.img.reg 0x2907 5 = wrap 32 (s.img.bootReg 0x2907 2) ∧
        t.img.net.bb.mask = s.img.bootReg 0x2907 3 ∧ t.img.net.bb.gateway = s.img.bootReg 0x2907 4) ∧
    (∀ ip mask gw : Nat, s.running = true → s.img.bootReg 0x2907 1 = 1 → s.img.net.bb.lease = false →
      ∃ t, exec (.dhcpLease ip mask gw) s = .next t ∧ t.img.reg 0x2907 5 = wrap 32 ip ∧ t.img.net.bb.lease = true ∧
        t.img.net.bb.mask = mask ∧ t.img.net.bb.gateway = gw) ∧
    (∀ (service : Bool) (ip : Nat), (s.running = true ∨ s.lining = true) →
      (∃ t, exec (.arpRequest service ip) s = .next t ∧
        t.img.outs = (if s.img.ownAddress service ip then [.arp ip (s.img.reg 0x2907 6) (s.img.vlanId service)] else [])) ∧
      (∃ t, exec (.icmpEcho service ip) s = .next t ∧ t.img.outs = (if s.img.ownAddress service ip then [.echo ip (s.img.vlanId service)] else []))) ∧
    (s.running = true → s.img.overlay = false →
      (s.img.net.bb.statusDue ≤ s.img.now →
        ∃ t, exec .statusTelegramDue s = .next t ∧
          .telegram (some (s.img.reg 0x2908 3)) (s.img.reg 0x2908 1) s.img.net.bb.statusSeq (s.img.vlanTag 7) s.statusDataset
            ∈ t.img.outs ∧
          t.img.net.bb.statusSeq = wrap 32 (s.img.net.bb.statusSeq + 1)) ∧
      (∃ t, exec (.pdPullRequest (s.img.reg 0x2908 1)) s = .next t ∧
          .telegram none (s.img.reg 0x2908 1) s.img.net.bb.pullSeq (s.img.vlanTag 7) s.statusDataset ∈ t.img.outs ∧
          t.img.net.bb.pullSeq = wrap 32 (s.img.net.bb.pullSeq + 1) ∧
          t.img.net.bb.statusSeq = s.img.net.bb.statusSeq) ∧
      (∀ (source seq : Nat) (data : Bytes), s.img.reg 0x2908 4 ≠ 0 →
        (s.img.commandAccepted source seq data = true →
          ∃ t, exec (.commandTelegram source seq data) s = .next t ∧ t.img.net.bb.commandSeq = some seq ∧
            t.img.inp.sup.trdp = some s.img.now ∧ t.img.inp.sup.trdpOut = false) ∧
        (s.img.commandAccepted source seq data = false →
          ∃ t, exec (.commandTelegram source seq data) s = .next t ∧ t.img.due = s.img.due ∧
            t.img.reg 0x2908 8 = wrap (regBits 0x2908 8) (s.img.reg 0x2908 8 + 1) ∧
            t.img.net.bb.commandSeq = s.img.net.bb.commandSeq)))

/-- A read of the gateway over TCP is answered with the code of its read check, a write that passes the checks waits for
section D; beyond eight served in a frame requests wait; GATEWAY_REQUEST_TIMEOUT answers those that have waited 500
ms; TCP_CONNECTION_OPEN holds at most four connections, TCP_CONNECTION_CLOSE drops one with its requests. (R497,
R498, R499) -/
def Obligations.GatewayRequests : Prop :=
  ∀ (s : State) (p : Path), (s.running = true ∨ s.lining = true) → isGateway p = true →
    (∀ (idx sub : Nat), s.gatewayOn p true = true → s.img.net.bb.gw = [] → s.img.net.bb.gwServed < 8 → s.img.reg 0x2909 1 ≠ 0 →
      (∃ t data, exec (.gatewayRead p true idx sub) s = .next t ∧ t.sent p idx sub (s.checkRead p idx sub) data ∧
        t.img.net.bb.gwServed = s.img.net.bb.gwServed + 1) ∧
      (∀ data : Bytes, ¬(idx = 0x2804 ∧ sub = 3) → s.hush.checkWrite p idx sub data = Verdict.ok →
        ∃ t, exec (.gatewayWrite p true idx sub data) s = .next t ∧ (⟨p, idx, sub, data, true⟩ : DueWrite) ∈ t.img.due)) ∧
    (∀ (idx sub : Nat), s.gatewayOn p true = true → (s.img.net.bb.gw ≠ [] ∨ 8 ≤ s.img.net.bb.gwServed) →
      ∃ t, exec (.gatewayRead p true idx sub) s = .next t ∧
        t.img.net.bb.gw = s.img.net.bb.gw ++ [⟨p, true, false, idx, sub, [], s.img.now⟩] ∧ t.img.outs = []) ∧
    (∃ t, exec (.gatewayRequestTimeout p) s = .next t ∧
      (∀ r ∈ t.img.net.bb.gw, ¬(r.path = p ∧ r.arrived + 500 ≤ s.img.now)) ∧
      (∀ r ∈ s.img.net.bb.gw, r.path = p → r.arrived + 500 ≤ s.img.now → t.sent p r.idx r.sub abTimeout [])) ∧
    (∃ t, exec (.tcpConnectionOpen p) s = .next t ∧
      (if s.img.net.bb.tcp.length < 4 then t.img.net.bb.tcp = s.img.net.bb.tcp ++ [p]
       else t.img.net.bb.tcp = s.img.net.bb.tcp ∧ .tcpRefused ∈ t.img.outs)) ∧
    (p ∈ s.img.net.bb.tcp →
      ∃ t, exec (.tcpConnectionClose p) s = .next t ∧ t.img.net.bb.tcp = s.img.net.bb.tcp.erase p ∧
        ∀ r ∈ t.img.net.bb.gw, ¬(r.tcp = true ∧ r.path = p))

/-- PTP_SYNC_RECEIVED that is valid shows its measurements and makes PTP the source unless SNTP is; SNTP_POLL queries
the first server, SNTP_REPLY in time shows state 1 and serves only once PTP is silent; SYNC_SOURCE_TIMEOUT with both
silent raises EV26, and the time runs free unless a write has set it; PTP_RETURN makes PTP the source again once it
has been valid for 10 s; WALL_TIME_SET makes the write the source. (R202, R206, R501, R502) -/
def Obligations.TimeSources : Prop :=
  ∀ s : State, s.running = true →
    (∀ (off : Int) (delay gm : Nat) (utc : Int) (interval : Nat), s.img.reg 0x290A 1 ≠ 0 → delay < 10000000 →
      ∃ t, exec (.ptpSyncReceived off delay gm utc ⟨true, interval⟩) s = .next t ∧ t.img.clk.lastPtp = some s.img.now ∧
        t.img.reg 0x290A 3 = 9 ∧ t.img.reg 0x290A 5 = delay ∧ t.img.ptpValid = true ∧
        t.img.reg 0x290A 8 = wrap (regBits 0x290A 8) (s.img.reg 0x290A 8 + 1) ∧
        (s.img.clk.source ≠ 2 → t.img.clk.source = 1 ∧ t.img.evActive 26 modScope = false)) ∧
    (s.img.net.bb.sntp = none → s.img.net.bb.sntpDue ≤ s.img.now → s.img.reg 0x290B 1 ≠ 0 →
      ∃ t, exec .sntpPoll s = .next t ∧ t.img.net.bb.sntp = some (1, s.img.now) ∧
        .sntpQuery (s.img.reg 0x290B 1) (s.img.vlanId false) ∈ t.img.outs ∧ t.img.net.bb.sntpDue = s.img.now + 1000 * s.img.reg 0x290B 3) ∧
    (∀ (n f utc stratum : Nat), s.img.net.bb.sntp = some (n, f) → s.img.now ≤ f + 1000 → 1 ≤ stratum → stratum ≤ 15 →
      ∃ t, exec (.sntpReply utc stratum false) s = .next t ∧ t.img.reg 0x290B 4 = 1 ∧ t.img.net.bb.sntp = none ∧
        t.img.clk.lastSntp = some s.img.now ∧
        (s.img.ptpLate = true → t.img.clk.source = 2) ∧ (s.img.ptpLate = false → t.img.clk.source = s.img.clk.source)) ∧
    (∀ f g : Nat, s.img.clk.lastPtp = some f → s.img.clk.lastSntp = some g → f + 1000 * s.img.reg 0x2104 5 ≤ s.img.now →
      g + 1000 * s.img.reg 0x2104 5 ≤ s.img.now →
      ∃ t, exec .syncSourceTimeout s = .next t ∧ t.img.evActive 26 modScope = true ∧ t.img.clk.ptpRunSince = none ∧
        t.img.clk.source = (if s.img.clk.source = 3 then 3 else 0)) ∧
    (s.img.clk.source = 2 → s.img.ptpValid = true → s.img.elapsed s.img.clk.ptpRunSince 10000 = true →
      ∃ t, exec .ptpReturn s = .next t ∧ s.imageOnly t ∧
        t.img = { s.img with outs := [], clk := { s.img.clk with source := 1 } }) ∧
    (∀ p : Path, s.takes p 0x2103 3 [1] → ((s.img.clk.source = 1 ∨ s.img.clk.source = 2) → s.img.reg 0x2104 6 ≠ 0) →
      ∃ t, exec (.wallTimeSet p) s = .next t ∧ t.img.clk.source = 3 ∧ t.img.clk.boundFrom = s.img.now ∧ t.owes p 0x2103 3)

/-- DICTIONARY_WRITE that passes its checks waits for section D of the next frame, one that fails is answered with its
code and changes nothing that is due; the three stores begin and STORE_COMPLETE makes the new set current or keeps
the old one; the three restores mark their sets; MODE_SELECT_WRITE changes the mode selected, not the one in force.
(R510, R511, R512, R520, R521, R525) -/
def Obligations.DictionaryAndStoredSets : Prop :=
  ∀ (s : State) (p : Path),
    (∀ (idx sub : Nat) (data : Bytes), (s.running = true ∨ s.lining = true) →
      ((s.hush.checkWrite p idx sub data).code = 0 →
        exec (.dictionaryWrite p idx sub data) s =
          .next { s with img := { s.img with outs := [], due := s.img.due ++ [⟨p, idx, sub, data, false⟩] } }) ∧
      ((s.hush.checkWrite p idx sub data).code ≠ 0 → (∀ n, p ≠ .rpdo n) → p ≠ .trdp →
        ∃ t, exec (.dictionaryWrite p idx sub data) s = .next t ∧ t.img.due = s.img.due ∧
          t.sent p idx sub (s.hush.checkWrite p idx sub data).code [])) ∧
    (∀ sig : Nat,
      (s.takes p 0x1010 1 (le 4 sig) →
        ∃ t, exec (.storeAll p sig) s = .next t ∧ t.img.net.upd.store = some (1, p, none)) ∧
      (s.takes p 0x1010 2 (le 4 sig) →
        ∃ t, exec (.storeCommunication p sig) s = .next t ∧ t.img.net.upd.store = some (2, p, none)) ∧
      (s.takes p 0x1010 3 (le 4 sig) →
        ∃ t, exec (.storeApplication p sig) s = .next t ∧ t.img.net.upd.store = some (3, p, none)) ∧
      (s.takes p 0x1011 1 (le 4 sig) →
        ∃ t, exec (.restoreAll p sig) s = .next t ∧ t.img.restoreComm = true ∧ t.img.restoreApp = true ∧ t.owes p 0x1011 1) ∧
      (s.takes p 0x1011 2 (le 4 sig) →
        ∃ t, exec (.restoreCommunication p sig) s = .next t ∧ t.img.restoreComm = true ∧
          t.img.restoreApp = s.img.restoreApp ∧ t.owes p 0x1011 2) ∧
      (s.takes p 0x1011 3 (le 4 sig) →
        ∃ t, exec (.restoreApplication p sig) s = .next t ∧ t.img.restoreComm = s.img.restoreComm ∧
          t.img.restoreApp = true ∧ t.owes p 0x1011 3)) ∧
    (∀ (set : Nat) (q : Path) (new : RegFile) (ok : Bool), s.running = true → s.img.net.upd.store = some (set, q, some new) →
      ∃ t, exec (.storeComplete ok) s = .next t ∧ t.img.net.upd.store = none ∧
        t.img.stored = (if ok then new else s.img.stored) ∧
        t.nor.get s.owner = (if ok then new else s.nor.get s.owner)) ∧
    (∀ v : Nat, v < 256 → s.takes p 0x2FF0 2 [v] →
      ∃ t, exec (.modeSelectWrite p v) s = .next t ∧ t.img.reg 0x2FF0 2 = v ∧ t.img.reg 0x2FF0 1 = s.img.reg 0x2FF0 1 ∧
        t.owes p 0x2FF0 2)

/-- In Overlay mode LEGACY_STAGED_WRITE of an object that goes into a staged set appends its native entry; G_RECORD_READ
answers with the G-records from the read position; G_RECORD_CLEAR sets the G-record floor past the newest record.
(R538, R550, R551, R556) -/
def Obligations.OverlayRules : Prop :=
  ∀ s : State, s.running = true → s.img.overlay = true →
    (∀ (idx sub v ni ns x : Nat) (d : Door) (r : ObjRow), 0x2000 ≤ idx → s.img.legacyAt .sdo1 idx = true →
      s.img.rowFor .sdo1 idx sub = some r → s.hush.checkWrite .sdo1 idx sub (le r.ty.bytes v) = Verdict.ok →
      s.img.legacyTarget idx sub (ofLe (le r.ty.bytes v)) = some (ni, ns, x) → s.img.legacyStage idx = some d →
      ∃ t, exec (.legacyStagedWrite idx sub v) s = .next t ∧
        (t.img.door d).staged = (s.img.door d).staged ++ [⟨ni, ns, stagedValue ni ns x⟩]) ∧
    (∀ p : Path, s.checkRead p 0x2005 1 = 0 → s.img.legacy p = true →
      ∃ t, exec (.gRecordRead p) s = .next t ∧ t.sent p 0x2005 1 0 s.hush.readG.1) ∧
    (∀ p : Path, s.img.legacyAt p 0x2007 = true → s.hush.checkWrite p 0x2007 1 [1] = Verdict.ok →
      ∃ t, exec (.gRecordClear p) s = .next t ∧ t.img.rcd.gFloor = s.img.reg 0x2700 2 + 1 ∧ t.owes p 0x2007 1)

/-- UPDATE_PREPARE begins the erase and PREPARE_COMPLETE ends it with both idle slots empty; UPDATE_CHUNK appends its
bytes; UPDATE_VERIFY ends verified or with the code of R568; UPDATE_LEAPFROG and UPDATE_ROLLBACK restart the other
lane first; LEAPFROG_STEP_DONE goes on or ends the update; UPDATE_ABORT ends it, a leapfrog at its next step;
SERVICE_WINDOW_UPDATE restarts both lanes; CHUNK_REPORT_TIMEOUT lets the load go on. (R561, R562, R563, R565, R566,
R568) -/
def Obligations.UpdateRules : Prop :=
  ∀ (s : State) (p : Path),
    (s.takes p 0x2800 1 [1] →
      ∃ t, exec (.updatePrepare p) s = .next t ∧ t.img.reg 0x2800 2 = 1 ∧ t.img.net.upd.load = [] ∧ t.owes p 0x2800 1) ∧
    ((s.running = true ∨ s.lining = true) → s.img.reg 0x2800 2 = 1 →
      ∃ t, exec .prepareComplete s = .next t ∧ t.img.reg 0x2800 2 = 2 ∧ ∀ l : Lane, t.slotState l (s.idleSlot l) = 0) ∧
    (∀ data : Bytes, s.takes p 0x2801 2 data →
      ∃ t, exec (.updateChunk p data) s = .next t ∧ t.img.net.upd.load = s.img.net.upd.load ++ data ∧
        (if s.qualified = true then t.img.net.upd.chunkSince = some s.img.now ∧ t.img.net.upd.chunkPath = some p
         else t.owes p 0x2801 2)) ∧
    (∀ r : Nat, s.takes p 0x2800 1 [2] →
      r = (if verifyImage s.img.net.upd.load (s.img.reg 0x2806 2) ≠ 0 then verifyImage s.img.net.upd.load (s.img.reg 0x2806 2)
        else verifyImage s.img.net.upd.load (s.img.reg 0x2806 3)) →
      ∃ t, exec (.updateVerify p) s = .next t ∧ t.img.reg 0x2800 2 = (if r = 0 then 3 else 0) ∧ t.img.reg 0x2800 3 = wrap 8 r) ∧
    (∀ l : Lane, s.activeLane = some l →
      (s.takes p 0x2800 1 [3] → s.img.reg 0x2800 2 = 3 →
        ∃ t, exec (.updateLeapfrog p) s = .next t ∧ t.img.reg 0x2800 2 = 4 ∧
          t.img.net.upd.leap = .running false 3 l.other false ∧ (t.lanes.get l.other).st = .starting) ∧
      (s.takes p 0x2800 1 [4] →
        ∃ t, exec (.updateRollback p) s = .next t ∧ t.img.reg 0x2800 2 = 5 ∧
          t.img.net.upd.leap = .running true 3 l.other false ∧ (t.lanes.get l.other).st = .starting)) ∧
    (∀ (rb : Bool) (l : Lane), s.running = true → s.img.net.upd.leap = .running rb 4 l false →
      (s.qualified = true →
        ∃ t, exec (.leapfrogStepDone true) s = .next t ∧ t.img.net.upd.leap = .running rb 7 l false ∧ t.img.reg 0x2800 4 = 4) ∧
      (∃ t, exec (.leapfrogStepDone false) s = .next t ∧ t.img.net.upd.leap = .none ∧ t.img.reg 0x2800 2 = 0 ∧
        t.img.reg 0x2800 3 = 5 ∧ t.img.reg 0x2800 4 = 10)) ∧
    (s.takes p 0x2800 1 [5] →
      (s.img.net.upd.leap = .none →
        ∃ t, exec (.updateAbort p) s = .next t ∧ t.img.reg 0x2800 2 = 0 ∧ t.img.reg 0x2800 3 = 8) ∧
      (∀ (rb : Bool) (n : Nat) (l : Lane) (b : Bool), s.img.net.upd.leap = .running rb n l b →
        ∃ t, exec (.updateAbort p) s = .next t ∧ t.img.net.upd.leap = .running rb n l true)) ∧
    (s.takes p 0x2800 1 [6] →
      ∃ t, exec (.serviceWindowUpdate p) s = .next t ∧ t.lanes.a.st = .starting ∧ t.lanes.b.st = .starting ∧
        t.img.net.upd.windowUpdate = true) ∧
    (∀ f : Nat, s.running = true → s.img.net.upd.chunkSince = some f → f + 500 ≤ s.img.now →
      ∃ t, exec .chunkReportTimeout s = .next t ∧ t.img.net.upd.chunkSince = none ∧ t.img.net.upd.chunkPath = none)

/-- AUTHORISATION_CHALLENGE issues a challenge; AUTHORISATION_RESPONSE opens the authorisation on a match, and on a
mismatch discards the challenge with EV21; AUTHORISATION_CLOSE, CHALLENGE_EXPIRY, AUTHORISATION_TIMEOUT and
AUTHORISATION_LOCKOUT_END end what they name; MAINTENANCE_KEY_WRITE closes every authorisation; SERVICE_WINDOW_OPEN,
_CLOSE and _EXPIRY set and end the window; DOORWAY_BLOCK_IMPORT waits for its doorway. (R566, R567, R569, R571) -/
def Obligations.AuthorisationRules : Prop :=
  ∀ (s : State) (p : Path),
    (s.takes p 0x2804 1 [1] →
      ∃ t, exec (.authorisationChallenge p) s = .next t ∧
        (t.img.auth p).challenge = some (be 8 (Config.challenge s.img.net.upd.issued).toNat, s.img.now) ∧
        t.img.net.upd.issued = s.img.net.upd.issued + 1 ∧ t.owes p 0x2804 1) ∧
    (∀ resp : Bytes, s.takes p 0x2804 3 resp →
      (s.img.expectedResponse p = some resp →
        ∃ t, exec (.authorisationResponse p resp) s = .next t ∧ (t.img.auth p).openedAt = some s.img.now ∧
          (t.img.auth p).challenge = none ∧ t.owes p 0x2804 3) ∧
      (s.img.expectedResponse p ≠ some resp →
        ∃ t, exec (.authorisationResponse p resp) s = .next t ∧ (t.img.auth p).openedAt = (s.img.auth p).openedAt ∧
          (t.img.auth p).challenge = none ∧ t.img.shown 21 modScope = true)) ∧
    (s.takes p 0x2804 1 [2] →
      ∃ t, exec (.authorisationClose p) s = .next t ∧ (t.img.auth p).openedAt = none ∧ (t.img.auth p).challenge = none ∧
        t.owes p 0x2804 1) ∧
    ((s.running = true ∨ s.lining = true) →
      (∀ c : Bytes × Nat, (s.img.auth p).challenge = some c → c.2 + 60000 ≤ s.img.now →
        ∃ t, exec (.challengeExpiry p) s = .next t ∧ (t.img.auth p).challenge = none ∧
          (t.img.auth p).openedAt = (s.img.auth p).openedAt) ∧
      (∀ f : Nat, (s.img.auth p).openedAt = some f →
        (f + 1000 * s.img.reg 0x2805 2 ≤ s.img.now ∨ (s.img.auth p).lastRwa + 1000 * s.img.reg 0x2805 1 ≤ s.img.now) →
        ∃ t, exec (.authorisationTimeout p) s = .next t ∧ (t.img.auth p).openedAt = none) ∧
      (∀ f : Nat, (s.img.auth p).lockedAt = some f → f + 1000 * s.img.reg 0x2805 4 ≤ s.img.now →
        ∃ t, exec (.authorisationLockoutEnd p) s = .next t ∧ (t.img.auth p).lockedAt = none)) ∧
    (∀ k : Bytes, s.takes p 0x2807 1 k →
      ∃ t, exec (.maintenanceKeyWrite p k) s = .next t ∧ t.img.net.upd.key = some k ∧
        (∀ q : Path, (t.img.auth q).openedAt = none) ∧ t.img.reg 0x2807 2 = 1) ∧
    (s.takes p 0x2809 1 [1] →
      ∃ t, exec (.serviceWindowOpen p) s = .next t ∧ t.img.net.upd.windowAt = some s.img.clk.opMs ∧ t.owes p 0x2809 1) ∧
    (s.takes p 0x2809 1 [2] →
      ∃ t, exec (.serviceWindowClose p) s = .next t ∧ t.img.net.upd.windowAt = none ∧ t.owes p 0x2809 1) ∧
    (∀ f : Nat, s.running = true → s.img.net.upd.windowAt = some f → f + 1000 * s.img.reg 0x2809 3 ≤ s.img.clk.opMs →
      s.img.net.upd.windowUpdate = false →
      ∃ t, exec .serviceWindowExpiry s = .next t ∧ t.img.net.upd.windowAt = none) ∧
    (∀ (data : Bytes) (d : Door), s.takes p 0x280A 3 data → subDoor (s.img.reg 0x280A 1) = some d →
      ∃ t, exec (.doorwayBlockImport p data) s = .next t ∧ t.img.net.upd.imports = some (d.val, entriesOf data) ∧
        (t.img.door d).staged = [] ∧ t.img.dreg d 0x15 4 = 1)

/-- TEST_EVENT shows one occurrence of its event in the module scope without a latch and counts it in 0x250D:02 alone;
RESTORE_REACTION_DEFAULTS restores the mask, the reaction bytes and the hold time; OCCURRENCE_HOLD_EXPIRY ends the
holds that are over and keeps the others. (R582, R589, R590) -/
def Obligations.EventServiceRules : Prop :=
  ∀ s : State,
    (∀ (p : Path) (n : Nat), n < 64 → s.takes p 0x250D 1 [n] →
      ∃ t, exec (.testEvent p n) s = .next t ∧ t.img.shown n modScope = true ∧
        t.img.reg 0x250D 2 = wrap (regBits 0x250D 2) (s.img.reg 0x250D 2 + 1) ∧
        t.img.reg 0x2506 (n + 1) = s.img.reg 0x2506 (n + 1) ∧ (∀ m scope, t.img.isLatched m scope = s.img.isLatched m scope) ∧
        t.owes p 0x250D 1) ∧
    (∀ p : Path, s.takes p 0x250F 1 [1] →
      ∃ t, exec (.restoreReactionDefaults p) s = .next t ∧ t.img.reg 0x2501 1 = 0 ∧
        (∀ n : Nat, n < 64 → t.img.reaction n = (evRow n).byte) ∧ t.img.reg 0x250A 1 = regDefault 0x250A 1 ∧ t.owes p 0x250F 1) ∧
    (∀ (scope : Fin 13) (n : Fin 64), s.running = true →
      ∃ t, exec (.occurrenceHoldExpiry scope n) s = .next t ∧
        (∀ h ∈ (t.img.ev.scopes.get scope).holds, ¬(h.1 = n.val ∧ h.2 ≤ s.img.now)) ∧
        (∀ h ∈ (s.img.ev.scopes.get scope).holds, ¬(h.1 = n.val ∧ h.2 ≤ s.img.now) → h ∈ (t.img.ev.scopes.get scope).holds))

/-- Every reserved index is present: its sub 0x00 is UNSIGNED8 and RO and reads 0, any other sub answers abort 0x0609
0011, it is never mappable and never stored. (R514) -/
def Obligations.ReservedIndices : Prop :=
  ∀ idx : Nat, isReserved idx = true →
    nativePlace idx ≠ .absent ∧ (nativeRow idx 0).map (fun r => (r.ty, r.acc)) = some (.u8, .ro) ∧
    (∀ (s : State) (p : Path), s.img.legacyAt p idx = false → s.lining = false →
      s.img.indexFor p idx = true ∧ s.checkRead p idx 0 = (if isGateway p && s.img.reg 0x2909 1 == 0 then abPath else 0) ∧
      s.readOn s.img p idx 0 = [0] ∧
      (∀ sub : Nat, sub ≠ 0 → s.checkRead p idx sub = 0x06090011 ∧ ∀ data, (s.checkWrite p idx sub data).code = 0x06090011) ∧
      (∀ (rpdo : Bool) (entry : Nat), entry / 0x10000 = idx → s.img.mappable p rpdo entry = false)) ∧
    (∀ (set sub : Nat), sub < 256 → inSet set (key idx sub) = false)

/-- A condition event that is raised and cleared within one frame enters the FIFO with both transitions, raised first,
where its reaction byte records it and the FIFO has room; the event word of its scope shows it for the hold time of
0x250A:01. (R586) -/
def Obligations.EventRaisedAndClearedInOneFrame : Prop :=
  ∀ (im : Image) (n : Nat) (scope : Fin 13) (up down : Source), n < 64 → n ≠ 24 → im.speaks n scope = true → im.evActive n scope = false →
    bitOf (im.ev.scopes.get scope).latched n = false → bitOf (im.reaction n) 0 = true → im.rcd.fifo.length + 2 ≤ 960 →
    (∃ e f : FifoEntry, ((im.raise n scope up).clearEv n scope down).rcd.fifo = im.rcd.fifo ++ [e, f] ∧
      e.ev = n ∧ e.tr = .raised ∧ e.scope = scope.val ∧ e.src = up ∧ f.ev = n ∧ f.tr = .cleared ∧ f.scope = scope.val ∧
      f.src = down) ∧
    (∀ k : Nat, k ≤ im.reg 0x250A 1 →
      bitOf ((((im.raise n scope up).clearEv n scope down).ev.scopes.get scope).word (im.now + k)) n = true)

/-- A transaction whose address fails its parity check drives 0xFFFF_FFFF and the complement of the CRC of that word
number and data, no further word, and counts in 0x2310:03. (R93) -/
def Obligations.WrongParityOfAMirrorAddress : Prop :=
  ∀ (s : State) (w : Fin 16) (par : Bool) (edges start : Nat), s.powered = true → s.img.reg 0x230F 1 ≠ 0 →
    s.mirror.active = none → mirrorParity w.val par = false → 5 ≤ edges →
    ∃ t, exec (.mirrorTransaction w par edges start) s = .next t ∧
      t.img.outs = [if 44 ≤ edges then .mirror w.val 0xFFFFFFFF (255 - mirrorCrc w.val 0xFFFFFFFF)
        else .mirrorPart w.val (edges - 4) ((0xFFFFFFFF * 256 + (255 - mirrorCrc w.val 0xFFFFFFFF)) / 2 ^ (44 - edges))] ∧
      t.img.reg 0x2310 3 = wrap (regBits 0x2310 3) (s.img.reg 0x2310 3 + 1)

/-- The commands of the networks, the time sources, the recorder's stores, the supply's measurements and the lanes' own
checks change no doorway, axis, channel, train output, permit or loop, no hold cell and no grant. (R7, R14, R186,
R446, R486) -/
def Obligations.CommandsThatMoveNothing : Prop :=
  ∀ (i : Instr) (s : State), movesNothing i = true →
    ∃ t, exec i s = .next t ∧ t.img.plant = s.img.plant ∧ t.hold = s.hold ∧ t.granted = s.granted

/-- With no lane running the module, none in Lining mode and no port controller started, every command but those of the
hardware that acts on its own (power, stitches, Buckle, lanes, Seam, channel protection, comparators, Mirror, backup
domain, stores) leaves everything but the record of what was sent as it was. (R7, R327, R378) -/
def Obligations.WithoutALaneNothingHappens : Prop :=
  ∀ (i : Instr) (s : State), needsLane i = true → s.running = false → s.lining = false → s.portsUp = false →
    exec i s = .next { s with img := { s.img with outs := [] } }
end

