-- ==== Sys2Proof/Laws/State.lean ====
section
/-! SUPPORT. What each update of the state changes, field by field. -/

namespace Sys2Proof.Machine

@[simp] theorem State.hush_powered (s : State) : (s.hush).powered = s.powered := rfl
@[simp] theorem State.hush_tick (s : State) : (s.hush).tick = s.tick := rfl
@[simp] theorem State.hush_img (s : State) : (s.hush).img = { s.img with outs := [] } := rfl
@[simp] theorem State.hush_sealed (s : State) : (s.hush).sealed = s.sealed := rfl
@[simp] theorem State.hush_committed (s : State) : (s.hush).committed = s.committed := rfl
@[simp] theorem State.hush_shadow (s : State) : (s.hush).shadow = s.shadow := rfl
@[simp] theorem State.hush_trail (s : State) : (s.hush).trail = s.trail := rfl
@[simp] theorem State.hush_trailG (s : State) : (s.hush).trailG = s.trailG := rfl
@[simp] theorem State.hush_before (s : State) : (s.hush).before = s.before := rfl
@[simp] theorem State.hush_release (s : State) : (s.hush).release = s.release := rfl
@[simp] theorem State.hush_landing (s : State) : (s.hush).landing = s.landing := rfl
@[simp] theorem State.hush_work (s : State) : (s.hush).work = s.work := rfl
@[simp] theorem State.hush_owner (s : State) : (s.hush).owner = s.owner := rfl
@[simp] theorem State.hush_buckle (s : State) : (s.hush).buckle = s.buckle := rfl
@[simp] theorem State.hush_lanes (s : State) : (s.hush).lanes = s.lanes := rfl
@[simp] theorem State.hush_seam (s : State) : (s.hush).seam = s.seam := rfl
@[simp] theorem State.hush_hold (s : State) : (s.hush).hold = s.hold := rfl
@[simp] theorem State.hush_takeover (s : State) : (s.hush).takeover = s.takeover := rfl
@[simp] theorem State.hush_handoverAcked (s : State) : (s.hush).handoverAcked = s.handoverAcked := rfl
@[simp] theorem State.hush_rerun (s : State) : (s.hush).rerun = s.rerun := rfl
@[simp] theorem State.hush_drained (s : State) : (s.hush).drained = s.drained := rfl
@[simp] theorem State.hush_bus (s : State) : (s.hush).bus = s.bus := rfl
@[simp] theorem State.hush_mirror (s : State) : (s.hush).mirror = s.mirror := rfl
@[simp] theorem State.hush_stores (s : State) : (s.hush).stores = s.stores := rfl
@[simp] theorem State.hush_nor (s : State) : (s.hush).nor = s.nor := rfl
@[simp] theorem State.hush_pending (s : State) : (s.hush).pending = s.pending := rfl
@[simp] theorem State.edit_powered (s : State) (f : Image → Image) : (s.edit f).powered = s.powered := rfl
@[simp] theorem State.edit_tick (s : State) (f : Image → Image) : (s.edit f).tick = s.tick := rfl
@[simp] theorem State.edit_img (s : State) (f : Image → Image) : (s.edit f).img = f s.img := rfl
@[simp] theorem State.edit_sealed (s : State) (f : Image → Image) : (s.edit f).sealed = s.sealed := rfl
@[simp] theorem State.edit_committed (s : State) (f : Image → Image) : (s.edit f).committed = s.committed := rfl
@[simp] theorem State.edit_shadow (s : State) (f : Image → Image) : (s.edit f).shadow = s.shadow := rfl
@[simp] theorem State.edit_trail (s : State) (f : Image → Image) : (s.edit f).trail = s.trail := rfl
@[simp] theorem State.edit_trailG (s : State) (f : Image → Image) : (s.edit f).trailG = s.trailG := rfl
@[simp] theorem State.edit_before (s : State) (f : Image → Image) : (s.edit f).before = s.before := rfl
@[simp] theorem State.edit_release (s : State) (f : Image → Image) : (s.edit f).release = s.release := rfl
@[simp] theorem State.edit_landing (s : State) (f : Image → Image) : (s.edit f).landing = s.landing := rfl
@[simp] theorem State.edit_work (s : State) (f : Image → Image) : (s.edit f).work = s.work := rfl
@[simp] theorem State.edit_owner (s : State) (f : Image → Image) : (s.edit f).owner = s.owner := rfl
@[simp] theorem State.edit_buckle (s : State) (f : Image → Image) : (s.edit f).buckle = s.buckle := rfl
@[simp] theorem State.edit_lanes (s : State) (f : Image → Image) : (s.edit f).lanes = s.lanes := rfl
@[simp] theorem State.edit_seam (s : State) (f : Image → Image) : (s.edit f).seam = s.seam := rfl
@[simp] theorem State.edit_hold (s : State) (f : Image → Image) : (s.edit f).hold = s.hold := rfl
@[simp] theorem State.edit_takeover (s : State) (f : Image → Image) : (s.edit f).takeover = s.takeover := rfl
@[simp] theorem State.edit_handoverAcked (s : State) (f : Image → Image) : (s.edit f).handoverAcked = s.handoverAcked := rfl
@[simp] theorem State.edit_rerun (s : State) (f : Image → Image) : (s.edit f).rerun = s.rerun := rfl
@[simp] theorem State.edit_drained (s : State) (f : Image → Image) : (s.edit f).drained = s.drained := rfl
@[simp] theorem State.edit_bus (s : State) (f : Image → Image) : (s.edit f).bus = s.bus := rfl
@[simp] theorem State.edit_mirror (s : State) (f : Image → Image) : (s.edit f).mirror = s.mirror := rfl
@[simp] theorem State.edit_stores (s : State) (f : Image → Image) : (s.edit f).stores = s.stores := rfl
@[simp] theorem State.edit_nor (s : State) (f : Image → Image) : (s.edit f).nor = s.nor := rfl
@[simp] theorem State.edit_pending (s : State) (f : Image → Image) : (s.edit f).pending = s.pending := rfl
@[simp] theorem State.onLane_powered (s : State) (l : Lane) (f : LaneState → LaneState) : (s.onLane l f).powered = s.powered := rfl
@[simp] theorem State.onLane_tick (s : State) (l : Lane) (f : LaneState → LaneState) : (s.onLane l f).tick = s.tick := rfl
@[simp] theorem State.onLane_img (s : State) (l : Lane) (f : LaneState → LaneState) : (s.onLane l f).img = s.img := rfl
@[simp] theorem State.onLane_sealed (s : State) (l : Lane) (f : LaneState → LaneState) : (s.onLane l f).sealed = s.sealed := rfl
@[simp] theorem State.onLane_committed (s : State) (l : Lane) (f : LaneState → LaneState) : (s.onLane l f).committed = s.committed := rfl
@[simp] theorem State.onLane_shadow (s : State) (l : Lane) (f : LaneState → LaneState) : (s.onLane l f).shadow = s.shadow := rfl
@[simp] theorem State.onLane_trail (s : State) (l : Lane) (f : LaneState → LaneState) : (s.onLane l f).trail = s.trail := rfl
@[simp] theorem State.onLane_trailG (s : State) (l : Lane) (f : LaneState → LaneState) : (s.onLane l f).trailG = s.trailG := rfl
@[simp] theorem State.onLane_before (s : State) (l : Lane) (f : LaneState → LaneState) : (s.onLane l f).before = s.before := rfl
@[simp] theorem State.onLane_release (s : State) (l : Lane) (f : LaneState → LaneState) : (s.onLane l f).release = s.release := rfl
@[simp] theorem State.onLane_landing (s : State) (l : Lane) (f : LaneState → LaneState) : (s.onLane l f).landing = s.landing := rfl
@[simp] theorem State.onLane_work (s : State) (l : Lane) (f : LaneState → LaneState) : (s.onLane l f).work = s.work := rfl
@[simp] theorem State.onLane_owner (s : State) (l : Lane) (f : LaneState → LaneState) : (s.onLane l f).owner = s.owner := rfl
@[simp] theorem State.onLane_buckle (s : State) (l : Lane) (f : LaneState → LaneState) : (s.onLane l f).buckle = s.buckle := rfl
@[simp] theorem State.onLane_lanes (s : State) (l : Lane) (f : LaneState → LaneState) : (s.onLane l f).lanes = s.lanes.on l f := rfl
@[simp] theorem State.onLane_seam (s : State) (l : Lane) (f : LaneState → LaneState) : (s.onLane l f).seam = s.seam := rfl
@[simp] theorem State.onLane_hold (s : State) (l : Lane) (f : LaneState → LaneState) : (s.onLane l f).hold = s.hold := rfl
@[simp] theorem State.onLane_takeover (s : State) (l : Lane) (f : LaneState → LaneState) : (s.onLane l f).takeover = s.takeover := rfl
@[simp] theorem State.onLane_handoverAcked (s : State) (l : Lane) (f : LaneState → LaneState) : (s.onLane l f).handoverAcked = s.handoverAcked := rfl
@[simp] theorem State.onLane_rerun (s : State) (l : Lane) (f : LaneState → LaneState) : (s.onLane l f).rerun = s.rerun := rfl
@[simp] theorem State.onLane_drained (s : State) (l : Lane) (f : LaneState → LaneState) : (s.onLane l f).drained = s.drained := rfl
@[simp] theorem State.onLane_bus (s : State) (l : Lane) (f : LaneState → LaneState) : (s.onLane l f).bus = s.bus := rfl
@[simp] theorem State.onLane_mirror (s : State) (l : Lane) (f : LaneState → LaneState) : (s.onLane l f).mirror = s.mirror := rfl
@[simp] theorem State.onLane_stores (s : State) (l : Lane) (f : LaneState → LaneState) : (s.onLane l f).stores = s.stores := rfl
@[simp] theorem State.onLane_nor (s : State) (l : Lane) (f : LaneState → LaneState) : (s.onLane l f).nor = s.nor := rfl
@[simp] theorem State.onLane_pending (s : State) (l : Lane) (f : LaneState → LaneState) : (s.onLane l f).pending = s.pending := rfl
@[simp] theorem State.onStore_powered (s : State) (l : Lane) (f : Store → Store) : (s.onStore l f).powered = s.powered := rfl
@[simp] theorem State.onStore_tick (s : State) (l : Lane) (f : Store → Store) : (s.onStore l f).tick = s.tick := rfl
@[simp] theorem State.onStore_img (s : State) (l : Lane) (f : Store → Store) : (s.onStore l f).img = s.img := rfl
@[simp] theorem State.onStore_sealed (s : State) (l : Lane) (f : Store → Store) : (s.onStore l f).sealed = s.sealed := rfl
@[simp] theorem State.onStore_committed (s : State) (l : Lane) (f : Store → Store) : (s.onStore l f).committed = s.committed := rfl
@[simp] theorem State.onStore_shadow (s : State) (l : Lane) (f : Store → Store) : (s.onStore l f).shadow = s.shadow := rfl
@[simp] theorem State.onStore_trail (s : State) (l : Lane) (f : Store → Store) : (s.onStore l f).trail = s.trail := rfl
@[simp] theorem State.onStore_trailG (s : State) (l : Lane) (f : Store → Store) : (s.onStore l f).trailG = s.trailG := rfl
@[simp] theorem State.onStore_before (s : State) (l : Lane) (f : Store → Store) : (s.onStore l f).before = s.before := rfl
@[simp] theorem State.onStore_release (s : State) (l : Lane) (f : Store → Store) : (s.onStore l f).release = s.release := rfl
@[simp] theorem State.onStore_landing (s : State) (l : Lane) (f : Store → Store) : (s.onStore l f).landing = s.landing := rfl
@[simp] theorem State.onStore_work (s : State) (l : Lane) (f : Store → Store) : (s.onStore l f).work = s.work := rfl
@[simp] theorem State.onStore_owner (s : State) (l : Lane) (f : Store → Store) : (s.onStore l f).owner = s.owner := rfl
@[simp] theorem State.onStore_buckle (s : State) (l : Lane) (f : Store → Store) : (s.onStore l f).buckle = s.buckle := rfl
@[simp] theorem State.onStore_lanes (s : State) (l : Lane) (f : Store → Store) : (s.onStore l f).lanes = s.lanes := rfl
@[simp] theorem State.onStore_seam (s : State) (l : Lane) (f : Store → Store) : (s.onStore l f).seam = s.seam := rfl
@[simp] theorem State.onStore_hold (s : State) (l : Lane) (f : Store → Store) : (s.onStore l f).hold = s.hold := rfl
@[simp] theorem State.onStore_takeover (s : State) (l : Lane) (f : Store → Store) : (s.onStore l f).takeover = s.takeover := rfl
@[simp] theorem State.onStore_handoverAcked (s : State) (l : Lane) (f : Store → Store) : (s.onStore l f).handoverAcked = s.handoverAcked := rfl
@[simp] theorem State.onStore_rerun (s : State) (l : Lane) (f : Store → Store) : (s.onStore l f).rerun = s.rerun := rfl
@[simp] theorem State.onStore_drained (s : State) (l : Lane) (f : Store → Store) : (s.onStore l f).drained = s.drained := rfl
@[simp] theorem State.onStore_bus (s : State) (l : Lane) (f : Store → Store) : (s.onStore l f).bus = s.bus := rfl
@[simp] theorem State.onStore_mirror (s : State) (l : Lane) (f : Store → Store) : (s.onStore l f).mirror = s.mirror := rfl
@[simp] theorem State.onStore_stores (s : State) (l : Lane) (f : Store → Store) : (s.onStore l f).stores = s.stores.on l f := rfl
@[simp] theorem State.onStore_nor (s : State) (l : Lane) (f : Store → Store) : (s.onStore l f).nor = s.nor := rfl
@[simp] theorem State.onStore_pending (s : State) (l : Lane) (f : Store → Store) : (s.onStore l f).pending = s.pending := rfl
@[simp] theorem State.onSeam_powered (s : State) (f : Seam → Seam) : (s.onSeam f).powered = s.powered := rfl
@[simp] theorem State.onSeam_tick (s : State) (f : Seam → Seam) : (s.onSeam f).tick = s.tick := rfl
@[simp] theorem State.onSeam_img (s : State) (f : Seam → Seam) : (s.onSeam f).img = s.img := rfl
@[simp] theorem State.onSeam_sealed (s : State) (f : Seam → Seam) : (s.onSeam f).sealed = s.sealed := rfl
@[simp] theorem State.onSeam_committed (s : State) (f : Seam → Seam) : (s.onSeam f).committed = s.committed := rfl
@[simp] theorem State.onSeam_shadow (s : State) (f : Seam → Seam) : (s.onSeam f).shadow = s.shadow := rfl
@[simp] theorem State.onSeam_trail (s : State) (f : Seam → Seam) : (s.onSeam f).trail = s.trail := rfl
@[simp] theorem State.onSeam_trailG (s : State) (f : Seam → Seam) : (s.onSeam f).trailG = s.trailG := rfl
@[simp] theorem State.onSeam_before (s : State) (f : Seam → Seam) : (s.onSeam f).before = s.before := rfl
@[simp] theorem State.onSeam_release (s : State) (f : Seam → Seam) : (s.onSeam f).release = s.release := rfl
@[simp] theorem State.onSeam_landing (s : State) (f : Seam → Seam) : (s.onSeam f).landing = s.landing := rfl
@[simp] theorem State.onSeam_work (s : State) (f : Seam → Seam) : (s.onSeam f).work = s.work := rfl
@[simp] theorem State.onSeam_owner (s : State) (f : Seam → Seam) : (s.onSeam f).owner = s.owner := rfl
@[simp] theorem State.onSeam_buckle (s : State) (f : Seam → Seam) : (s.onSeam f).buckle = s.buckle := rfl
@[simp] theorem State.onSeam_lanes (s : State) (f : Seam → Seam) : (s.onSeam f).lanes = s.lanes := rfl
@[simp] theorem State.onSeam_seam (s : State) (f : Seam → Seam) : (s.onSeam f).seam = f s.seam := rfl
@[simp] theorem State.onSeam_hold (s : State) (f : Seam → Seam) : (s.onSeam f).hold = s.hold := rfl
@[simp] theorem State.onSeam_takeover (s : State) (f : Seam → Seam) : (s.onSeam f).takeover = s.takeover := rfl
@[simp] theorem State.onSeam_handoverAcked (s : State) (f : Seam → Seam) : (s.onSeam f).handoverAcked = s.handoverAcked := rfl
@[simp] theorem State.onSeam_rerun (s : State) (f : Seam → Seam) : (s.onSeam f).rerun = s.rerun := rfl
@[simp] theorem State.onSeam_drained (s : State) (f : Seam → Seam) : (s.onSeam f).drained = s.drained := rfl
@[simp] theorem State.onSeam_bus (s : State) (f : Seam → Seam) : (s.onSeam f).bus = s.bus := rfl
@[simp] theorem State.onSeam_mirror (s : State) (f : Seam → Seam) : (s.onSeam f).mirror = s.mirror := rfl
@[simp] theorem State.onSeam_stores (s : State) (f : Seam → Seam) : (s.onSeam f).stores = s.stores := rfl
@[simp] theorem State.onSeam_nor (s : State) (f : Seam → Seam) : (s.onSeam f).nor = s.nor := rfl
@[simp] theorem State.onSeam_pending (s : State) (f : Seam → Seam) : (s.onSeam f).pending = s.pending := rfl
@[simp] theorem State.onBuckle_powered (s : State) (f : Buckle → Buckle) : (s.onBuckle f).powered = s.powered := rfl
@[simp] theorem State.onBuckle_tick (s : State) (f : Buckle → Buckle) : (s.onBuckle f).tick = s.tick := rfl
@[simp] theorem State.onBuckle_img (s : State) (f : Buckle → Buckle) : (s.onBuckle f).img = s.img := rfl
@[simp] theorem State.onBuckle_sealed (s : State) (f : Buckle → Buckle) : (s.onBuckle f).sealed = s.sealed := rfl
@[simp] theorem State.onBuckle_committed (s : State) (f : Buckle → Buckle) : (s.onBuckle f).committed = s.committed := rfl
@[simp] theorem State.onBuckle_shadow (s : State) (f : Buckle → Buckle) : (s.onBuckle f).shadow = s.shadow := rfl
@[simp] theorem State.onBuckle_trail (s : State) (f : Buckle → Buckle) : (s.onBuckle f).trail = s.trail := rfl
@[simp] theorem State.onBuckle_trailG (s : State) (f : Buckle → Buckle) : (s.onBuckle f).trailG = s.trailG := rfl
@[simp] theorem State.onBuckle_before (s : State) (f : Buckle → Buckle) : (s.onBuckle f).before = s.before := rfl
@[simp] theorem State.onBuckle_release (s : State) (f : Buckle → Buckle) : (s.onBuckle f).release = s.release := rfl
@[simp] theorem State.onBuckle_landing (s : State) (f : Buckle → Buckle) : (s.onBuckle f).landing = s.landing := rfl
@[simp] theorem State.onBuckle_work (s : State) (f : Buckle → Buckle) : (s.onBuckle f).work = s.work := rfl
@[simp] theorem State.onBuckle_owner (s : State) (f : Buckle → Buckle) : (s.onBuckle f).owner = s.owner := rfl
@[simp] theorem State.onBuckle_buckle (s : State) (f : Buckle → Buckle) : (s.onBuckle f).buckle = f s.buckle := rfl
@[simp] theorem State.onBuckle_lanes (s : State) (f : Buckle → Buckle) : (s.onBuckle f).lanes = s.lanes := rfl
@[simp] theorem State.onBuckle_seam (s : State) (f : Buckle → Buckle) : (s.onBuckle f).seam = s.seam := rfl
@[simp] theorem State.onBuckle_hold (s : State) (f : Buckle → Buckle) : (s.onBuckle f).hold = s.hold := rfl
@[simp] theorem State.onBuckle_takeover (s : State) (f : Buckle → Buckle) : (s.onBuckle f).takeover = s.takeover := rfl
@[simp] theorem State.onBuckle_handoverAcked (s : State) (f : Buckle → Buckle) : (s.onBuckle f).handoverAcked = s.handoverAcked := rfl
@[simp] theorem State.onBuckle_rerun (s : State) (f : Buckle → Buckle) : (s.onBuckle f).rerun = s.rerun := rfl
@[simp] theorem State.onBuckle_drained (s : State) (f : Buckle → Buckle) : (s.onBuckle f).drained = s.drained := rfl
@[simp] theorem State.onBuckle_bus (s : State) (f : Buckle → Buckle) : (s.onBuckle f).bus = s.bus := rfl
@[simp] theorem State.onBuckle_mirror (s : State) (f : Buckle → Buckle) : (s.onBuckle f).mirror = s.mirror := rfl
@[simp] theorem State.onBuckle_stores (s : State) (f : Buckle → Buckle) : (s.onBuckle f).stores = s.stores := rfl
@[simp] theorem State.onBuckle_nor (s : State) (f : Buckle → Buckle) : (s.onBuckle f).nor = s.nor := rfl
@[simp] theorem State.onBuckle_pending (s : State) (f : Buckle → Buckle) : (s.onBuckle f).pending = s.pending := rfl
@[simp] theorem State.dropWork_powered (s : State) : (s.dropWork).powered = s.powered := rfl
@[simp] theorem State.dropWork_tick (s : State) : (s.dropWork).tick = s.tick := rfl
@[simp] theorem State.dropWork_img (s : State) : (s.dropWork).img = s.img := rfl
@[simp] theorem State.dropWork_sealed (s : State) : (s.dropWork).sealed = s.sealed := rfl
@[simp] theorem State.dropWork_committed (s : State) : (s.dropWork).committed = s.committed := rfl
@[simp] theorem State.dropWork_shadow (s : State) : (s.dropWork).shadow = s.shadow := rfl
@[simp] theorem State.dropWork_trail (s : State) : (s.dropWork).trail = none := rfl
@[simp] theorem State.dropWork_trailG (s : State) : (s.dropWork).trailG = [] := rfl
@[simp] theorem State.dropWork_before (s : State) : (s.dropWork).before = none := rfl
@[simp] theorem State.dropWork_release (s : State) : (s.dropWork).release = none := rfl
@[simp] theorem State.dropWork_landing (s : State) : (s.dropWork).landing = none := rfl
@[simp] theorem State.dropWork_work (s : State) : (s.dropWork).work = none := rfl
@[simp] theorem State.dropWork_owner (s : State) : (s.dropWork).owner = s.owner := rfl
@[simp] theorem State.dropWork_buckle (s : State) : (s.dropWork).buckle = s.buckle := rfl
@[simp] theorem State.dropWork_lanes (s : State) : (s.dropWork).lanes = s.lanes := rfl
@[simp] theorem State.dropWork_seam (s : State) : (s.dropWork).seam = s.seam := rfl
@[simp] theorem State.dropWork_hold (s : State) : (s.dropWork).hold = s.hold := rfl
@[simp] theorem State.dropWork_takeover (s : State) : (s.dropWork).takeover = s.takeover := rfl
@[simp] theorem State.dropWork_handoverAcked (s : State) : (s.dropWork).handoverAcked = s.handoverAcked := rfl
@[simp] theorem State.dropWork_rerun (s : State) : (s.dropWork).rerun = s.rerun := rfl
@[simp] theorem State.dropWork_drained (s : State) : (s.dropWork).drained = s.drained := rfl
@[simp] theorem State.dropWork_bus (s : State) : (s.dropWork).bus = s.bus := rfl
@[simp] theorem State.dropWork_mirror (s : State) : (s.dropWork).mirror = s.mirror := rfl
@[simp] theorem State.dropWork_stores (s : State) : (s.dropWork).stores = s.stores := rfl
@[simp] theorem State.dropWork_nor (s : State) : (s.dropWork).nor = s.nor := rfl
@[simp] theorem State.dropWork_pending (s : State) : (s.dropWork).pending = s.pending := rfl
@[simp] theorem State.both_powered (s : State) (f : Image → Image) : (s.both f).powered = s.powered := rfl
@[simp] theorem State.both_tick (s : State) (f : Image → Image) : (s.both f).tick = s.tick := rfl
@[simp] theorem State.both_img (s : State) (f : Image → Image) : (s.both f).img = f s.img := rfl
@[simp] theorem State.both_sealed (s : State) (f : Image → Image) : (s.both f).sealed = s.sealed := rfl
@[simp] theorem State.both_committed (s : State) (f : Image → Image) : (s.both f).committed = s.committed := rfl
@[simp] theorem State.both_shadow (s : State) (f : Image → Image) : (s.both f).shadow = s.shadow := rfl
@[simp] theorem State.both_trail (s : State) (f : Image → Image) : (s.both f).trail = s.trail.map (fun t => { f t with outs := [] }) := rfl
@[simp] theorem State.both_trailG (s : State) (f : Image → Image) : (s.both f).trailG = s.trailG := rfl
@[simp] theorem State.both_before (s : State) (f : Image → Image) : (s.both f).before = s.before := rfl
@[simp] theorem State.both_release (s : State) (f : Image → Image) : (s.both f).release = s.release := rfl
@[simp] theorem State.both_landing (s : State) (f : Image → Image) : (s.both f).landing = s.landing := rfl
@[simp] theorem State.both_work (s : State) (f : Image → Image) : (s.both f).work = s.work := rfl
@[simp] theorem State.both_owner (s : State) (f : Image → Image) : (s.both f).owner = s.owner := rfl
@[simp] theorem State.both_buckle (s : State) (f : Image → Image) : (s.both f).buckle = s.buckle := rfl
@[simp] theorem State.both_lanes (s : State) (f : Image → Image) : (s.both f).lanes = s.lanes := rfl
@[simp] theorem State.both_seam (s : State) (f : Image → Image) : (s.both f).seam = s.seam := rfl
@[simp] theorem State.both_hold (s : State) (f : Image → Image) : (s.both f).hold = s.hold := rfl
@[simp] theorem State.both_takeover (s : State) (f : Image → Image) : (s.both f).takeover = s.takeover := rfl
@[simp] theorem State.both_handoverAcked (s : State) (f : Image → Image) : (s.both f).handoverAcked = s.handoverAcked := rfl
@[simp] theorem State.both_rerun (s : State) (f : Image → Image) : (s.both f).rerun = s.rerun := rfl
@[simp] theorem State.both_drained (s : State) (f : Image → Image) : (s.both f).drained = s.drained := rfl
@[simp] theorem State.both_bus (s : State) (f : Image → Image) : (s.both f).bus = s.bus := rfl
@[simp] theorem State.both_mirror (s : State) (f : Image → Image) : (s.both f).mirror = s.mirror := rfl
@[simp] theorem State.both_stores (s : State) (f : Image → Image) : (s.both f).stores = s.stores := rfl
@[simp] theorem State.both_nor (s : State) (f : Image → Image) : (s.both f).nor = s.nor := rfl
@[simp] theorem State.both_pending (s : State) (f : Image → Image) : (s.both f).pending = s.pending := rfl
@[simp] theorem State.note_powered (s : State) (f : Image → Image) : (s.note f).powered = s.powered := rfl
@[simp] theorem State.note_tick (s : State) (f : Image → Image) : (s.note f).tick = s.tick := rfl
@[simp] theorem State.note_img (s : State) (f : Image → Image) : (s.note f).img = f s.img := rfl
@[simp] theorem State.note_sealed (s : State) (f : Image → Image) : (s.note f).sealed = s.sealed := rfl
@[simp] theorem State.note_committed (s : State) (f : Image → Image) : (s.note f).committed = f s.committed := rfl
@[simp] theorem State.note_shadow (s : State) (f : Image → Image) : (s.note f).shadow = f s.shadow := rfl
@[simp] theorem State.note_trail (s : State) (f : Image → Image) : (s.note f).trail = s.trail.map f := rfl
@[simp] theorem State.note_trailG (s : State) (f : Image → Image) : (s.note f).trailG = s.trailG := rfl
@[simp] theorem State.note_before (s : State) (f : Image → Image) : (s.note f).before = s.before := rfl
@[simp] theorem State.note_release (s : State) (f : Image → Image) : (s.note f).release = s.release := rfl
@[simp] theorem State.note_landing (s : State) (f : Image → Image) : (s.note f).landing = s.landing := rfl
@[simp] theorem State.note_work (s : State) (f : Image → Image) : (s.note f).work = s.work := rfl
@[simp] theorem State.note_owner (s : State) (f : Image → Image) : (s.note f).owner = s.owner := rfl
@[simp] theorem State.note_buckle (s : State) (f : Image → Image) : (s.note f).buckle = s.buckle := rfl
@[simp] theorem State.note_lanes (s : State) (f : Image → Image) : (s.note f).lanes = s.lanes := rfl
@[simp] theorem State.note_seam (s : State) (f : Image → Image) : (s.note f).seam = s.seam := rfl
@[simp] theorem State.note_hold (s : State) (f : Image → Image) : (s.note f).hold = s.hold := rfl
@[simp] theorem State.note_takeover (s : State) (f : Image → Image) : (s.note f).takeover = s.takeover := rfl
@[simp] theorem State.note_handoverAcked (s : State) (f : Image → Image) : (s.note f).handoverAcked = s.handoverAcked := rfl
@[simp] theorem State.note_rerun (s : State) (f : Image → Image) : (s.note f).rerun = s.rerun := rfl
@[simp] theorem State.note_drained (s : State) (f : Image → Image) : (s.note f).drained = s.drained := rfl
@[simp] theorem State.note_bus (s : State) (f : Image → Image) : (s.note f).bus = s.bus := rfl
@[simp] theorem State.note_mirror (s : State) (f : Image → Image) : (s.note f).mirror = s.mirror := rfl
@[simp] theorem State.note_stores (s : State) (f : Image → Image) : (s.note f).stores = s.stores := rfl
@[simp] theorem State.note_nor (s : State) (f : Image → Image) : (s.note f).nor = s.nor := rfl
@[simp] theorem State.note_pending (s : State) (f : Image → Image) : (s.note f).pending = s.pending := rfl

end Sys2Proof.Machine
end

