-- ==== Sys2Proof/Laws/Control.lean ====
section
/-! SUPPORT. The control view: the supply, the rails, the hold cells' state and the queue. Every operation on the state
but those of the grant itself keeps it. -/

namespace Sys2Proof.Machine

/-- What of the Buckle the grant invariant speaks of. -/
def Buckle.view (b : Buckle) : Nat × Nat × Bool × Bool × Bool := (b.railP, b.railQ, b.latched, b.selfTest, b.window.isSome)
/-- The control view, from its parts. -/
def ctlOf (p : Bool) (v : Nat × Nat × Bool × Bool × Bool) (h : Nat) (q : List Instr) :
    Bool × (Nat × Nat × Bool × Bool × Bool) × Nat × List Instr := (p, v, h, q)
/-- The Buckle's part, from its parts. -/
def viewOf (a b : Nat) (c d e : Bool) : Nat × Nat × Bool × Bool × Bool := (a, b, c, d, e)
/-- The control view of a state. -/
def State.ctl (s : State) := ctlOf s.powered s.buckle.view s.hold.st s.pending
@[simp] theorem State.ctl_mk (p t i se c sh tr tg b rl ld w o bk l sm h tk ha r d bm m st n pe) :
    State.ctl ⟨p,t,i,se,c,sh,tr,tg,b,rl,ld,w,o,bk,l,sm,h,tk,ha,r,d,bm,m,st,n,pe⟩ = ctlOf p bk.view h.st pe := rfl
@[simp] theorem State.ctlOf_self (s : State) : ctlOf s.powered s.buckle.view s.hold.st s.pending = s.ctl := rfl
@[simp] theorem Buckle.view_mk (a b c d e f g h i j k l m n) :
    Buckle.view ⟨a,b,c,d,e,f,g,h,i,j,k,l,m,n⟩ = viewOf a b c d n.isSome := rfl
@[simp] theorem Buckle.viewOf_self (b : Buckle) : viewOf b.railP b.railQ b.latched b.selfTest b.window.isSome = b.view := rfl
@[simp] theorem State.onBuckle_ctl (s : State) (f : Buckle → Buckle) :
    (s.onBuckle f).ctl = ctlOf s.powered (f s.buckle).view s.hold.st s.pending := rfl
@[simp] theorem State.foldl_ctl {α : Type} (f : State → α → State) (h : ∀ s a, (f s a).ctl = s.ctl) (l : List α) (s : State) :
    (l.foldl f s).ctl = s.ctl := by
  induction l generalizing s with
  | nil => rfl
  | cons a l ih => simp [ih, h]
@[simp] theorem State.ite_ctl (c : Prop) [Decidable c] (a b : State) : (if c then a else b).ctl = if c then a.ctl else b.ctl := by
  split <;> rfl
@[simp] theorem State.onLane_ctl (s : State) (l : Lane) (f : LaneState → LaneState) : (State.onLane s l f).ctl = s.ctl := by
  simp [State.onLane]
@[simp] theorem State.onStore_ctl (s : State) (l : Lane) (f : Store → Store) : (State.onStore s l f).ctl = s.ctl := by
  simp [State.onStore]
@[simp] theorem State.onSeam_ctl (s : State) (f : Seam → Seam) : (State.onSeam s f).ctl = s.ctl := by
  simp [State.onSeam]
@[simp] theorem State.edit_ctl (s : State) (f : Image → Image) : (State.edit s f).ctl = s.ctl := by
  simp [State.edit]
@[simp] theorem State.dropWork_ctl (s : State) : (State.dropWork s).ctl = s.ctl := by
  simp [State.dropWork]
@[simp] theorem State.both_ctl (s : State) (f : Image → Image) : (State.both s f).ctl = s.ctl := by
  simp [State.both]
@[simp] theorem State.answer_ctl (s : State) (p : Path) (idx sub code : Nat) (data : Bytes) : (State.answer s p idx sub code data).ctl = s.ctl := by
  simp [State.answer]
@[simp] theorem State.readCursor_ctl (s : State) (k : Fin 4) (unread : List Nat) : (State.readCursor s k unread).2.ctl = s.ctl := by
  unfold State.readCursor
  dsimp only
  (repeat' split) <;> simp
@[simp] theorem State.note_ctl (s : State) (f : Image → Image) : (State.note s f).ctl = s.ctl := by
  simp [State.note]
@[simp] theorem State.report_ctl (s : State) (f : Image → Image) : (State.report s f).ctl = s.ctl := by
  simp [State.report]
@[simp] theorem State.linkEvent_ctl (s : State) : (State.linkEvent s).ctl = s.ctl := by
  unfold State.linkEvent
  first
  | (simp; done)
  | ((try dsimp only)
     (repeat' split) <;> first | with_reducible rfl | (simp; done) | (simp_all; done))
@[simp] theorem State.linkFault_ctl (s : State) (k : Link) : (State.linkFault s k).ctl = s.ctl := by
  simp [State.linkFault]
@[simp] theorem State.linkUp_ctl (s : State) (k : Link) : (State.linkUp s k).ctl = s.ctl := by
  simp [State.linkUp]
@[simp] theorem State.retrain_ctl (s : State) (k : Link) (acked : Nat) : (State.retrain s k acked).ctl = s.ctl := by
  simp [State.retrain]
@[simp] theorem State.emit_ctl (s : State) (l : Lane) (k : Link) (kind seq : Nat) (resend : Bool) (h : BlockHead) (payload : Option Bytes) : (State.emit s l k kind seq resend h payload).ctl = s.ctl := by
  simp [State.emit]
@[simp] theorem State.sendOn_ctl (s : State) (l : Lane) (k : Link) (body : BlockBody) (h : BlockHead) (payload : Option Bytes) : (State.sendOn s l k body h payload).ctl = s.ctl := by
  simp [State.sendOn]
@[simp] theorem State.sendBlock_ctl (s : State) (l : Lane) (body : BlockBody) (h : BlockHead) (payload : Option Bytes) : (State.sendBlock s l body h payload).ctl = s.ctl := by
  simp [State.sendBlock]
@[simp] theorem State.linkAcked_ctl (s : State) (l : Lane) (k : Link) (seqs : List Nat) : (State.linkAcked s l k seqs).ctl = s.ctl := by
  simp [State.linkAcked]
@[simp] theorem State.resend_ctl (s : State) (l : Lane) (k : Link) (seq : Nat) : (State.resend s l k seq).ctl = s.ctl := by
  unfold State.resend
  dsimp only
  (repeat' split) <;> simp
@[simp] theorem State.strand_ctl (s : State) : (State.strand s).ctl = s.ctl := by
  simp [State.strand]
@[simp] theorem State.takeEffect_ctl (s : State) (cs : List CommitRec) (view : Image) (stitch : Nat) : (State.takeEffect s cs view stitch).ctl = s.ctl := by
  unfold State.takeEffect
  dsimp only
  (repeat' split) <;> simp
@[simp] theorem State.settle_ctl (s : State) (frame : Nat) : (State.settle s frame).ctl = s.ctl := by
  unfold State.settle
  dsimp only
  (repeat' split) <;> simp
@[simp] theorem State.unqualify_ctl (s : State) (cause : Nat) : (State.unqualify s cause).ctl = s.ctl := by
  unfold State.unqualify
  dsimp only
  (repeat' split) <;> simp
@[simp] theorem State.sendAck_ctl (s : State) (l : Lane) (frame result : Nat) : (State.sendAck s l frame result).ctl = s.ctl := by
  simp [State.sendAck]
@[simp] theorem State.commitAck_ctl (s : State) (a : AckPayload) : (State.commitAck s a).ctl = s.ctl := by
  simp [State.commitAck]
@[simp] theorem State.ackLate_ctl (s : State) : (State.ackLate s).ctl = s.ctl := by
  unfold State.ackLate
  first
  | (simp; done)
  | ((try dsimp only)
     (repeat' split) <;> first | with_reducible rfl | (simp; done) | (simp_all; done))
@[simp] theorem State.applyCommit_ctl (s : State) : (State.applyCommit s).ctl = s.ctl := by
  unfold State.applyCommit
  dsimp only
  (repeat' split) <;> simp
@[simp] theorem State.sectionHeld_ctl (s : State) (sectionNo : Nat) : (State.sectionHeld s sectionNo).ctl = s.ctl := by
  simp [State.sectionHeld]
@[simp] theorem State.digestCompared_ctl (s : State) (sameLive sameUnused : Bool) (sectionNo : Nat) : (State.digestCompared s sameLive sameUnused sectionNo).ctl = s.ctl := by
  simp [State.digestCompared]
@[simp] theorem State.startCopy_ctl (s : State) : (State.startCopy s).ctl = s.ctl := by
  unfold State.startCopy
  dsimp only
  (repeat' split) <;> simp
@[simp] theorem State.qualify_ctl (s : State) : (State.qualify s).ctl = s.ctl := by
  unfold State.qualify
  dsimp only
  (repeat' split) <;> simp
@[simp] theorem State.survey_ctl (s : State) : (State.survey s).ctl = s.ctl := by
  unfold State.survey
  dsimp only
  (repeat' split) <;> simp
@[simp] theorem State.takeBoth_ctl (s : State) : (State.takeBoth s).ctl = s.ctl := by
  simp [State.takeBoth]
@[simp] theorem State.beginStart_ctl (s : State) (l : Lane) (kind : Nat) (free : Bool) : (State.beginStart s l kind free).ctl = s.ctl := by
  simp [State.beginStart]
@[simp] theorem State.halt_ctl (s : State) (l : Lane) : (State.halt s l).ctl = s.ctl := by
  simp [State.halt]
@[simp] theorem State.powerUpRecord_ctl (s : State) (l : Lane) (trigger : Nat) (readback : Bool) : (State.powerUpRecord s l trigger readback).ctl = s.ctl := by
  simp [State.powerUpRecord]
@[simp] theorem State.latchEvent_ctl (s : State) (l : Lane) : (State.latchEvent s l).1.ctl = s.ctl := by
  unfold State.latchEvent
  dsimp only
  (repeat' split) <;> simp
@[simp] theorem State.startFailed_ctl (s : State) (l : Lane) (phase : Nat) : (State.startFailed s l phase).ctl = s.ctl := by
  simp [State.startFailed]
@[simp] theorem State.countFault_ctl (s : State) (l : Lane) (f : FaultLatch) : (State.countFault s l f).ctl = s.ctl := by
  simp [State.countFault]
@[simp] theorem State.laneFault_ctl (s : State) (l : Lane) (event checker unit group : Nat) : (State.laneFault s l event checker unit group).ctl = s.ctl := by
  unfold State.laneFault
  have k : ∀ (u : State) (f : Buckle → Buckle), (f u.buckle).view = u.buckle.view → (u.onBuckle f).ctl = u.ctl :=
    fun u f h => by simp [h]
  have one : ∀ (c : Prop) [Decidable c] (u v : State) (f : LaneState → LaneState), u.ctl = s.ctl → v.ctl = s.ctl →
      ((if c then u else v).onLane l f).ctl = s.ctl := by
    intro c _ u v f hu hv
    rw [State.onLane_ctl]
    split <;> assumption
  extract_lets x
  split
  · rfl
  · split
    · simp
    all_goals first
      | rfl
      | (refine (State.foldl_ctl _ (fun u a => by split <;> simp) _ _).trans ((k _ _ rfl).trans ?_)
         exact one _ _ _ _ ((State.powerUpRecord_ctl _ _ _ _).trans ((State.report_ctl _ _).trans (State.countFault_ctl _ _ _)))
           (State.countFault_ctl _ _ _))
@[simp] theorem State.memoryFault_ctl (s : State) (l : Lane) : (State.memoryFault s l).ctl = s.ctl := by
  simp [State.memoryFault]
@[simp] theorem State.standbyGone_ctl (s : State) (l : Lane) : (State.standbyGone s l).ctl = s.ctl := by
  unfold State.standbyGone
  first
  | (simp; done)
  | ((try dsimp only)
     (repeat' split) <;> first | with_reducible rfl | (simp; done) | (simp_all; done))
@[simp] theorem State.restartLane_ctl (s : State) (l : Lane) : (State.restartLane s l).ctl = s.ctl := by
  simp [State.restartLane]
@[simp] theorem State.inject_ctl (s : State) (l : Lane) (r : Injection) : (State.inject s l r).ctl = s.ctl := by
  unfold State.inject
  dsimp only
  (repeat' split) <;> simp
@[simp] theorem State.rejectCandidate_ctl (s : State) (l : Lane) : (State.rejectCandidate s l).ctl = s.ctl := by
  unfold State.rejectCandidate
  dsimp only
  (repeat' split) <;> simp
@[simp] theorem State.boot_ctl (s : State) (l : Lane) (n : Nat) : (State.boot s l n).ctl = s.ctl := by
  unfold State.boot
  dsimp only
  (repeat' split) <;> simp
@[simp] theorem State.markUnverifiable_ctl (s : State) (l : Lane) (n : Nat) : (State.markUnverifiable s l n).ctl = s.ctl := by
  simp [State.markUnverifiable]
@[simp] theorem State.phaseImage_ctl (s : State) (l : Lane) (ok : Bool × Bool) : (State.phaseImage s l ok).1.ctl = s.ctl := by
  unfold State.phaseImage
  dsimp only
  (repeat' split) <;> simp
@[simp] theorem State.becomeOperational_ctl (s : State) (l : Lane) : (State.becomeOperational s l).ctl = s.ctl := by
  unfold State.becomeOperational
  dsimp only
  (repeat' split) <;> simp
@[simp] theorem State.phaseRates_ctl (s : State) (l : Lane) : (State.phaseRates s l).ctl = s.ctl := by
  simp [State.phaseRates]
@[simp] theorem State.ratesFound_ctl (s : State) : (State.ratesFound s).ctl = s.ctl := by
  simp [State.ratesFound]
@[simp] theorem State.phaseReadback_ctl (s : State) (l : Lane) : (State.phaseReadback s l).ctl = s.ctl := by
  simp [State.phaseReadback]
@[simp] theorem State.sendStatus_ctl (s : State) (l : Lane) : (State.sendStatus s l).ctl = s.ctl := by
  simp [State.sendStatus]
@[simp] theorem State.linksFound_ctl (s : State) : (State.linksFound s).ctl = s.ctl := by
  simp [State.linksFound]
@[simp] theorem State.laneStart_ctl (s : State) (l : Lane) (r : StartResult) : (State.laneStart s l r).ctl = s.ctl := by
  unfold State.laneStart
  simp only []
  split
  · rfl
  · split
    next h => have := congrArg (fun z => z.1.ctl) h; simpa using this.symm
    next h =>
      have e := congrArg (fun z => z.1.ctl) h
      simp at e
      rw [e]
      (repeat' split) <;> simp
@[simp] theorem State.seamLate_ctl (s : State) (l : Lane) : (State.seamLate s l).ctl = s.ctl := by
  simp [State.seamLate]
@[simp] theorem State.ratesLate_ctl (s : State) (l : Lane) : (State.ratesLate s l).ctl = s.ctl := by
  simp [State.ratesLate]
@[simp] theorem State.windowDone_ctl (s : State) (l : Lane) : (State.windowDone s l).ctl = s.ctl := by
  simp [State.windowDone]
@[simp] theorem State.cleanRun_ctl (s : State) (l : Lane) : (State.cleanRun s l).ctl = s.ctl := by
  unfold State.cleanRun
  dsimp only
  (repeat' split) <;> simp
@[simp] theorem State.idleImage_ctl (s : State) (powerUp : Bool) : (State.idleImage s powerUp).ctl = s.ctl := by
  simp [State.idleImage]
@[simp] theorem State.restartBoth_ctl (s : State) (kind : Nat) (free : Bool) : (State.restartBoth s kind free).ctl = s.ctl := by
  simp [State.restartBoth]
@[simp] theorem State.restartHalted_ctl (s : State) (l : Lane) : (State.restartHalted s l).ctl = s.ctl := by
  simp [State.restartHalted]
@[simp] theorem State.liningImage_ctl (s : State) : (State.liningImage s).ctl = s.ctl := by
  simp [State.liningImage]
@[simp] theorem State.liningEntry_ctl (s : State) : (State.liningEntry s).ctl = s.ctl := by
  simp [State.liningEntry]
@[simp] theorem State.belief_ctl (s : State) (l : Lane) : (State.belief s l).ctl = s.ctl := by
  simp [State.belief]
@[simp] theorem State.switchover_ctl (s : State) : (State.switchover s).ctl = s.ctl := by
  unfold State.switchover
  dsimp only
  (repeat' split) <;> simp
@[simp] theorem State.firstCommit_ctl (s : State) : (State.firstCommit s).ctl = s.ctl := by
  unfold State.firstCommit
  first
  | (simp; done)
  | ((try dsimp only)
     (repeat' split) <;> first | with_reducible rfl | (simp; done) | (simp_all; done))
@[simp] theorem State.switchoverRecord_ctl (s : State) : (State.switchoverRecord s).ctl = s.ctl := by
  unfold State.switchoverRecord
  dsimp only
  (repeat' split) <;> simp
@[simp] theorem State.updatePrepare_ctl (s : State) : (State.updatePrepare s).ctl = s.ctl := by
  simp [State.updatePrepare]
@[simp] theorem State.prepareComplete_ctl (s : State) : (State.prepareComplete s).ctl = s.ctl := by
  simp [State.prepareComplete]
@[simp] theorem State.writeHeader_ctl (s : State) (l : Lane) : (State.writeHeader s l).ctl = s.ctl := by
  simp [State.writeHeader]
@[simp] theorem State.updateVerify_ctl (s : State) : (State.updateVerify s).ctl = s.ctl := by
  simp [State.updateVerify]
@[simp] theorem State.restartStandby_ctl (s : State) (l : Lane) : (State.restartStandby s l).ctl = s.ctl := by
  simp [State.restartStandby]
@[simp] theorem State.leapAbort_ctl (s : State) (code : Nat) : (State.leapAbort s code).ctl = s.ctl := by
  simp [State.leapAbort]
@[simp] theorem State.leapRestart_ctl (s : State) (l : Lane) (rollback : Bool) : (State.leapRestart s l rollback).ctl = s.ctl := by
  simp [State.leapRestart]
@[simp] theorem State.leapBegin_ctl (s : State) (rollback : Bool) : (State.leapBegin s rollback).ctl = s.ctl := by
  unfold State.leapBegin
  dsimp only
  (repeat' split) <;> simp
@[simp] theorem State.leapStep_ctl (s : State) (ok : Bool) : (State.leapStep s ok).ctl = s.ctl := by
  unfold State.leapStep
  dsimp only
  (repeat' split) <;> simp
@[simp] theorem State.updateAbort_ctl (s : State) : (State.updateAbort s).ctl = s.ctl := by
  unfold State.updateAbort
  first
  | (simp; done)
  | ((try dsimp only)
     (repeat' split) <;> first | with_reducible rfl | (simp; done) | (simp_all; done))
@[simp] theorem State.windowUpdate_ctl (s : State) : (State.windowUpdate s).ctl = s.ctl := by
  simp [State.windowUpdate]
@[simp] theorem State.chunkLate_ctl (s : State) : (State.chunkLate s).ctl = s.ctl := by
  unfold State.chunkLate
  dsimp only
  (repeat' split) <;> simp
@[simp] theorem State.bytesReported_ctl (s : State) (n : Nat) : (State.bytesReported s n).ctl = s.ctl := by
  unfold State.bytesReported
  dsimp only
  (repeat' split) <;> simp
@[simp] theorem State.setGPos_ctl (s : State) (v : Nat) : (State.setGPos s v).ctl = s.ctl := by
  simp [State.setGPos]
@[simp] theorem State.readG_ctl (s : State) : (State.readG s).2.ctl = s.ctl := by
  unfold State.readG
  dsimp only
  (repeat' split) <;> simp
@[simp] theorem State.retryStart_ctl (s : State) : (State.retryStart s).ctl = s.ctl := by
  simp [State.retryStart]
@[simp] theorem State.updateCommand_ctl (s : State) (raw : Nat) : (State.updateCommand s raw).ctl = s.ctl := by
  unfold State.updateCommand
  first
  | (simp; done)
  | ((try dsimp only)
     (repeat' split) <;> first | with_reducible rfl | (simp; done) | (simp_all; done))
@[simp] theorem State.moduleWrite_ctl (s : State) (p : Path) (idx sub : Nat) (data : Bytes) : (State.moduleWrite s p idx sub data).1.ctl = s.ctl := by
  unfold State.moduleWrite
  dsimp only
  (repeat' split) <;> simp
@[simp] theorem State.applyNative_ctl (s : State) (p : Path) (idx sub : Nat) (data : Bytes) : (State.applyNative s p idx sub data).1.ctl = s.ctl := by
  unfold State.applyNative
  dsimp only
  (repeat' split) <;> simp
@[simp] theorem State.applyLegacy_ctl (s : State) (p : Path) (idx sub raw : Nat) : (State.applyLegacy s p idx sub raw).1.ctl = s.ctl := by
  unfold State.applyLegacy
  dsimp only
  (repeat' split) <;> simp
@[simp] theorem State.applyWrite_ctl (s : State) (p : Path) (idx sub : Nat) (data : Bytes) : (State.applyWrite s p idx sub data).1.ctl = s.ctl := by
  unfold State.applyWrite
  dsimp only
  (repeat' split) <;> simp
@[simp] theorem State.answerWrite_ctl (s : State) (p : Path) (idx sub : Nat) (tcp : Bool) : (State.answerWrite s p idx sub tcp).ctl = s.ctl := by
  simp [State.answerWrite]
@[simp] theorem State.finishWrite_ctl (s : State) (p : Path) (idx sub : Nat) (data : Bytes) (tcp : Bool) : (State.finishWrite s p idx sub data tcp).ctl = s.ctl := by
  unfold State.finishWrite
  have e := State.applyWrite_ctl s p idx sub data
  split <;> simp_all
@[simp] theorem State.writeRow_ctl (s : State) (p : Path) (idx sub : Nat) (data : Bytes) : (State.writeRow s p idx sub data).ctl = s.ctl := by
  simp [State.writeRow]
@[simp] theorem State.takeWrite_ctl (s : State) (v : Verdict) (p : Path) (idx sub : Nat) (data : Bytes) (tcp : Bool) : (State.takeWrite s v p idx sub data tcp).ctl = s.ctl := by
  unfold State.takeWrite; split <;> simp
@[simp] theorem State.queueWrite_ctl (s : State) (p : Path) (idx sub : Nat) (data : Bytes) : (State.queueWrite s p idx sub data).ctl = s.ctl := by
  simp [State.queueWrite]
@[simp] theorem State.openedOver_ctl (s : State) (w : DueWrite) : (State.openedOver s w).ctl = s.ctl := by
  simp [State.openedOver]
@[simp] theorem State.applyDue_ctl (s : State) (d : DueWrite × Bool) : (State.applyDue s d).ctl = s.ctl := by
  simp [State.applyDue]
@[simp] theorem State.takeDue_ctl (s : State) (p : DueWrite → Bool) : (State.takeDue s p).1.ctl = s.ctl := by
  simp [State.takeDue]
@[simp] theorem State.applyAllDue_ctl (s : State) : (State.applyAllDue s).ctl = s.ctl := by
  simp [State.applyAllDue]
@[simp] theorem State.readRow_ctl (s : State) (p : Path) (idx sub : Nat) (unread : List Nat) : (State.readRow s p idx sub unread).1.ctl = s.ctl := by
  unfold State.readRow
  dsimp only
  (repeat' split) <;> simp
@[simp] theorem State.sdoWrite_ctl (s : State) (k : Fin 2) (idx sub spec : Nat) (data : Bytes) : (State.sdoWrite s k idx sub spec data).ctl = s.ctl := by
  simp [State.sdoWrite]
@[simp] theorem State.sdoRead_ctl (s : State) (q : Port) (k : Fin 2) (idx sub : Nat) (block : Option Nat) : (State.sdoRead s q k idx sub block).ctl = s.ctl := by
  unfold State.sdoRead
  dsimp only
  (repeat' split) <;> simp
@[simp] theorem State.downloadSegment_ctl (s : State) (q : Port) (k : Fin 2) (t : Bool) (seg : Bytes) (last : Bool) : (State.downloadSegment s q k t seg last).ctl = s.ctl := by
  unfold State.downloadSegment
  dsimp only
  (repeat' split) <;> simp
@[simp] theorem State.blockDownload_ctl (s : State) (q : Port) (k : Fin 2) (seg : Bytes) (crcOk last : Bool) : (State.blockDownload s q k seg crcOk last).ctl = s.ctl := by
  unfold State.blockDownload
  dsimp only
  (repeat' split) <;> simp
@[simp] theorem State.sdoRequest_ctl (s : State) (q : Port) (k : Fin 2) (r : SdoReq) : (State.sdoRequest s q k r).ctl = s.ctl := by
  unfold State.sdoRequest
  dsimp only
  (repeat' split) <;> simp
@[simp] theorem State.sdoReceived_ctl (s : State) (q : Port) (k : Fin 2) (r : SdoReq) : (State.sdoReceived s q k r).ctl = s.ctl := by
  simp [State.sdoReceived]
@[simp] theorem State.rpdoObject_ctl (s : State) (n : Fin 32) (idx sub : Nat) (data : Bytes) : (State.rpdoObject s n idx sub data).ctl = s.ctl := by
  unfold State.rpdoObject
  dsimp only
  (repeat' split) <;> simp
@[simp] theorem State.rpdoApply_ctl (s : State) (n : Fin 32) (data : Bytes) : (State.rpdoApply s n data).ctl = s.ctl := by
  unfold State.rpdoApply
  have k : ∀ (l : List (Nat × Nat × Nat)) (acc : State × Nat), (l.foldl (fun (acc : State × Nat) e =>
      (acc.1.rpdoObject n e.1 e.2.1 (le ((e.2.2 + 7) / 8) (wrap e.2.2 (ofLe data / 2 ^ acc.2))), acc.2 + e.2.2)) acc).1.ctl = acc.1.ctl := by
    intro l
    induction l with
    | nil => intro acc; rfl
    | cons a l ih => intro acc; simp [ih]
  simpa using k (s.img.rpdoMap n) (s, 0)
@[simp] theorem State.rpdoReceived_ctl (s : State) (q : Port) (n : Fin 32) (data : Bytes) : (State.rpdoReceived s q n data).ctl = s.ctl := by
  unfold State.rpdoReceived
  dsimp only
  (repeat' split) <;> simp
@[simp] theorem State.tpdoTransmit_ctl (s : State) (n : Fin 32) : (State.tpdoTransmit s n).ctl = s.ctl := by
  simp [State.tpdoTransmit]
@[simp] theorem State.syncTpdo_ctl (s : State) (n : Fin 32) (counter : Option Nat) : (State.syncTpdo s n counter).ctl = s.ctl := by
  simp [State.syncTpdo]
@[simp] theorem State.syncReceived_ctl (s : State) (q : Port) (counter : Option Nat) : (State.syncReceived s q counter).ctl = s.ctl := by
  unfold State.syncReceived
  have k : ∀ (s : State) (w : Nat × Bytes), (if h : w.1 < 32 then s.rpdoApply ⟨w.1, h⟩ w.2 else s).ctl = s.ctl := by
    intro s w; split <;> simp
  simp only []
  (repeat' split) <;> simp [k]
@[simp] theorem State.statusTelegram_ctl (s : State) : (State.statusTelegram s).ctl = s.ctl := by
  simp [State.statusTelegram]
@[simp] theorem State.pullReply_ctl (s : State) (comId : Nat) : (State.pullReply s comId).ctl = s.ctl := by
  simp [State.pullReply]
@[simp] theorem State.commandTelegram_ctl (s : State) (source seq : Nat) (data : Bytes) : (State.commandTelegram s source seq data).ctl = s.ctl := by
  simp [State.commandTelegram]
@[simp] theorem State.serveGateway_ctl (s : State) (r : GwRequest) : (State.serveGateway s r).ctl = s.ctl := by
  simp [State.serveGateway]
@[simp] theorem State.gatewayRequest_ctl (s : State) (r : GwRequest) : (State.gatewayRequest s r).ctl = s.ctl := by
  simp [State.gatewayRequest]
@[simp] theorem State.serveWaiting_ctl (s : State) : (State.serveWaiting s).ctl = s.ctl := by
  simp [State.serveWaiting]
@[simp] theorem State.keepSent_ctl (s : State) (q : Port) (k : Fin 32) : (State.keepSent s q k).ctl = s.ctl := by
  unfold State.keepSent
  dsimp only
  (repeat' split) <;> simp
@[simp] theorem State.nmtCommand_ctl (s : State) (q : Port) (node : Nat) (f : Image → Image) : (State.nmtCommand s q node f).ctl = s.ctl := by
  simp [State.nmtCommand]
@[simp] theorem State.lss_ctl (s : State) (q : Port) (f : Image → Image) : (State.lss s q f).ctl = s.ctl := by
  simp [State.lss]
@[simp] theorem State.onMirror_ctl (s : State) (f : Mirror → Mirror) : (State.onMirror s f).ctl = s.ctl := by
  simp [State.onMirror]
@[simp] theorem State.mirrorReread_ctl (s : State) (word : Fin 16) (startUs : Nat) : (State.mirrorReread s word startUs).ctl = s.ctl := by
  simp [State.mirrorReread]
@[simp] theorem State.mirrorTransaction_ctl (s : State) (word : Fin 16) (parity : Bool) (edges startUs : Nat) : (State.mirrorTransaction s word parity edges startUs).ctl = s.ctl := by
  simp [State.mirrorTransaction]
@[simp] theorem State.mirrorEnd_ctl (s : State) (endUs : Nat) (forced : Bool) : (State.mirrorEnd s endUs forced).ctl = s.ctl := by
  unfold State.mirrorEnd
  dsimp only
  (repeat' split) <;> simp
@[simp] theorem State.mirrorDeassert_ctl (s : State) (endUs : Nat) : (State.mirrorDeassert s endUs).ctl = s.ctl := by
  simp [State.mirrorDeassert]
@[simp] theorem State.mirrorTimeout_ctl (s : State) (endUs : Nat) : (State.mirrorTimeout s endUs).ctl = s.ctl := by
  unfold State.mirrorTimeout
  first
  | (simp; done)
  | ((try dsimp only)
     (repeat' split) <;> first | with_reducible rfl | (simp; done) | (simp_all; done))
@[simp] theorem State.mirrorWords_ctl (s : State) : (State.mirrorWords s).ctl = s.ctl := by
  simp [State.mirrorWords]
@[simp] theorem State.mirrorFrame_ctl (s : State) : (State.mirrorFrame s).ctl = s.ctl := by
  simp [State.mirrorFrame]
@[simp] theorem State.publish_ctl (s : State) : (State.publish s).ctl = s.ctl := by
  simp [State.publish]
@[simp] theorem State.newFrame_ctl (s : State) : (State.newFrame s).ctl = s.ctl := by
  simp [State.newFrame]
@[simp] theorem State.leaveSingleLane_ctl (s : State) : (State.leaveSingleLane s).ctl = s.ctl := by
  simp [State.leaveSingleLane]
@[simp] theorem State.dueNow_ctl (s : State) : (State.dueNow s).1.ctl = s.ctl := by
  simp [State.dueNow]
@[simp] theorem State.sectionD_ctl (s : State) (x : FrameSample) : (State.sectionD s x).ctl = s.ctl := by
  simp [State.sectionD]
@[simp] theorem State.sendMany_ctl (s : State) (l : Lane) (body : BlockBody) (from_ n count : Nat) : (State.sendMany s l body from_ n count).ctl = s.ctl := by
  simp [State.sendMany]
@[simp] theorem State.sendCopy_ctl (s : State) (l : Lane) : (State.sendCopy s l).ctl = s.ctl := by
  unfold State.sendCopy
  dsimp only
  (repeat' split) <;> simp
@[simp] theorem State.sendDigests_ctl (s : State) (l : Lane) : (State.sendDigests s l).ctl = s.ctl := by
  unfold State.sendDigests
  dsimp only
  (repeat' split) <;> simp
@[simp] theorem State.sectionS_ctl (s : State) (blocks : Nat) (records : List Nat) (stitch : Nat) : (State.sectionS s blocks records stitch).ctl = s.ctl := by
  unfold State.sectionS
  dsimp only
  (repeat' split) <;> simp
@[simp] theorem State.releaseFrame_ctl (s : State) (l : Lane) : (State.releaseFrame s l).ctl = s.ctl := by
  unfold State.releaseFrame
  dsimp only
  (repeat' split) <;> simp
@[simp] theorem State.replayBus_ctl (s : State) : (State.replayBus s).ctl = s.ctl := by
  simp [State.replayBus]
@[simp] theorem State.sectionN_ctl (s : State) : (State.sectionN s).ctl = s.ctl := by
  simp [State.sectionN]
@[simp] theorem State.sectionH_ctl (s : State) (cycles : Nat) : (State.sectionH s cycles).ctl = s.ctl := by
  simp [State.sectionH]
@[simp] theorem State.decideFrame_ctl (s : State) (l : Lane) (x : FrameSample) : (State.decideFrame s l x).ctl = s.ctl := by
  simp [State.decideFrame]
@[simp] theorem State.finishWork_ctl (s : State) : (State.finishWork s).ctl = s.ctl := by
  unfold State.finishWork
  dsimp only
  (repeat' split) <;> simp
@[simp] theorem State.shadowFrame_ctl (s : State) (x : FrameSample) : (State.shadowFrame s x).ctl = s.ctl := by
  unfold State.shadowFrame
  dsimp only
  (repeat' split) <;> simp
@[simp] theorem State.liningFrame_ctl (s : State) (x : FrameSample) : (State.liningFrame s x).ctl = s.ctl := by
  unfold State.liningFrame
  dsimp only
  (repeat' split) <;> simp
@[simp] theorem State.dropFrame_ctl (s : State) (l : Lane) (b : Before) : (State.dropFrame s l b).ctl = s.ctl := by
  simp [State.dropFrame]
@[simp] theorem State.countOverrun_ctl (s : State) (l : Lane) (cause : Nat) : (State.countOverrun s l cause).ctl = s.ctl := by
  simp [State.countOverrun]
@[simp] theorem State.frameOverrun_ctl (s : State) (l : Lane) (w : Deadline) : (State.frameOverrun s l w).ctl = s.ctl := by
  unfold State.frameOverrun
  dsimp only
  (repeat' split) <;> simp
@[simp] theorem State.sampleStrobes_ctl (s : State) : (State.sampleStrobes s).ctl = s.ctl := by
  unfold State.sampleStrobes
  dsimp only
  (repeat' split) <;> simp
@[simp] theorem State.ageHold_ctl (s : State) : (State.ageHold s).ctl = s.ctl := by
  unfold State.ageHold
  dsimp only
  (repeat' split) <;> simp
@[simp] theorem State.sendLinkAcks_ctl (s : State) : (State.sendLinkAcks s).ctl = s.ctl := by
  unfold State.sendLinkAcks
  simp only []
  rw [State.foldl_ctl]
  · simp
  · intro s a; split <;> simp
@[simp] theorem State.ageFlights_ctl (s : State) : (State.ageFlights s).ctl = s.ctl := by
  simp [State.ageFlights]
@[simp] theorem State.idleStitch_ctl (s : State) (x : StitchSample) : (State.idleStitch s x).ctl = s.ctl := by
  simp [State.idleStitch]
@[simp] theorem State.landStitch_ctl (s : State) : (State.landStitch s).ctl = s.ctl := by
  unfold State.landStitch
  dsimp only
  (repeat' split) <;> simp
@[simp] theorem State.workStitch_ctl (s : State) : (State.workStitch s).ctl = s.ctl := by
  unfold State.workStitch
  (repeat' split) <;> simp
@[simp] theorem State.shadowStitch_ctl (s : State) (x : StitchSample) : (State.shadowStitch s x).ctl = s.ctl := by
  unfold State.shadowStitch
  dsimp only
  (repeat' split) <;> simp
@[simp] theorem State.lateCommit_ctl (s : State) : (State.lateCommit s).ctl = s.ctl := by
  unfold State.lateCommit
  dsimp only
  (repeat' split) <;> simp
@[simp] theorem State.stitch_ctl (s : State) (x : StitchSample) : (State.stitch s x).ctl = s.ctl := by
  simp [State.stitch]
@[simp] theorem State.faultReported_ctl (s : State) (l : Lane) (f : FaultReport) : (State.faultReported s l f).ctl = s.ctl := by
  unfold State.faultReported
  dsimp only
  (repeat' split) <;> simp
@[simp] theorem State.statusReceived_ctl (s : State) (l : Lane) (p : StatusPayload) : (State.statusReceived s l p).ctl = s.ctl := by
  unfold State.statusReceived
  dsimp only
  (repeat' split) <;> simp
@[simp] theorem State.blockContent_ctl (s : State) (b : SeamBlock) : (State.blockContent s b).ctl = s.ctl := by
  unfold State.blockContent
  dsimp only
  (repeat' split) <;> simp
@[simp] theorem State.seamBlockReceived_ctl (s : State) (b : SeamBlock) : (State.seamBlockReceived s b).ctl = s.ctl := by
  simp [State.seamBlockReceived]
@[simp] theorem State.watchdog_ctl (s : State) (l : Lane) (slice : Fin 4) : (State.watchdog s l slice).ctl = s.ctl := by
  simp [State.watchdog]
@[simp] theorem State.storeEnd_ctl (s : State) (ok : Bool) : (State.storeEnd s ok).ctl = s.ctl := by
  unfold State.storeEnd
  dsimp only
  (repeat' split) <;> simp
@[simp] theorem State.legacyWrite_ctl (s : State) (idx sub v : Nat) : (State.legacyWrite s idx sub v).ctl = s.ctl := by
  unfold State.legacyWrite
  first
  | (simp; done)
  | ((try dsimp only)
     (repeat' split) <;> first | with_reducible rfl | (simp; done) | (simp_all; done))
@[simp] theorem State.gAnswer_ctl (s : State) (p : Path) : (State.gAnswer s p).ctl = s.ctl := by
  simp [State.gAnswer]
@[simp] theorem State.standbyStarved_ctl (s : State) : (State.standbyStarved s).ctl = s.ctl := by
  simp [State.standbyStarved]
@[simp] theorem State.monitorTrip_ctl (s : State) : (State.monitorTrip s).ctl = s.ctl := by
  simp [State.monitorTrip]
@[simp] theorem State.waitOver_ctl (s : State) (l : Lane) : (State.waitOver s l).ctl = s.ctl := by
  simp [State.waitOver]
@[simp] theorem State.storeWork_ctl (s : State) (l : Lane) (f : Store → Store) : (State.storeWork s l f).ctl = s.ctl := by
  simp [State.storeWork]
@[simp] theorem State.cursorAnswer_ctl (s : State) (p : Path) (k : Fin 4) (unread : List Nat) : (State.cursorAnswer s p k unread).ctl = s.ctl := by
  simp [State.cursorAnswer]

end Sys2Proof.Machine
end

