-- ==== Sys2Proof/Laws/Registers.lean ====
section
/-! SUPPORT. The register file: what a write does to a later read of the same register and of another, and that
every operation keeps the canonical form. -/

namespace Sys2Proof

/-! ## Bits of a word -/

theorem b2n_bitOf (x i : Nat) : b2n (bitOf x i) = x / 2 ^ i % 2 := by
  unfold b2n bitOf
  have : x / 2 ^ i % 2 < 2 := Nat.mod_lt _ (by decide)
  rcases Nat.lt_succ_iff_lt_or_eq.mp this with h | h
  · have h0 : x / 2 ^ i % 2 = 0 := by omega
    simp [h0]
  · have h1 : x / 2 ^ i % 2 = 1 := by omega
    simp [h1]

/-- A word is its bits below `i`, bit `i`, and its bits above. -/
theorem word_split (x i : Nat) : x = x % 2 ^ i + (x / 2 ^ i % 2) * 2 ^ i + (x / 2 ^ i / 2) * 2 * 2 ^ i := by
  have h1 := Nat.mod_add_div x (2 ^ i)
  have h2 := Nat.mod_add_div (x / 2 ^ i) 2
  calc x = x % 2 ^ i + 2 ^ i * (x / 2 ^ i) := h1.symm
    _ = x % 2 ^ i + 2 ^ i * (x / 2 ^ i % 2 + 2 * (x / 2 ^ i / 2)) := by rw [h2]
    _ = _ := by rw [Nat.mul_add, Nat.mul_comm (2 ^ i) (x / 2 ^ i % 2), Nat.mul_comm (2 ^ i), Nat.mul_comm 2, Nat.add_assoc]

/-- Setting a bit keeps the bits below and above it. -/
theorem setBit_split (x i : Nat) (b : Bool) :
    setBit x i b = x % 2 ^ i + b2n b * 2 ^ i + (x / 2 ^ i / 2) * 2 * 2 ^ i := by
  unfold setBit
  rw [b2n_bitOf]
  have h := word_split x i
  omega

@[simp] theorem bitOf_setBit_same (x i : Nat) (b : Bool) : bitOf (setBit x i b) i = b := by
  have hp : 0 < 2 ^ i := Nat.two_pow_pos i
  have hd : setBit x i b / 2 ^ i = b2n b + (x / 2 ^ i / 2) * 2 := by
    rw [setBit_split, Nat.add_assoc, ← Nat.add_mul, Nat.add_mul_div_right _ _ hp, Nat.div_eq_of_lt (Nat.mod_lt _ hp)]
    omega
  unfold bitOf
  rw [hd]
  cases b <;> simp [b2n, Nat.add_mul_mod_self_right]

theorem setBit_mod (x i : Nat) (b : Bool) : setBit x i b % 2 ^ i = x % 2 ^ i := by
  rw [setBit_split, Nat.add_mul_mod_self_right, Nat.add_mul_mod_self_right, Nat.mod_mod]

theorem setBit_high (x i : Nat) (b : Bool) : setBit x i b / 2 ^ (i + 1) = x / 2 ^ (i + 1) := by
  have hp : 0 < 2 ^ i := Nat.two_pow_pos i
  rw [Nat.pow_succ, ← Nat.div_div_eq_div_mul, ← Nat.div_div_eq_div_mul, setBit_split, Nat.add_assoc, ← Nat.add_mul,
    Nat.add_mul_div_right _ _ hp, Nat.div_eq_of_lt (Nat.mod_lt _ hp)]
  cases b <;> simp only [b2n, Bool.false_eq_true, if_true, if_false] <;> omega

/-- Setting a bit leaves every other bit as it was. -/
theorem bitOf_setBit_other (x : Nat) {i j : Nat} (b : Bool) (hij : j ≠ i) : bitOf (setBit x i b) j = bitOf x j := by
  unfold bitOf
  rcases Nat.lt_or_gt_of_ne hij with h | h
  · have e : ∀ y : Nat, y / 2 ^ j % 2 = y % 2 ^ i / 2 ^ j % 2 := by
      intro y
      rw [show i = j + (i - j) from by omega, Nat.pow_add, Nat.mod_mul_right_div_self,
        Nat.mod_mod_of_dvd _ (⟨2 ^ (i - j - 1), by rw [Nat.mul_comm, ← Nat.pow_succ]; congr 1; omega⟩)]
    rw [e (setBit x i b), e x, setBit_mod]
  · have e : ∀ y : Nat, y / 2 ^ j = y / 2 ^ (i + 1) / 2 ^ (j - (i + 1)) := by
      intro y
      rw [Nat.div_div_eq_div_mul, ← Nat.pow_add, show i + 1 + (j - (i + 1)) = j from by omega]
    rw [e (setBit x i b), e x, setBit_high]

/-! ## Reading after removing, inserting, writing -/

theorem RegFile.find_del_same (m : RegFile) (k : Nat) : RegFile.find? (RegFile.del m k) k = none := by
  induction m with
  | nil => rfl
  | cons e m ih =>
    obtain ⟨k', v⟩ := e
    by_cases h : k' = k <;> simp [RegFile.del, RegFile.find?, h, ih]

theorem RegFile.find_del_other (m : RegFile) {k k' : Nat} (hk : k' ≠ k) :
    RegFile.find? (RegFile.del m k) k' = RegFile.find? m k' := by
  induction m with
  | nil => rfl
  | cons e m ih =>
    obtain ⟨j, v⟩ := e
    by_cases h : j = k
    · have : ¬ k = k' := fun h => hk h.symm
      simp [RegFile.del, RegFile.find?, h, ih, this]
    · simp [RegFile.del, RegFile.find?, h, ih]

theorem RegFile.find_ins_same (m : RegFile) (k v : Nat) : RegFile.find? (RegFile.ins m k v) k = some v := by
  induction m with
  | nil => simp [RegFile.ins, RegFile.find?]
  | cons e m ih =>
    obtain ⟨j, w⟩ := e
    unfold RegFile.ins
    split
    · simp [RegFile.find?]
    · split
      · simp [RegFile.find?]
      · rename_i h
        have : ¬ j = k := fun he => h he.symm
        simp [RegFile.find?, this, ih]

theorem RegFile.find_ins_other (m : RegFile) {k k' : Nat} (v : Nat) (hk : k' ≠ k) :
    RegFile.find? (RegFile.ins m k v) k' = RegFile.find? m k' := by
  have hk' : ¬ k = k' := fun h => hk h.symm
  induction m with
  | nil => simp [RegFile.ins, RegFile.find?, hk']
  | cons e m ih =>
    obtain ⟨j, w⟩ := e
    unfold RegFile.ins
    split
    · simp [RegFile.find?, hk']
    · split
      · rename_i h
        subst h
        simp [RegFile.find?, hk']
      · by_cases hj : j = k' <;> simp [RegFile.find?, ih, hj]

/-- A register reads what was written to it. -/
@[simp] theorem RegFile.get_put_same (m : RegFile) (d k v : Nat) : RegFile.get (RegFile.put m d k v) d k = v := by
  unfold RegFile.put RegFile.get
  split
  · rename_i h
    simp [RegFile.find_del_same, h]
  · simp [RegFile.find_ins_same]

/-- A write leaves every other register as it was. -/
theorem RegFile.find_put_other (m : RegFile) (d v : Nat) {k k' : Nat} (hk : k' ≠ k) :
    RegFile.find? (RegFile.put m d k v) k' = RegFile.find? m k' := by
  unfold RegFile.put
  split
  · exact RegFile.find_del_other m hk
  · exact RegFile.find_ins_other m v hk

theorem RegFile.get_put_other (m : RegFile) (d d' v : Nat) {k k' : Nat} (hk : k' ≠ k) :
    RegFile.get (RegFile.put m d k v) d' k' = RegFile.get m d' k' := by
  simp [RegFile.get, RegFile.find_put_other m d v hk]

/-! ## The canonical form -/

theorem RegFile.wfFrom_mono {dflt : Nat → Nat} {m : RegFile} {l k : Nat} (hlk : l ≤ k)
    (h : RegFile.wfFrom dflt (some k) m = true) : RegFile.wfFrom dflt (some l) m = true := by
  cases m with
  | nil => rfl
  | cons e m =>
    obtain ⟨j, v⟩ := e
    simp only [RegFile.wfFrom, Bool.and_eq_true, decide_eq_true_eq] at h ⊢
    exact ⟨⟨by omega, h.1.2⟩, h.2⟩

theorem RegFile.wfFrom_none {dflt : Nat → Nat} {m : RegFile} {k : Nat}
    (h : RegFile.wfFrom dflt (some k) m = true) : RegFile.wfFrom dflt none m = true := by
  cases m with
  | nil => rfl
  | cons e m =>
    obtain ⟨j, v⟩ := e
    simp only [RegFile.wfFrom, Bool.and_eq_true, decide_eq_true_eq] at h ⊢
    exact ⟨⟨trivial, h.1.2⟩, h.2⟩

theorem RegFile.wfFrom_del {dflt : Nat → Nat} (k : Nat) (m : RegFile) (lo : Option Nat)
    (h : RegFile.wfFrom dflt lo m = true) : RegFile.wfFrom dflt lo (RegFile.del m k) = true := by
  induction m generalizing lo with
  | nil => exact h
  | cons e m ih =>
    obtain ⟨j, v⟩ := e
    have h' := h
    simp only [RegFile.wfFrom, Bool.and_eq_true] at h
    unfold RegFile.del
    split
    · have hm := ih (some j) h.2
      cases lo with
      | none => exact RegFile.wfFrom_none hm
      | some l => exact RegFile.wfFrom_mono (by simpa using Nat.le_of_lt (by simpa using h.1.1)) hm
    · simp only [RegFile.wfFrom, Bool.and_eq_true]
      exact ⟨h.1, ih (some j) h.2⟩

theorem RegFile.wfFrom_ins {dflt : Nat → Nat} (k v : Nat) (hv : v ≠ dflt k) (m : RegFile) (lo : Option Nat)
    (hkey : (match lo with | none => true | some l => decide (l < k)) = true) (h : RegFile.wfFrom dflt lo m = true) :
    RegFile.wfFrom dflt lo (RegFile.ins m k v) = true := by
  induction m generalizing lo with
  | nil => simp only [RegFile.ins, RegFile.wfFrom, Bool.and_eq_true, decide_eq_true_eq]; exact ⟨⟨hkey, hv⟩, trivial⟩
  | cons e m ih =>
    obtain ⟨j, w⟩ := e
    simp only [RegFile.wfFrom, Bool.and_eq_true] at h
    unfold RegFile.ins
    split
    · rename_i hj
      simp only [RegFile.wfFrom, Bool.and_eq_true, decide_eq_true_eq]
      exact ⟨⟨hkey, hv⟩, ⟨hj, by simpa using h.1.2⟩, h.2⟩
    · split
      · rename_i hj
        subst hj
        simp only [RegFile.wfFrom, Bool.and_eq_true, decide_eq_true_eq]
        exact ⟨⟨hkey, hv⟩, h.2⟩
      · simp only [RegFile.wfFrom, Bool.and_eq_true]
        exact ⟨h.1, ih (some j) (by simp; omega) h.2⟩

/-- A write keeps the canonical form. -/
theorem RegFile.wf_put {dflt : Nat → Nat} {m : RegFile} (k v : Nat) (h : RegFile.wf dflt m = true) :
    RegFile.wf dflt (RegFile.put m (dflt k) k v) = true := by
  unfold RegFile.put
  split
  · exact RegFile.wfFrom_del k m none h
  · rename_i hv
    exact RegFile.wfFrom_ins k v hv m none rfl h

namespace Machine

/-- The registers of the image are in canonical form. -/
def Image.odWf (im : Image) : Bool := RegFile.wf keyDefault im.od

theorem keyDefault_key (idx sub : Nat) (hs : sub < 256) : keyDefault (key idx sub) = regDefault idx sub := by
  unfold keyDefault key
  congr 1 <;> omega

/-- Two registers share a key only where they are the same register. -/
theorem key_inj {idx sub idx' sub' : Nat} (hs : sub < 256) (hs' : sub' < 256) (h : key idx sub = key idx' sub') :
    idx = idx' ∧ sub = sub' := by
  unfold key at h
  omega

/-- Writing a register keeps the canonical form. -/
theorem Image.odWf_setReg {im : Image} (idx sub v : Nat) (hs : sub < 256) (h : im.odWf = true) :
    (im.setReg idx sub v).odWf = true := by
  unfold Image.odWf Image.setReg
  rw [← keyDefault_key idx sub hs]
  exact RegFile.wf_put _ _ h

/-- Writing a register leaves every other register, as it is listed, as it was. -/
theorem Image.setReg_find_other (im : Image) (v : Nat) {idx sub idx' sub' : Nat} (hs : sub < 256) (hs' : sub' < 256)
    (hk : ¬ (idx' = idx ∧ sub' = sub)) :
    RegFile.find? (im.setReg idx sub v).od (key idx' sub') = RegFile.find? im.od (key idx' sub') := by
  apply RegFile.find_put_other
  intro he
  exact hk (key_inj hs' hs he)

/-- What is held of a register that was written: the value at the register's width, unless that is the mark of a
default that depends on the node-ID. -/
theorem Image.held_setReg_same (im : Image) (idx sub v : Nat)
    (hn : wrap (regBits idx sub) v ≠ nodeDefault) :
    (im.setReg idx sub v).held idx sub = wrap (regBits idx sub) v := by
  simp [Image.held, Image.setReg, RegFile.get_put_same, hn]

/-- Writing a register changes nothing of the image but the registers. -/
theorem Image.setReg_eq (im : Image) (idx sub v : Nat) :
    im.setReg idx sub v =
      { im with od := RegFile.put im.od (regDefault idx sub) (key idx sub) (wrap (regBits idx sub) v) } := rfl

/-- The registers before the first power good are in canonical form. -/
theorem Image.odWf_reset : Image.reset.odWf = true := by decide

end Machine

end Sys2Proof
end

