-- ==== Sys2Proof/Laws/Events.lean ====
section
/-! SUPPORT. The event operations: what each shows afterwards, and that each changes nothing of the image but the
events, the recorder and the registers every event may write. -/

namespace Sys2Proof.Machine

/-! ## Registers left out of a file -/

theorem RegFile.without_del (own : Nat → Bool) (m : RegFile) (k : Nat) (h : own (k / 256) = true) :
    RegFile.without own (RegFile.del m k) = RegFile.without own m := by
  induction m with
  | nil => rfl
  | cons e m ih =>
    obtain ⟨j, v⟩ := e
    unfold RegFile.without at ih ⊢
    by_cases hj : j = k
    · subst hj
      simp [RegFile.del, ih, h]
    · simp [RegFile.del, hj, ih, List.filter_cons]

theorem RegFile.without_ins (own : Nat → Bool) (m : RegFile) (k v : Nat) (h : own (k / 256) = true) :
    RegFile.without own (RegFile.ins m k v) = RegFile.without own m := by
  induction m with
  | nil => simp [RegFile.ins, RegFile.without, h]
  | cons e m ih =>
    obtain ⟨j, w⟩ := e
    unfold RegFile.without at ih ⊢
    unfold RegFile.ins
    split
    · simp [List.filter_cons, h]
    · split
      · rename_i hj
        subst hj
        simp [h]
      · simp [List.filter_cons, ih]

/-- Writing a register of the left-out ones changes nothing of the rest. -/
theorem RegFile.without_put (own : Nat → Bool) (m : RegFile) (d k v : Nat) (h : own (k / 256) = true) :
    RegFile.without own (RegFile.put m d k v) = RegFile.without own m := by
  unfold RegFile.put
  split
  · exact RegFile.without_del own m k h
  · exact RegFile.without_ins own m k v h

/-! ## The frame of an event -/

/-- The image without what events change: the events, the recorder, the registers of `eventRegs`. -/
def Image.sansEvents (im : Image) : Image :=
  { im with od := RegFile.without eventRegs im.od, ev := Events.reset, rcd := Recorder.reset }

theorem Image.setReg_sansEvents (im : Image) (idx sub v : Nat) (hs : sub < 256) (h : eventRegs idx = true) :
    (im.setReg idx sub v).sansEvents = im.sansEvents := by
  have hk : (key idx sub) / 256 = idx := by unfold key; omega
  unfold Image.sansEvents Image.setReg
  simp only [RegFile.without_put eventRegs im.od _ (key idx sub) _ (by rw [hk]; exact h)]

theorem Image.bump_sansEvents (im : Image) (idx sub : Nat) (hs : sub < 256) (h : eventRegs idx = true) :
    (im.bump idx sub).sansEvents = im.sansEvents := Image.setReg_sansEvents im idx sub _ hs h

@[simp] theorem Image.onScope_sansEvents (im : Image) (scope : Fin 13) (f : EvState → EvState) :
    (im.onScope scope f).sansEvents = im.sansEvents := rfl

theorem Image.ite_sansEvents {im a b : Image} {c : Prop} [Decidable c] (ha : a.sansEvents = im.sansEvents)
    (hb : b.sansEvents = im.sansEvents) : (if c then a else b).sansEvents = im.sansEvents := by
  split <;> assumption

theorem Image.pushFifo_sansEvents (im : Image) (e : FifoEntry) (he : e.ev < 255) :
    (im.pushFifo e).sansEvents = im.sansEvents := by
  unfold Image.pushFifo
  apply Image.ite_sansEvents
  · apply Image.ite_sansEvents
    · rw [Image.setReg_sansEvents _ _ _ _ (by decide) (by decide)]; rfl
    · rfl
  · rw [Image.bump_sansEvents _ _ _ (by decide) (by decide), Image.bump_sansEvents _ _ _ (by omega) (by decide)]; rfl

theorem Image.note_sansEvents (im : Image) (n : Nat) (scope : Fin 13) (tr : Transition) (src : Source) (hn : n < 255) :
    (im.note n scope tr src).sansEvents = im.sansEvents := by
  unfold Image.note
  dsimp only
  rw [Image.setReg_sansEvents _ _ _ _ (by omega) (by decide), Image.setReg_sansEvents _ _ _ _ (by omega) (by decide)]
  have h1 : (if (bitOf (im.reaction n) 0 && n != 24) = true then
        im.pushFifo ⟨n, tr, scope.val, im.clk.frame, im.clk.stitch, src, im.reaction n, im.recordClass n scope,
          im.eventWord, (im.ev.scopes.get scope).latched, false⟩
      else im.bump 0x250C 2).sansEvents = im.sansEvents := by
    split
    · exact Image.pushFifo_sansEvents im _ hn
    · exact Image.bump_sansEvents im _ _ (by decide) (by decide)
  have add : ∀ (a : Image) (l : List Emcy), a.sansEvents = im.sansEvents →
      ({ a with ev := { a.ev with emcy := l } } : Image).sansEvents = im.sansEvents := fun _ _ h => h
  have up : ∀ (a : Image), a.sansEvents = im.sansEvents → (a.bump 0x2506 (n + 1)).sansEvents = im.sansEvents :=
    fun a h => (Image.bump_sansEvents a _ _ (by omega) (by decide)).trans h
  repeat' first
    | exact h1
    | apply Image.ite_sansEvents
    | apply add
    | apply up

/-- Each event operation leaves everything else of the image as it was. -/
theorem Image.raise_sansEvents (im : Image) (n : Nat) (scope : Fin 13) (src : Source) (hn : n < 255) :
    (im.raise n scope src).sansEvents = im.sansEvents := by
  unfold Image.raise
  split
  · rfl
  · rw [Image.note_sansEvents _ _ _ _ _ hn, Image.onScope_sansEvents]

theorem Image.raiseAgain_sansEvents (im : Image) (n : Nat) (scope : Fin 13) (src : Source) (hn : n < 255) :
    (im.raiseAgain n scope src).sansEvents = im.sansEvents := by
  unfold Image.raiseAgain
  rw [Image.note_sansEvents _ _ _ _ _ hn, Image.onScope_sansEvents]

theorem Image.clearEv_sansEvents (im : Image) (n : Nat) (scope : Fin 13) (src : Source) (hn : n < 255) :
    (im.clearEv n scope src).sansEvents = im.sansEvents := by
  unfold Image.clearEv
  split
  · rw [Image.note_sansEvents _ _ _ _ _ hn, Image.onScope_sansEvents]
  · rfl

theorem Image.clearItem_sansEvents (im : Image) (n : Nat) (scope : Fin 13) (src : Source) (still : Bool) (hn : n < 255) :
    (im.clearItem n scope src still).sansEvents = im.sansEvents := by
  unfold Image.clearItem
  split
  · rfl
  · exact Image.clearEv_sansEvents im n scope src hn

theorem Image.latch_sansEvents (im : Image) (n : Nat) (scope : Fin 13) (src : Source) (holding : Bool) (hn : n < 255) :
    (im.latch n scope src holding).sansEvents = im.sansEvents := by
  unfold Image.latch Image.setLatch
  split
  · rfl
  · split
    · rw [Image.onScope_sansEvents]
    · rw [Image.note_sansEvents _ _ _ _ _ hn, Image.onScope_sansEvents]

@[simp] theorem Image.endCondition_sansEvents (im : Image) (n : Nat) (scope : Fin 13) :
    (im.endCondition n scope).sansEvents = im.sansEvents := rfl

theorem Image.release_sansEvents (im : Image) (n : Nat) (scope : Fin 13) (hn : n < 255) :
    (im.release n scope).sansEvents = im.sansEvents := by
  unfold Image.release
  dsimp only
  split
  · rw [Image.note_sansEvents _ _ _ _ _ hn, Image.onScope_sansEvents]
  · rfl

theorem Image.occur_sansEvents (im : Image) (n : Nat) (scope : Fin 13) (src : Source) (hn : n < 255) :
    (im.occur n scope src).sansEvents = im.sansEvents := by
  unfold Image.occur
  split
  · rfl
  · rw [Image.note_sansEvents _ _ _ _ _ hn, Image.onScope_sansEvents]

/-- What keeps the image without its events keeps the doorways, axes, channels, train outputs and permits. -/
theorem Image.plant_of_sansEvents {a b : Image} (h : a.sansEvents = b.sansEvents) : a.plant = b.plant := by
  have h1 := congrArg Image.plant h
  exact h1

/-! ## What an event shows -/

@[simp] theorem Image.setReg_ev (im : Image) (idx sub v : Nat) : (im.setReg idx sub v).ev = im.ev := rfl
@[simp] theorem Image.bump_ev (im : Image) (idx sub : Nat) : (im.bump idx sub).ev = im.ev := rfl

theorem Image.ite_ev {x a b : Image} {c : Prop} [Decidable c] (ha : a.ev = x.ev) (hb : b.ev = x.ev) :
    (if c then a else b).ev = x.ev := by
  split <;> assumption

@[simp] theorem Image.pushFifo_ev (im : Image) (e : FifoEntry) : (im.pushFifo e).ev = im.ev := by
  unfold Image.pushFifo
  apply Image.ite_ev
  · apply Image.ite_ev <;> rfl
  · rfl

/-- Noting a transition leaves the scopes' words as they were. -/
@[simp] theorem Image.note_scopes (im : Image) (n : Nat) (scope : Fin 13) (tr : Transition) (src : Source) :
    (im.note n scope tr src).ev.scopes = im.ev.scopes := by
  unfold Image.note
  dsimp only
  rw [Image.setReg_ev, Image.setReg_ev]
  have h1 : (if (bitOf (im.reaction n) 0 && n != 24) = true then
        im.pushFifo ⟨n, tr, scope.val, im.clk.frame, im.clk.stitch, src, im.reaction n, im.recordClass n scope,
          im.eventWord, (im.ev.scopes.get scope).latched, false⟩
      else im.bump 0x250C 2).ev.scopes = im.ev.scopes := by
    split
    · rw [Image.pushFifo_ev]
    · rfl
  have key : ∀ (c : Prop) [Decidable c] (a b : Image), a.ev.scopes = im.ev.scopes → b.ev.scopes = im.ev.scopes →
      (if c then a else b).ev.scopes = im.ev.scopes := by
    intro c _ a b ha hb; split <;> assumption
  have add : ∀ (a : Image) (l : List Emcy), a.ev.scopes = im.ev.scopes →
      ({ a with ev := { a.ev with emcy := l } } : Image).ev.scopes = im.ev.scopes := fun _ _ h => h
  have up : ∀ (a : Image), a.ev.scopes = im.ev.scopes → (a.bump 0x2506 (n + 1)).ev.scopes = im.ev.scopes :=
    fun _ h => h
  repeat' first
    | exact h1
    | apply key
    | apply add
    | apply up

theorem upd_get_same {α : Type} {n : Nat} (v : Vector α n) (i : Fin n) (f : α → α) : (upd v i f).get i = f (v.get i) := by
  have e : ∀ (w : Vector α n) (k : Fin n), w.get k = w[k.val] := fun _ _ => rfl
  simp [upd, e]

theorem upd_get_other {α : Type} {n : Nat} (v : Vector α n) {i j : Fin n} (f : α → α) (h : j ≠ i) :
    (upd v i f).get j = v.get j := by
  have : i.val ≠ j.val := fun he => h (Fin.ext he.symm)
  have e : ∀ (w : Vector α n) (k : Fin n), w.get k = w[k.val] := fun _ _ => rfl
  simp [upd, e, this]

/-- The module's scope has events of its own (R15). -/
@[simp] theorem Image.speaks_mod (im : Image) (n : Nat) : im.speaks n modScope = true := rfl

/-- A doorway that is fitted has events. -/
theorem Image.speaks_door (im : Image) (n : Nat) (d : Door) (h : im.fitted d = true) : im.speaks n (doorScope d) = true := by
  simp [Image.speaks, doorScope, h]

/-- A forced disable raises its event whatever the doorway (R11). -/
@[simp] theorem Image.speaks_forced (im : Image) (scope : Fin 13) : im.speaks 49 scope = true := by
  unfold Image.speaks
  split
  · rfl
  · split <;> simp

/-- A raised condition event is active. -/
theorem Image.raise_active (im : Image) (n : Nat) (scope : Fin 13) (src : Source) (h : im.speaks n scope = true) :
    (im.raise n scope src).evActive n scope = true := by
  unfold Image.raise
  split
  · simp_all
  · simp [Image.evActive, Image.onScope, upd_get_same]

theorem Image.raiseAgain_active (im : Image) (n : Nat) (scope : Fin 13) (src : Source) :
    (im.raiseAgain n scope src).evActive n scope = true := by
  simp [Image.raiseAgain, Image.evActive, Image.onScope, upd_get_same]

/-- A cleared condition event is not active. -/
theorem Image.clearEv_inactive (im : Image) (n : Nat) (scope : Fin 13) (src : Source) :
    (im.clearEv n scope src).evActive n scope = false := by
  unfold Image.clearEv
  split
  · simp only [Image.evActive, Image.note_scopes, Image.onScope, upd_get_same, EvState.drop, EvState.found]
    split <;> simp
  · rename_i h
    simpa using h

/-- A latched event is latched. -/
theorem Image.latch_latched (im : Image) (n : Nat) (scope : Fin 13) (src : Source) (holding : Bool)
    (h : im.speaks n scope = true) : (im.latch n scope src holding).isLatched n scope = true := by
  unfold Image.latch Image.setLatch
  by_cases a : im.evActive n scope = true <;> simp [h, a, Image.isLatched, Image.onScope, upd_get_same]

/-- An occurrence stands. -/
theorem Image.occur_shown (im : Image) (n : Nat) (scope : Fin 13) (src : Source) (h : im.speaks n scope = true) :
    (im.occur n scope src).shown n scope = true := by
  simp [Image.occur, h, Image.shown, Image.onScope, upd_get_same, EvState.found]

/-- Settling and publishing at a boundary leave what is active and latched (R583). -/
@[simp] theorem EvState.settle_active (e : EvState) (f h : Nat) : (e.settle f h).active = e.active := rfl
@[simp] theorem EvState.settle_latched (e : EvState) (f h : Nat) : (e.settle f h).latched = e.latched := rfl
@[simp] theorem EvState.publish_active (e : EvState) : e.publish.active = e.active := rfl
@[simp] theorem EvState.publish_latched (e : EvState) : e.publish.latched = e.latched := rfl
@[simp] theorem EvState.found_active (e : EvState) (n : Nat) : (e.found n).active = e.active := rfl
@[simp] theorem EvState.found_latched (e : EvState) (n : Nat) : (e.found n).latched = e.latched := rfl

end Sys2Proof.Machine
end

