-- ==== Sys2Proof/Laws/Grant.lean ====
section
/-! SUPPORT. The operations of the grant keep the grant invariant; so does everything that keeps the control view. -/

namespace Sys2Proof.Machine

theorem State.grantInv_iff (s : State) : s.grantInv ↔
    (s.buckle.railP = s.buckle.railQ ∧ s.buckle.railP ≤ 2 ∧ (s.powered = false → s.buckle.railP = 0) ∧
    (s.buckle.window.isSome = true → s.buckle.railP = 0) ∧ (s.buckle.latched = true → s.buckle.railP = 0) ∧
    (s.buckle.selfTest = false → s.buckle.railP = 0) ∧ (s.buckle.railP = 0 → s.hold.st ≠ 0) ∧ s.hold.st ≤ 2) := Iff.rfl

theorem State.grantInv_of_ctl {s t : State} (h : t.ctl = s.ctl) (hi : s.grantInv) : t.grantInv := by
  simp only [State.ctl, ctlOf, Buckle.view, Prod.mk.injEq] at h
  obtain ⟨h1, ⟨h2, h3, h4, h5, h6⟩, h7, _⟩ := h
  simpa only [State.grantInv_iff, h1, h2, h3, h4, h5, h6, h7] using hi

theorem State.pending_of_ctl {s t : State} (h : t.ctl = s.ctl) : t.pending = s.pending := by
  simp only [State.ctl, ctlOf, Prod.mk.injEq] at h; exact h.2.2.2

theorem Lane.code_le (l : Lane) : 1 ≤ l.code ∧ l.code ≤ 2 := by cases l <;> decide

theorem State.active_rail {s : State} {l : Lane} (h : s.activeLane = some l) : s.powered = true ∧ s.buckle.railP ≠ 0 := by
  unfold State.activeLane State.granted Buckle.granted at h
  split at h
  · rename_i l' hl
    split at hl <;> simp_all
  · simp at h

theorem State.holdCells_ctl (s : State) : s.holdCells.ctl = ctlOf s.powered s.buckle.view 1 s.pending := rfl

/-- Nothing is granted: both rails 0, the hold window open, the cells holding. -/
theorem State.dropGrant_ctl (s : State) :
    s.dropGrant.ctl = ctlOf s.powered (viewOf 0 0 s.buckle.latched s.buckle.selfTest true) 1 s.pending := by
  simp [State.dropGrant, State.strand, State.holdCells]

theorem State.grantInv_of_none {u : State} {p c e w : Bool} {h : Nat} {q : List Instr}
    (hu : u.ctl = ctlOf p (viewOf 0 0 c e w) h q) (h1 : h ≠ 0) (h2 : h ≤ 2) : u.grantInv := by
  simp only [State.ctl, ctlOf, Buckle.view, viewOf, Prod.mk.injEq] at hu
  simp [State.grantInv, hu, h1, h2]

theorem State.dropGrant_inv (s : State) : s.dropGrant.grantInv :=
  State.grantInv_of_none s.dropGrant_ctl (by decide) (by decide)

theorem State.moveTo_inv (s : State) (l : Lane) (c : Nat) (hi : s.grantInv) (h : s.buckle.railP ≠ 0) : (s.moveTo l c).grantInv := by
  have hc := Lane.code_le l
  unfold State.moveTo State.grantInv State.onBuckle State.strand State.onSeam State.holdCells
  rw [State.grantInv_iff] at hi
  simp only []
  obtain ⟨_, _, h3, h4, h5, h6, _, _⟩ := hi
  refine ⟨trivial, hc.2, ?_, ?_, ?_, ?_, ?_, ?_⟩ <;> (try simp) <;> (try intro hh) <;> simp_all

theorem State.granted_rail {s : State} {l : Lane} (h : s.granted = some l) : s.buckle.railP ≠ 0 := by
  unfold State.granted Buckle.granted at h; split at h <;> simp_all

theorem State.revoke_inv (s : State) (hi : s.grantInv) : s.revoke.grantInv := by
  unfold State.revoke
  split
  · exact hi
  · next l h =>
    have := State.granted_rail h
    split
    · exact hi
    · split
      · exact State.moveTo_inv _ _ _ hi this
      · exact State.dropGrant_inv _

theorem State.railFault_inv (s : State) (hi : s.grantInv) : s.railFault.grantInv := by
  unfold State.railFault
  split
  · exact hi
  · dsimp only
    generalize hu : State.dropGrant _ = u
    have hc := hu ▸ State.dropGrant_ctl _
    simp only [State.ctl, ctlOf, Buckle.view, viewOf, Prod.mk.injEq] at hc
    simp [State.grantInv, hc]

theorem State.windowEnd_inv (s : State) (hi : s.grantInv) : s.windowEnd.grantInv := by
  unfold State.windowEnd
  split
  · exact hi
  · next n h =>
    split
    · exact hi
    · have h0 : s.buckle.railP = 0 := hi.2.2.2.1 (by simp [h])
      have hq : s.buckle.railQ = 0 := by rw [← hi.1]; exact h0
      simp only []
      split
      · refine State.grantInv_of_ctl (State.note_ctl _ _) ?_
        generalize hu : State.note _ _ = u
        have hc : u.ctl = ctlOf s.powered (viewOf 0 0 s.buckle.latched s.buckle.selfTest false) 2 s.pending := by
          rw [← hu]; simp [Buckle.view, viewOf, h0, hq]
        have hr : (u.restartBoth 3 false).ctl = u.ctl := by simp
        rw [hc] at hr
        generalize u.restartBoth 3 false = v at hr
        simp only [State.ctl, ctlOf, Buckle.view, viewOf, Prod.mk.injEq] at hr
        simp [State.grantInv, State.onBuckle, hr]
      · generalize hu : State.note _ _ = u
        have hc : u.ctl = ctlOf s.powered (viewOf 0 0 s.buckle.latched s.buckle.selfTest false) 2 s.pending := by
          rw [← hu]; simp [Buckle.view, viewOf, h0, hq]
        simp only [State.ctl, ctlOf, Buckle.view, viewOf, Prod.mk.injEq] at hc
        simp [State.grantInv, hc]

theorem State.moveGrant_inv (s : State) (hi : s.grantInv) : s.moveGrant.grantInv := by
  unfold State.moveGrant
  split
  · exact hi
  · next l h =>
    have := (State.active_rail h).2
    simp only []
    (repeat' split) <;> first | exact hi | exact State.moveTo_inv _ _ _ hi this | exact State.grantInv_of_ctl (by simp [State.edit]) hi

theorem State.holdRelease_inv (s : State) (hi : s.grantInv) (h : s.buckle.railP ≠ 0) : s.holdRelease.grantInv := by
  unfold State.holdRelease
  split
  · exact hi
  · simp only []
    split
    · exact hi
    · rw [State.grantInv_iff] at hi ⊢
      simp [State.edit]
      exact ⟨hi.1, hi.2.1, hi.2.2.1, by simpa using hi.2.2.2.1, hi.2.2.2.2.1, hi.2.2.2.2.2.1, h⟩

theorem State.applicant_some {s : State} {l : Lane} (h : s.applicant = some l) :
    s.powered = true ∧ s.buckle.latched = false ∧ s.buckle.selfTest = true ∧ s.buckle.window = none := by
  unfold State.applicant at h
  simp only [] at h
  split at h
  · simp at h
  · next hn => simp at hn; simp [hn]

theorem State.grantNew_ctl (s : State) (l : Lane) :
    (s.grantNew l).ctl = ctlOf s.powered (viewOf l.code l.code s.buckle.latched s.buckle.selfTest false) s.hold.st s.pending := by
  unfold State.grantNew
  simp only []
  split <;> rfl

theorem State.grantInv_of_code {u : State} (l : Lane) (h : Nat) (q) (hu : u.ctl = ctlOf true (viewOf l.code l.code false true false) h q) (hh : h ≤ 2) : u.grantInv := by
  have hc := Lane.code_le l
  simp only [State.ctl, ctlOf, Buckle.view, viewOf, Prod.mk.injEq] at hu
  obtain ⟨h1, ⟨h2, h3, h4, h5, h6⟩, h7, _⟩ := hu
  rw [State.grantInv_iff, h1, h2, h3, h4, h5, h6, h7]
  simp; omega

theorem State.grantLining_inv (s : State) (l : Lane) (h : s.applicant = some l) : (s.grantLining l).grantInv := by
  obtain ⟨h1, h2, h3, h4⟩ := State.applicant_some h
  have k := State.grantNew_ctl s l
  rw [h1, h2, h3] at k
  unfold State.grantLining
  simp only []
  apply State.grantInv_of_code l 0 s.pending _ (by omega)
  split <;> (simp; simp only [State.ctl, ctlOf] at *; simp_all)

theorem State.grantFirst_ctl (s : State) (l : Lane) :
    (s.grantFirst l).ctl = ctlOf s.powered (viewOf l.code l.code s.buckle.latched s.buckle.selfTest false) 1 s.pending := by
  have k := State.grantNew_ctl s l
  unfold State.grantFirst
  simp only []
  simp
  simp only [State.ctl, ctlOf] at *
  simp_all

theorem State.grantFromNone_inv (s : State) (hi : s.grantInv) : s.grantFromNone.grantInv := by
  unfold State.grantFromNone
  split
  · exact hi
  · next l h =>
    obtain ⟨h1, h2, h3, h4⟩ := State.applicant_some h
    split
    · exact State.grantLining_inv s l h
    · apply State.grantInv_of_code l 1 s.pending _ (by omega)
      rw [State.grantFirst_ctl, h1, h2, h3]

theorem State.stopLanes_inv (s : State) : s.stopLanes.grantInv := by
  simp [State.stopLanes, State.grantInv, State.onBuckle, State.edit]

theorem State.powerGood_inv (s : State) (dc : Bool) (vin plug : Nat) (ok : Bool) (hi : s.powered = true → s.grantInv) : (s.powerGood dc vin plug ok).grantInv := by
  unfold State.powerGood
  split
  · next h => exact hi h
  · generalize hu : State.restartBoth _ _ _ = u
    have hc : u.ctl = ctlOf true (viewOf 0 0 false ok false) 2 s.pending := by
      rw [← hu]
      simp
      rfl
    simp only [State.ctl, ctlOf, Buckle.view, viewOf, Prod.mk.injEq] at hc
    simp [State.grantInv, hc]

theorem State.supplyFail_inv (s : State) (hi : s.grantInv) : s.supplyFail.grantInv := by
  unfold State.supplyFail
  split
  · exact hi
  · simp [State.grantInv, Buckle.reset, Hold.reset]

theorem State.powerLoss_inv (s : State) (hi : s.grantInv) : s.powerLoss.grantInv := by
  unfold State.powerLoss
  split
  · split
    · exact State.stopLanes_inv _
    · exact hi
  · simp only []
    split
    · exact hi
    · exact State.stopLanes_inv _

theorem State.inputReturn_inv (s : State) (vin : Nat) (hi : s.grantInv) : (s.inputReturn vin).grantInv := by
  unfold State.inputReturn
  split
  · split
    · exact State.powerGood_inv _ _ _ _ _ (fun h => by simp at h)
    · exact hi
  · split
    · exact State.grantInv_of_ctl (by simp) hi
    · exact hi

theorem State.activeFrame_inv (s : State) (l : Lane) (x : FrameSample) (hi : s.grantInv) : (s.activeFrame l x).grantInv := by
  have h1 : (s.newFrame.switchoverRecord).grantInv := State.grantInv_of_ctl (by simp) hi
  have h2 := State.moveGrant_inv _ h1
  unfold State.activeFrame
  simp only []
  split
  · exact h2
  · exact State.grantInv_of_ctl (by simp) h2

theorem State.frameWork_inv (s : State) (x : FrameSample) (hi : s.grantInv) : (s.frameWork x).grantInv := by
  have k : ∀ u : State, u.grantInv → (match u.activeLane with
      | some l => u.activeFrame l x
      | none => if u.lining then u.liningFrame x else u).grantInv := by
    intro u hu
    split
    · exact State.activeFrame_inv _ _ _ hu
    · split
      · exact State.grantInv_of_ctl (by simp) hu
      · exact hu
  unfold State.frameWork
  dsimp only
  exact k _ (State.grantInv_of_ctl (by split <;> simp) hi)

@[simp] theorem State.hush_ctl (s : State) : s.hush.ctl = s.ctl := rfl
theorem State.go_inv {s t : State} {f : State → State} (h : s.go f = .next t) (hi : s.grantInv) (hf : ∀ s, s.grantInv → (f s).grantInv) : t.grantInv := by
  cases h; exact hf _ (State.grantInv_of_ctl (State.hush_ctl s) hi)
theorem State.live_inv {s t : State} {f : State → State} (h : s.live f = .next t) (hi : s.grantInv) (hf : ∀ s, s.running = true → s.grantInv → (f s).grantInv) : t.grantInv :=
  State.go_inv h hi (fun s hi => by split <;> simp_all)
theorem State.serve_inv {s t : State} {f : State → State} (h : s.serve f = .next t) (hi : s.grantInv) (hf : ∀ s, s.grantInv → (f s).grantInv) : t.grantInv :=
  State.go_inv h hi (fun s hi => by split <;> simp_all)
theorem State.act_inv {s t : State} {f : Image → Image} (h : s.act f = .next t) (hi : s.grantInv) : t.grantInv :=
  State.live_inv h hi (fun s _ hi => State.grantInv_of_ctl (by simp) hi)
theorem State.heard_inv {s t : State} {f : Image → Image} (h : s.heard f = .next t) (hi : s.grantInv) : t.grantInv :=
  State.go_inv h hi (fun s hi => State.grantInv_of_ctl (by split <;> simp) hi)
theorem State.running_rail {s : State} (h : s.running = true) : s.buckle.railP ≠ 0 := by
  unfold State.running at h
  obtain ⟨l, hl⟩ := Option.isSome_iff_exists.mp h
  exact (State.active_rail hl).2


end Sys2Proof.Machine
end

