-- ==== Sys2Proof/WellFormed.lean ====
section
/-! DEFINITION. Which commands are well formed: every operand's value lies in the range the hardware could deliver it in
(a byte is below 256, a register's value below two to its width, a list of leaves' bins has 256 entries). -/

namespace Sys2Proof

/-- A value of `w` bits. -/
def fits (w n : Nat) : Bool := decide (n < 2 ^ w)

/-- A signed value of `w` bits. -/
def fitsInt (w : Nat) (x : Int) : Bool := decide (-(2 ^ (w - 1) : Int) ≤ x ∧ x < 2 ^ (w - 1))

/-- Every element is a byte. -/
def bytesOk (b : Bytes) : Bool := b.all (fits 8)

/-- A path of an access: a gateway's address is an IPv4 address (R486). -/
def Path.wf : Path → Bool
  | .gateway ip => fits 32 ip
  | .sdo1 | .sdo2 | .x9 | .rpdo _ | .trdp => true

/-- An axis sample: three Hall lines, whole credits and 32-bit quantities (R108, R225). -/
def AxisSample.wf (x : AxisSample) : Bool :=
  fitsInt 32 x.current && fitsInt 32 x.torqueCurrent && fitsInt 32 x.position && fitsInt 32 x.velocity
    && fitsInt 32 x.accel && fitsInt 16 x.angle && fits 3 x.hall && fits 16 x.demand && fitsInt 16 x.bridgeTemp

def SupplySample.wf (x : SupplySample) : Bool :=
  fits 16 x.vin && fits 16 x.link && fits 16 x.bus && fitsInt 16 x.ambient

/-- A stitch's samples: voltages of 16 bits, resistances of 32, sense codes 0 to 7 (R255). -/
def StitchSample.wf (x : StitchSample) : Bool :=
  x.inputs.all (fun p => fitsInt 16 p.2) && x.edges.all (fun p => fits 32 p.2.2) && x.codes.all (fun p => fits 3 p.2)
    && x.axes.all AxisSample.wf && x.supply.all SupplySample.wf

def LoopReadback.wf (x : LoopReadback) : Bool := fits 16 x.current && fits 16 x.voltage

def ChanSample.wf (x : ChanSample) : Bool := fitsInt 16 x.deltaT && fitsInt 16 x.junction && decide (x.fine ≤ 512)

/-- A frame's measurements; the gate-mask readback has 24 bits (R75). -/
def FrameSample.wf (x : FrameSample) : Bool :=
  x.banks.all (fun p => fits 16 p.2) && x.chans.all ChanSample.wf && x.therms.all (fun p => fitsInt 16 p.2)
    && x.loopA.all LoopReadback.wf && x.loopB.all LoopReadback.wf && x.maskReadback.all (fits 24)
    && x.power.all (fun p => fits 16 p.1 && fits 16 p.2.1 && fits 32 p.2.2.1 && fitsInt 32 p.2.2.2)
    && x.energy.all (fun p => fits 32 p.2) && fits 16 x.deltaBlocks && fits 32 x.cycles

/-- What CONTOUR_SHEET_WRITE writes: 256 bins of 16 bits, or a 16-bit parameter (R155). -/
def SheetWrite.wf : SheetWrite → Bool
  | .opening l | .closing l => l.length == 256 && l.all (fitsInt 16)
  | .mass m => fits 16 m
  | .viscous c => fits 16 c

def AckPayload.wf (a : AckPayload) : Bool :=
  fits 64 a.frame && decide (a.result ≤ 1) && fits 8 a.flags && fits 16 a.sections && a.di.length == 12 && a.di.all (fits 12)
    && fits 16 a.ti

def FaultReport.wf (f : FaultReport) : Bool :=
  (f.event == 7 || f.event == 8 || f.event == 13 || f.event == 14) && decide (f.checker ≤ 3) && fits 8 f.unit && fits 8 f.group

def StatusPayload.wf (x : StatusPayload) : Bool :=
  fits 32 x.powerCycles && fits 32 x.firmware && fits 16 x.stateFormat && decide (x.phase ≤ 10) && fits 32 x.bytesHeld
    && x.failedStart.all (fun k => decide (k ≤ 10)) && x.survey.all (fun p => fits 7 p.1 && fits 64 p.2)

def BlockBody.wf : BlockBody → Bool
  | .ack a => a.wf
  | .linkAck l => decide (l.length ≤ 120) && l.all (fits 32)
  | .status x => x.wf
  | .fault f => f.wf
  | .digest _ _ n => decide (n < 4096)
  | .delta | .commit _ | .record | .image | .test | .other => true

/-- A Seam block's header fields (R308). -/
def SeamBlock.wf (b : SeamBlock) : Bool :=
  fits 16 b.epoch && fits 32 b.seq && fits 32 b.frame && fits 16 b.index && fits 16 b.count && b.body.wf

/-- A CAN frame: an 11-bit or 29-bit identifier and up to 8 data bytes, 64 of a CAN FD frame (R446). -/
def CanFrame.wf (f : CanFrame) : Bool :=
  fits (if f.extended then 29 else 11) f.id && bytesOk f.data && decide (f.data.length ≤ if f.fd then 64 else 8)

def CanRx.wf : CanRx → Bool
  | .frame f => f.wf
  | .nominalError | .dataError => true

/-- An SDO or USDO request: a 16-bit index and an 8-bit subindex (R467). -/
def SdoReq.wf : SdoReq → Bool
  | .download i s d => fits 16 i && fits 8 s && bytesOk d
  | .downloadInit i s n => fits 16 i && fits 8 s && fits 32 n
  | .downloadSegment _ d _ => bytesOk d
  | .upload i s => fits 16 i && fits 8 s
  | .uploadSegment _ => true
  | .blockDownloadInit i s n => fits 16 i && fits 8 s && fits 32 n
  | .blockDownload d _ _ => bytesOk d
  | .blockUploadInit i s n => fits 16 i && fits 8 s && fits 8 n
  | .blockUploadNext => true
  | .abort c => fits 32 c

/-- A lane's injection result names one of five units and groups and a checker (R359). -/
def Injection.wf : Injection → Bool
  | .passed => true
  | .rawMissing u g k => decide (u < 5) && decide (g < 5) && decide (k ≤ 2)
  | .residual u g => decide (u < 5) && decide (g < 5)

def StartResult.wf (r : StartResult) : Bool :=
  fits 16 r.cell && r.injection.wf && decide (r.mount ≤ 2) && r.durations.all (fits 16) && decide (r.durations.length ≤ 7)

/-- Every operand of a command is in range. -/
def Instr.wf : Instr → Bool
  | .stitch x => x.wf
  | .frameWork x => x.wf
  | .openCommand p _ | .closeCommand p _ | .faultResetCommand p _ | .emergencyResetCommand p _ | .isolateCommand p _
  | .isolateForcedCommand p _ | .returnToServiceCommand p _ | .manualEnter p _ | .manualLeave p _
  | .manualLockRelease p _ _ | .clearDoorwayLatches p _ | .teachStart p _ | .teachAbort p _ | .stagedApply p _
  | .stagedDiscard p _ | .loopFaultReset p _ | .loopOpenCommand p _ _ | .axisEnable p _ | .axisDisable p _
  | .axisDisableForced p _ | .axisClearOvercurrent p _ | .clearModuleLatches p | .restEnterCommand p
  | .restLeaveCommand p | .clearSealLatch p | .channelEnable p _ | .channelDisable p _ | .channelDisableForced p _
  | .channelClearOvercurrent p _ | .handoverCommand p | .liningRetryStart p | .restartHaltedLane p _ | .clearRecords p
  | .clearRecordsAndLedger p | .errorHistoryClear p | .canPortEnable p _ | .canPortDisable p _ | .canPortDisableForced p _
  | .gatewayRequestTimeout p | .tcpConnectionClose p | .wallTimeSet p | .gRecordRead p | .gRecordClear p | .updatePrepare p
  | .updateVerify p | .updateLeapfrog p | .updateRollback p | .updateAbort p | .serviceWindowUpdate p | .serviceWindowOpen p
  | .serviceWindowClose p | .authorisationChallenge p | .authorisationClose p | .challengeExpiry p | .authorisationTimeout p
  | .authorisationLockoutEnd p | .restoreReactionDefaults p | .tcpConnectionOpen p => p.wf
  | .leafCountWrite p _ n => p.wf && fits 8 n
  | .jogWrite p _ v => p.wf && fitsInt 8 v
  | .contourSheetWrite p _ w => p.wf && w.wf
  | .stageEntry p _ e => p.wf && fits 64 e
  | .gateComparatorChange _ v | .bankSupplyLost _ v | .bankSupplyReturn _ v | .inputReturn v | .cellMeasurement v => fits 16 v
  | .mirrorTransaction _ _ n us => decide (n ≤ 25000) && fits 64 us
  | .mirrorSelectDeassert us | .mirrorTransactionTimeout us => fits 64 us
  | .axisTargetWrite p _ x => p.wf && fitsInt 32 x
  | .liveLimitWrite p _ _ v => p.wf && fits 32 v
  | .holdupMeasurement j => fits 16 j
  | .channelCommandWrite p _ v => p.wf && fits 8 v
  | .channelThermalLatch _ a b => fitsInt 16 a && fitsInt 16 b
  | .seamBlockReceived b => b.wf
  | .linkAckReceived _ l => decide (l.length ≤ 120) && l.all (fits 32)
  | .seamResendTimeout _ n => fits 32 n
  | .linkRetrain _ n => fits 16 n
  | .commitAckReceived a => a.wf
  | .injectionDue _ r => r.wf
  | .powerGood _ v _ _ => fits 16 v
  | .laneStart _ r => r.wf
  | .nandWrite _ l => decide (l.length ≤ 512)
  | .cursorPositionWrite p _ v => p.wf && fits 48 v
  | .cursorRead p _ l => p.wf && l.all (fits 48)
  | .canFrameReceived _ x => x.wf
  | .canSubmit _ _ id t d => fits 29 id && t.all (fits 64) && bytesOk d && decide (d.length ≤ 64)
  | .nmtStartRemoteNode _ n | .nmtEnterPreoperational _ n | .nmtStopRemoteNode _ n | .nmtResetCommunication _ n
  | .nmtResetNode _ n => fits 8 n
  | .sdoRequest _ _ r => r.wf
  | .rpdoReceived _ _ d => bytesOk d && decide (d.length ≤ 64)
  | .syncReceived _ c => c.all (fits 8)
  | .timeReceived _ s ms => fits 48 s && decide (ms < 1000)
  | .lssSwitchStateSelective _ a b c d => fits 32 a && fits 32 b && fits 32 c && fits 32 d
  | .lssConfigureNodeId _ n => fits 8 n
  | .lssConfigureBitTiming _ a b => fits 8 a && fits 8 b
  | .lssActivateBitTiming _ ms => fits 16 ms
  | .lssIdentifyRemoteSlave _ a b c d e f => fits 32 a && fits 32 b && fits 32 c && fits 32 d && fits 32 e && fits 32 f
  | .lssFastscan _ n k _ _ => fits 32 n && fits 8 k
  | .dhcpLease a b c => fits 32 a && fits 32 b && fits 32 c
  | .arpRequest _ ip | .icmpEcho _ ip => fits 32 ip
  | .pdPullRequest n => fits 32 n
  | .commandTelegram a b d => fits 32 a && fits 32 b && bytesOk d
  | .gatewayRead p _ i s => p.wf && fits 16 i && fits 8 s
  | .gatewayWrite p _ i s d => p.wf && fits 16 i && fits 8 s && bytesOk d
  | .ptpSyncReceived o d g u p => fitsInt 64 o && fits 64 d && fits 64 g && fitsInt 16 u && fits 32 p.intervalMs
  | .sntpReply t n _ => fits 64 t && fits 8 n
  | .dictionaryWrite p i s d => p.wf && fits 16 i && fits 8 s && bytesOk d
  | .storeAll p n | .storeCommunication p n | .storeApplication p n | .restoreAll p n | .restoreCommunication p n
  | .restoreApplication p n => p.wf && fits 32 n
  | .modeSelectWrite p v => p.wf && fits 8 v
  | .legacyStagedWrite i s v => fits 16 i && fits 8 s && fits 32 v
  | .updateChunk p d | .doorwayBlockImport p d | .authorisationResponse p d => p.wf && bytesOk d
  | .maintenanceKeyWrite p k => p.wf && bytesOk k && k.length == 32
  | .testEvent p n => p.wf && fits 8 n
  | .beltConditionConfirmed _ | .beltStepDown | .survey | .frameOverrun _ _ | .sliceWatchdog _ _ | .openButton _ _
  | .crewCloseInput _ | .emergencyHandleOperated _ | .emergencyHandleNormal _ | .selectiveEnableChange _
  | .releasePairChange _ _ | .tractionInputChange _ | .warningTimeElapsed _ | .autoCloseDwellExpiry _
  | .closedSettleElapsed _ | .lockProvingTimeout _ | .lockTimeout _ | .reclosePauseElapsed _ | .openingRetryDelayExpiry _
  | .strokeTimeout _ _ | .homingTimeout _ | .isolationSwitchInput _ _ | .drainBoundExpiry _ | .drainComplete _
  | .jogRefreshExpiry _ | .pairDiscrepancyLatch _ | .regrantHoldoffExpiry _ | .tractionOpenLoopTimeout
  | .retargetStopComplete _ _ | .stallConfirmed _ | .lockZoneStallRelease _ | .axisOvercurrentTrip _ | .axisRetryDue _
  | .axisRetryRestore _ | .axisThermalLatch _ | .axisThermalClear _ | .obstacleConfirmed _ _ | .estimateInvalidObstacle _
  | .obstacleStopEnd _ _ | .obstacleStopTimeout _ _ | .edgeFaultClear _ _ | .inputLossDeclared | .powerLossCommit
  | .motorBusFault _ | .restDelayExpiry | .restWake | .restBusReady | .operatingTimeSave | .channelOvercurrentTrip _
  | .channelShortCircuitTrip _ | .channelThermalClear _ | .channelRetryDue _ | .channelRetryRestore _
  | .channelLatchOffClear _ | .openLoadDetected _ | .bankSupplyFault _ _ | .inputFilterChange _
  | .receiverFreshnessTimeout _ | .inputRangeFault _ _ | .plausibilityFault _ _ | .expectationTimeout _ _
  | .inputFaultClear _ | .tiFunctionFaultReset _ | .tiFunctionEmergencyReset _ | .tiFunctionAutoCloseSuspend _ _
  | .commandSourceTimeout _ | .networkPermitTimeout | .commitApply | .ackTimeout | .standbyNoCommitTimeout
  | .seamMonitorTimeout | .fullCopyStart | .strobeLossRevocation | .grantFromNoGrant | .holdWindowExpiry | .railDisagreement
  | .beliefMismatch _ | .switchover | .holdRelease | .lockstepMismatch _ _ _ _ | .uncorrectableMemoryError _
  | .logicSupplyFail | .seamUpTimeout _ | .rateDetectionTimeout _ | .cleanRunElapsed _ | .laneRestart _ | .liningEntry
  | .nandEraseComplete _ _ | .chatterWindowEnd _ | .clearErase _ | .canCandidateTimeout _ | .canErrorPassive _ | .canBusOff _
  | .canBusOffRecovery _ | .canQuarantineEnd _ | .canTimeTagReached _ _ | .canFrameSent _ _ | .canNoAckAbort _ _
  | .canCancel _ _ _ _ | .solitaryBeacon _ | .sdoTransferTimeout _ | .rpdoDeadlineExpiry _ | .tpdoTransmit _
  | .syncWindowClose | .syncProduce | .heartbeatProduce | .heartbeatConsumerTimeout _ | .lssSwitchStateGlobal _ _
  | .lssStoreConfiguration _ | .lssInquire _ _ | .lssIdentifyNonconfigured _ | .backboneLinkLoss _ | .dhcpTimeout
  | .statusTelegramDue | .sntpPoll | .syncSourceTimeout | .ptpReturn | .storeComplete _ | .legacyBusIdleAccept
  | .prepareComplete | .leapfrogStepDone _ | .serviceWindowExpiry | .occurrenceHoldExpiry _ _ | .backupDomainSupplyFail
  | .enclosureCoverOpened | .backboneLinkRestored _ | .codingPlugChange _ | .openPhaseDetected _ | .chunkReportTimeout
  | .openLoadCleared _ | .bankFaultCleared _ | .canBusOffEventClear _ | .grantRequestWaitExpiry _
  | .trainOutputThermalShutdown _ | .trainOutputThermalRestart _ => true

end Sys2Proof
end

