-- ==== Sys2Proof/Tests/Slice0.lean ====
section
/-! SUPPORT. Tests: ill-formed terms that the checks refuse, the specification's worked examples, and for every statement
with hypotheses concrete states and operands that meet them, one per clause. -/

open Sys2Proof Sys2Proof.Machine

namespace Sys2Proof.Tests

/-! ## Ill-formed commands -/

set_option maxRecDepth 4000 in
theorem test_wf_refuses_samples : ([
    (.stitch { StitchSample.quiet with inputs := [(.ti 0, 40000)] }),
       (.stitch { StitchSample.quiet with edges := [(0, .ea, 2 ^ 32)] }),
       (.stitch { StitchSample.quiet with codes := [(0, 8)] }),
       (.stitch { StitchSample.quiet with axes := [⟨0, 2 ^ 31, 0, 0, 0, 0, 0, true, 1, 0, 0⟩] }),
       (.stitch { StitchSample.quiet with axes := [⟨0, 0, 0, 0, 0, 0, 0, true, 8, 0, 0⟩] }),
       (.stitch { StitchSample.quiet with supply := some ⟨65536, 0, 0, 0⟩ }),
       (.frameWork { FrameSample.quiet with banks := [(0, 65536)] }),
       (.frameWork { FrameSample.quiet with chans := [⟨0, 0, 0, 513, false⟩] }),
       (.frameWork { FrameSample.quiet with therms := [(0, 32768)] }),
       (.frameWork { FrameSample.quiet with loopA := some ⟨true, true, 65536, 0⟩ }),
       (.frameWork { FrameSample.quiet with loopB := some ⟨true, true, 0, 65536⟩ }),
       (.frameWork { FrameSample.quiet with maskReadback := some (2 ^ 24) }),
       (.frameWork { FrameSample.quiet with power := some (65536, 0, 0, 0) }),
       (.frameWork { FrameSample.quiet with energy := [(0, 2 ^ 32)] }),
       (.frameWork { FrameSample.quiet with deltaBlocks := 65536 }),
       (.frameWork { FrameSample.quiet with cycles := 2 ^ 32 })] : List Instr).all (fun i => !i.wf) = true := by decide

set_option maxRecDepth 4000 in
theorem test_wf_refuses_accesses : ([
    (.openCommand (.gateway (2 ^ 32)) 0), (.leafCountWrite .x9 0 256), (.jogWrite .x9 0 128),
       (.contourSheetWrite .x9 0 (.opening [0])), (.contourSheetWrite .x9 0 (.closing (List.replicate 256 32768))),
       (.contourSheetWrite .x9 0 (.mass 65536)), (.contourSheetWrite .x9 0 (.viscous 65536)),
       (.stageEntry .x9 0 (2 ^ 64)), (.axisTargetWrite .x9 0 (2 ^ 31)), (.liveLimitWrite .x9 0 .vMax (2 ^ 32)),
       (.channelCommandWrite .x9 0 256), (.cursorPositionWrite .x9 0 (2 ^ 48)), (.cursorRead .x9 0 [2 ^ 48]),
       (.dictionaryWrite .x9 65536 0 []), (.dictionaryWrite .x9 0 256 []), (.dictionaryWrite .x9 0 0 [256]),
       (.storeAll .x9 (2 ^ 32)), (.modeSelectWrite .x9 256), (.legacyStagedWrite 65536 0 0),
       (.legacyStagedWrite 0 256 0), (.legacyStagedWrite 0 0 (2 ^ 32)), (.updateChunk .x9 [256]),
       (.doorwayBlockImport .x9 [256]), (.authorisationResponse .x9 [256]), (.maintenanceKeyWrite .x9 [0]),
       (.testEvent .x9 256)] : List Instr).all (fun i => !i.wf) = true := by decide

set_option maxRecDepth 4000 in
theorem test_wf_refuses_hardware : ([
    (.gateComparatorChange 0 65536), (.bankSupplyLost 0 65536), (.inputReturn 65536), (.holdupMeasurement 65536),
       (.cellMeasurement 65536), (.mirrorTransaction 0 true 25001 0), (.mirrorTransaction 0 true 44 (2 ^ 64)),
       (.mirrorSelectDeassert (2 ^ 64)), (.channelThermalLatch 0 32768 0), (.channelThermalLatch 0 0 32768),
       (.powerGood true 65536 0 true),
       (.laneStart .a ⟨65536, (true, true), .passed, true, true, true, 0, true, true, true, []⟩),
       (.laneStart .a ⟨0, (true, true), .passed, true, true, true, 3, true, true, true, []⟩),
       (.laneStart .a ⟨0, (true, true), .passed, true, true, true, 0, true, true, true, List.replicate 8 0⟩),
       (.injectionDue .a (.rawMissing 5 0 0)), (.injectionDue .a (.residual 0 5)),
       (.nandWrite .a (List.replicate 513 true))] : List Instr).all (fun i => !i.wf) = true := by decide

set_option maxRecDepth 4000 in
theorem test_wf_refuses_seam : ([
    (.seamBlockReceived ⟨.one, .a, true, false, 65536, 0, 0, 0, 1, .delta⟩),
       (.seamBlockReceived ⟨.one, .a, true, false, 0, 2 ^ 32, 0, 0, 1, .delta⟩),
       (.seamBlockReceived ⟨.one, .a, true, false, 0, 0, 2 ^ 32, 0, 1, .delta⟩),
       (.seamBlockReceived ⟨.one, .a, true, false, 0, 0, 0, 65536, 1, .delta⟩),
       (.seamBlockReceived ⟨.one, .a, true, false, 0, 0, 0, 0, 65536, .delta⟩),
       (.seamBlockReceived ⟨.one, .a, true, false, 0, 0, 0, 0, 1, .digest true true 4096⟩),
       (.seamBlockReceived ⟨.one, .a, true, false, 0, 0, 0, 0, 1, .fault ⟨9, 0, 0, 0⟩⟩),
       (.seamBlockReceived ⟨.one, .a, true, false, 0, 0, 0, 0, 1, .linkAck [2 ^ 32]⟩),
       (.seamBlockReceived ⟨.one, .a, true, false, 0, 0, 0, 0, 1, .status ⟨0, 0, 0, true, 11, 0, none, none⟩⟩),
       (.linkAckReceived ⟨.a, .one⟩ [2 ^ 32]), (.seamResendTimeout ⟨.a, .one⟩ (2 ^ 32)), (.linkRetrain .one 65536),
       (.commitAckReceived ⟨0, 2, 0, 0, List.replicate 12 0, 0⟩), (.commitAckReceived ⟨0, 0, 0, 0, [], 0⟩)] : List Instr).all (fun i => !i.wf) = true := by decide

set_option maxRecDepth 4000 in
theorem test_wf_refuses_networks : ([
    (.canFrameReceived .x7 (.frame ⟨2048, false, false, false, false, []⟩)),
       (.canFrameReceived .x7 (.frame ⟨2 ^ 29, true, false, false, false, []⟩)),
       (.canFrameReceived .x7 (.frame ⟨0, false, false, false, false, List.replicate 9 0⟩)),
       (.canFrameReceived .x7 (.frame ⟨0, false, false, true, false, List.replicate 65 0⟩)),
       (.canSubmit .x7 0 (2 ^ 29) none []), (.canSubmit .x7 0 0 (some (2 ^ 64)) []), (.canSubmit .x7 0 0 none [256]),
       (.canSubmit .x7 0 0 none (List.replicate 65 0)), (.nmtStartRemoteNode .x7 256),
       (.sdoRequest .x7 0 (.upload 65536 0)), (.sdoRequest .x7 0 (.upload 0 256)),
       (.sdoRequest .x7 0 (.downloadInit 0 0 (2 ^ 32))), (.sdoRequest .x7 0 (.blockUploadInit 0 0 256)),
       (.sdoRequest .x7 0 (.downloadSegment false [256] true)), (.sdoRequest .x7 0 (.abort (2 ^ 32))),
       (.rpdoReceived .x7 0 (List.replicate 65 0)), (.syncReceived .x7 (some 256)), (.timeReceived .x7 0 1000),
       (.lssSwitchStateSelective .x7 0 0 0 (2 ^ 32)), (.lssConfigureNodeId .x7 256),
       (.lssConfigureBitTiming .x7 256 0), (.lssActivateBitTiming .x7 65536),
       (.lssIdentifyRemoteSlave .x7 0 0 0 0 0 (2 ^ 32)), (.lssFastscan .x7 (2 ^ 32) 0 0 0), (.dhcpLease (2 ^ 32) 0 0),
       (.arpRequest false (2 ^ 32)), (.pdPullRequest (2 ^ 32)), (.commandTelegram 0 (2 ^ 32) []),
       (.gatewayRead .x9 true 65536 0), (.gatewayWrite .x9 true 0 0 [256]),
       (.ptpSyncReceived 0 (2 ^ 64) 0 0 ⟨true, 0⟩), (.ptpSyncReceived 0 0 0 0 ⟨true, 2 ^ 32⟩),
       (.sntpReply (2 ^ 64) 1 false), (.sntpReply 0 256 false)] : List Instr).all (fun i => !i.wf) = true := by decide

theorem test_wf_accepts : ([(.openCommand .sdo1 11), (.stitch StitchSample.quiet), (.frameWork FrameSample.quiet),
    (.stageEntry .x9 0 (2 ^ 64 - 1)), (.jogWrite .x9 0 (-128)), (.axisTargetWrite .x9 35 (-2 ^ 31))] : List Instr).all (fun i => i.wf) = true := by
  decide

/-! ## Worked examples of the specification -/

/-- No row of the table gives bits: no word spells a command. -/
theorem test_no_word_is_a_command : decodeTableWord 32 0xFFFFFFFF = none := by decide

/-- A command in front of the queue is taken; an empty queue idles. -/
theorem test_idle : step State.reset = .next State.reset := rfl

/-- Scope: D5.CH1 is channel 65; axes of doorway 5 are 13, 14, 15 (00_scope.md, numbering). -/
theorem test_numbering : (chanOf 4 0).val + 1 = 65 ∧ (axisOf 4 0).val + 1 = 13 ∧ (axisOf 4 2).val + 1 = 15 ∧
    axisDoor 13 = 4 ∧ chanDoor 64 = 4 := by decide

set_option maxRecDepth 4000 in
/-- The check value of CRC-32C over the digits 1 to 9 (R308). -/
theorem test_crc32c : crc32c [0x31, 0x32, 0x33, 0x34, 0x35, 0x36, 0x37, 0x38, 0x39] = 0xE3069283 := by decide

/-- The retarget stop from 400,000 µm/s takes 0.9 s and 180,000 µm (R121). -/
theorem test_retarget_stop : segsTicks (place 1 (stopPieces 400000 0 500000 5000000) 0) = 900 * ticksPerMs ∧
    (stopDistance 400000 0 500000 5000000 + 128) / 256 = 180000 := by decide

set_option maxRecDepth 8000 in
/-- The return move of 270,000 µm to the open end takes 1,746 ms and peaks at 336,420 µm/s (R121). -/
theorem test_return_move :
    ((planMove ⟨500000, 500000, 500000, 5000000, 50000, 25000, 10000, 690000⟩ true .stroke (420000 * 256) 690000 0).total + ticksPerMs / 2) / ticksPerMs = 1746 ∧
    (planMove ⟨500000, 500000, 500000, 5000000, 50000, 25000, 10000, 690000⟩ true .stroke (420000 * 256) 690000 0).vc = 336420 := by decide

/-- The obstacle stop of the worked example (R168, R169): from 350,000 µm/s toward closed at 409,956 µm it takes 70 ms over
12,250 µm, to 397,706 µm. -/
theorem test_obstacle_stop : (planObstacleStop (409956 * 256) (-350000) 0 5000000).total = 70 * ticksPerMs ∧
    (planObstacleStop (409956 * 256) (-350000) 0 5000000).target = 397706 * 256 := by decide

set_option maxRecDepth 100000 in
/-- SHA-256 of "abc", the standard's own example (R358, R560). -/
theorem test_sha256 : sha256 [0x61, 0x62, 0x63] =
    [0xba, 0x78, 0x16, 0xbf, 0x8f, 0x01, 0xcf, 0xea, 0x41, 0x41, 0x40, 0xde, 0x5d, 0xae, 0x22, 0x23,
     0xb0, 0x03, 0x61, 0xa3, 0x96, 0x17, 0x7a, 0x9c, 0xb4, 0x10, 0xff, 0x61, 0xf2, 0x00, 0x15, 0xad] := by decide +kernel

/-- A network open request without the side's token is refused with result 2 (R618). -/
theorem test_open_refused_without_token : Image.reset.openRefusal 0 .network false = 2 := by decide

/-- The order of decisions of one frame: withdrawals, abandonments, relocks, grants, unlocks (R316). -/
theorem test_action_order : (LedgerAction.withdraw .b 1).rank < (LedgerAction.abandon 0 2).rank ∧
    (LedgerAction.abandon 11 2).rank < (LedgerAction.relock 0).rank ∧ (LedgerAction.relock 11).rank < (LedgerAction.grant .a).rank ∧
    (LedgerAction.grant .b).rank < (LedgerAction.unlock 0).rank := by decide

/-- The state codes 0 and 14 are Isolated and Manual; the step-extending state is 3 (R14). -/
theorem test_state_codes : DState.isolated.code = 0 ∧ DState.stepExtending.code = 3 ∧ DState.manual.code = 14 := by decide

/-! ## Small states -/

/-- A module that Lane A runs, with Lane B operational, at frame 100,000, after some changes of its working image. -/
def live (edits : List (Image → Image)) : State :=
  { State.reset with
    powered := true
    buckle := { Buckle.reset with railP := 1, railQ := 1, selfTest := true }
    lanes := ⟨{ LaneState.reset with st := .operational, phase := 9, active := true },
      { LaneState.reset with st := .operational, phase := 9 }⟩
    hold := { Hold.reset with st := 0 }
    img := edits.foldl (fun im f => f im) { Image.reset with clk := { Clock.reset with frame := 100000, opMs := 100000 } } }

/-- A register of the module, of a doorway, of an axis, of a channel. -/
def R (idx sub v : Nat) (im : Image) : Image := im.setReg idx sub v
def RD (d : Door) (off sub v : Nat) : Image → Image := R (bBase d.val + off) sub v
def RA (a : Axis) (off sub v : Nat) : Image → Image := R (aBase a.val + off) sub v
def RC (c : Chan) (off sub v : Nat) : Image → Image := R (cBase c.val + off) sub v
/-- A doorway, an axis, a channel, a port. -/
def D (d : Door) (f : Doorway → Doorway) (im : Image) : Image := im.onDoor d f
def A (a : Axis) (f : AxisState → AxisState) (im : Image) : Image := im.onAxis a f
def C (c : Chan) (f : Channel → Channel) (im : Image) : Image := im.onChan c f
def P (q : Port) (f : CanPort → CanPort) (im : Image) : Image := im.onPort q f
/-- The state of a doorway. -/
def st (d : Door) (x : DState) : Image → Image := D d (fun y => { y with st := x })
/-- An input of a doorway that reads true and holds a role. -/
def role (d : Door) (n : Fin 12) (r : Nat) (on : Bool) (im : Image) : Image :=
  RD d 9 (n.val + 1) r (im.onDoor d (fun x => { x with dis := x.dis.set n { DIn.reset with raw := on, filt := on, img := on } }))
/-- An authorisation is open on the first SDO server's path. -/
def auth (im : Image) : Image :=
  im.onUpd (fun u => { u with
    key := some [1], auth := [{ AuthPath.closed .sdo1 with openedAt := some 99990, lastRwa := 99990 }] })

/-! ## Witnesses -/

theorem witness_CycleTimersMoveTheDoorway :
  (let s : State := live [D 0 (fun x => { x with st := .warning, timers := { x.timers with warning := some 90000 } })];
     let d : Door := 0;
     s.running = true ∧ (s.img.door d).moved = false ∧ (s.img.door d).st = .warning ∧
       s.img.elapsed (s.img.door d).timers.warning (s.img.dreg d 7 1) = true) ∧
  (let s : State := live [D 0 (fun x => { x with st := .opened, timers := { x.timers with dwell := some 90000 } }), RD 0 3 9 5];
     let d : Door := 0;
     s.running = true ∧ (s.img.door d).moved = false ∧ (s.img.door d).st = .opened ∧
       (s.img.door d).dwellSuspended = false ∧ s.img.inp.suspend = false ∧ s.img.dreg d 3 9 ≠ 0 ∧
       s.img.elapsed (s.img.door d).timers.dwell (1000 * s.img.dreg d 3 9) = true ∧ s.img.curtainHolds d = false) ∧
  (let s : State := live [D 0 (fun x => { x with st := .reversing, timers := { x.timers with pause := some 90000 } })];
     let d : Door := 0;
     s.running = true ∧ (s.img.door d).moved = false ∧ (s.img.door d).st = .reversing ∧
       s.img.elapsed (s.img.door d).timers.pause (s.img.dreg d 4 3) = true) ∧
  (let s : State := live [D 11 (fun x => { x with st := .closedUnlocked, timers := { x.timers with settle := some 99900 } })];
     let d : Door := 11;
     s.running = true ∧ (s.img.door d).moved = false ∧ (s.img.door d).st = .closedUnlocked ∧
       s.img.elapsed (s.img.door d).timers.settle (s.img.dreg d 3 6) = true) := ⟨by decide, by decide, by decide, by decide⟩

theorem witness_LockAndMotionTimeouts :
  (let s : State := live [D 0 (fun x => { x with st := .opening, timers := { x.timers with lockProving := some 99000 } }), RD 0 0 3 0];
     let d : Door := 0;
     s.running = true ∧ (s.img.door d).moved = false ∧ s.img.fitted d = true ∧ (s.img.door d).st = .opening ∧
       s.img.elapsed (s.img.door d).timers.lockProving (s.img.dreg d 3 4) = true) ∧
  (let s : State := live [D 0 (fun x => { x with st := .locking, timers := { x.timers with lock := some 98500 } })];
     let d : Door := 0;
     s.running = true ∧ (s.img.door d).moved = false ∧ s.img.fitted d = true ∧ (s.img.door d).st = .locking ∧
       s.img.elapsed (s.img.door d).timers.lock (s.img.dreg d 3 5) = true) ∧
  (let s : State := live [D 0 (fun x => { x with st := .closing, leaves := { x.leaves with strokeUsed := 9, strokeLimit := 9, move := some ⟨.stroke, 0, 700000, [], 0, 4096, false, 3000, 300000, false, 4096, 0⟩ } })];
     let d : Door := 0;
     let g : Group := .leaves;
     s.running = true ∧ s.img.fitted d = true ∧ (s.img.door d).moved = false ∧ (s.img.door d).st.moving = true ∧
       (s.img.gen d g).strokeLimit ≠ 0 ∧ (((s.img.gen d g).move.isSome = true ∨ (s.img.gen d g).stallHeld = true)) ∧
       (s.img.gen d g).strokeLimit ≤ (s.img.gen d g).strokeUsed) ∧
  (let s : State := live [D 11 (fun x => { x with homing := true, timers := { x.timers with homing := some 0 } })];
     let d : Door := 11;
     s.running = true ∧ s.img.fitted d = true ∧ (s.img.door d).moved = false ∧ (s.img.door d).homing = true ∧
       s.img.elapsed (s.img.door d).timers.homing (s.img.homingBound d) = true) ∧
  (let s : State := live [D 0 (fun x => { x with st := .opening, again := some .leaves, timers := { x.timers with retry := some 98000 } })];
     let d : Door := 0;
     s.running = true ∧ s.img.fitted d = true ∧ (s.img.door d).st = .opening ∧ (s.img.door d).again = some .leaves ∧
       s.img.elapsed (s.img.door d).timers.retry (s.img.dreg d 4 4) = true) := ⟨by decide, by decide, by decide, by decide, by decide⟩

theorem witness_OpenRequests :
  (let s : State := live [st 0 .released, RD 0 0 3 0, RD 0 2 3 4, fun im => { im with permits := { im.permits with sideA := { im.permits.sideA with held := true } } }];
     let d : Door := 0;
     let p : Path := .sdo1;
     s.running = true ∧ s.takes p (bBase d.val + 2) 1 [1] ∧ s.img.openRefusal d .network (s.img.openTimedOut d) = 0 ∧
       (s.img.door d).st = .released ∧ s.img.doorPending d = false ∧ s.img.stepFitted d = false) ∧
  (let s : State := live [st 0 .released, RD 0 2 3 4, fun im => { im with permits := { im.permits with sideA := { im.permits.sideA with held := true } } }];
     let d : Door := 0;
     let p : Path := .sdo1;
     s.running = true ∧ s.takes p (bBase d.val + 2) 1 [1] ∧ s.img.openRefusal d .network (s.img.openTimedOut d) = 0 ∧
       (s.img.door d).st = .released ∧ s.img.doorPending d = false ∧ s.img.stepFitted d = true ∧
       s.img.dreg d 6 1 ≠ 0 ∧ s.img.roleTrue d 13 = false) ∧
  (let s : State := live [D 0 (fun x => { x with st := .warning, autoOnly := true }), RD 0 2 3 4, fun im => { im with permits := { im.permits with sideA := { im.permits.sideA with held := true } } }];
     let d : Door := 0;
     let p : Path := .sdo1;
     s.running = true ∧ s.takes p (bBase d.val + 2) 1 [1] ∧ s.img.openRefusal d .network (s.img.openTimedOut d) = 0 ∧
       (s.img.door d).st = .warning ∧ (s.img.door d).autoOnly = true) ∧
  (let s : State := live [st 0 .closing, RD 0 4 6 1, RD 0 2 3 4, fun im => { im with permits := { im.permits with sideA := { im.permits.sideA with held := true } } }];
     let d : Door := 0;
     let p : Path := .sdo1;
     s.running = true ∧ s.takes p (bBase d.val + 2) 1 [1] ∧ s.img.openRefusal d .network (s.img.openTimedOut d) = 0 ∧
       (s.img.door d).st = .closing ∧ s.img.dreg d 4 6 = 1) ∧
  (let s : State := live [st 0 .opened, RD 0 2 3 4, fun im => { im with permits := { im.permits with sideA := { im.permits.sideA with held := true } } }];
     let d : Door := 0;
     let p : Path := .sdo1;
     s.running = true ∧ s.takes p (bBase d.val + 2) 1 [1] ∧ s.img.openRefusal d .network (s.img.openTimedOut d) = 0 ∧
       (((s.img.door d).st = .released ∧ s.img.doorPending d = true) ∨ ((s.img.door d).st = .warning ∧
       (s.img.door d).autoOnly = false) ∨ ((s.img.door d).st = .closing ∧
       s.img.dreg d 4 6 ≠ 1) ∨ (s.img.door d).st ∉ [.released, .warning, .closing])) ∧
  (let s : State := live [st 0 .closing, RD 0 4 6 0, RD 0 2 3 4, fun im => { im with permits := { im.permits with sideA := { im.permits.sideA with held := true } } }];
     let d : Door := 0;
     let p : Path := .sdo1;
     s.running = true ∧ s.takes p (bBase d.val + 2) 1 [1] ∧ s.img.openRefusal d .network (s.img.openTimedOut d) = 0 ∧
       (((s.img.door d).st = .released ∧ s.img.doorPending d = true) ∨ ((s.img.door d).st = .warning ∧
       (s.img.door d).autoOnly = false) ∨ ((s.img.door d).st = .closing ∧
       s.img.dreg d 4 6 ≠ 1) ∨ (s.img.door d).st ∉ [.released, .warning, .closing])) ∧
  (let s : State := live [st 0 .released, RD 0 0 3 0, role 0 1 5 false, fun im => { im with permits := { im.permits with sideA := { im.permits.sideA with held := true } } }];
     let d : Door := 0;
     let outside : Bool := false;
     s.running = true ∧ (s.img.door d).st = .released ∧ s.img.stepFitted d = false ∧ s.img.doorPending d = false ∧
       s.img.fitted d = true ∧ s.img.roleHeld d (if outside then 6 else 5) = true ∧
       bitOf (s.img.dreg d 2 3) (if outside then 1 else 0) = true ∧
       (s.img.doorInput d (if outside then 6 else 5) true).openRefusal d (if outside then .outside else .inside) false = 0) ∧
  (let s : State := live [st 0 .released, RD 0 0 3 0, role 0 11 6 false, fun im => { im with permits := { im.permits with sideA := { im.permits.sideA with held := true } } }];
     let d : Door := 0;
     let outside : Bool := true;
     s.running = true ∧ (s.img.door d).st = .released ∧ s.img.stepFitted d = false ∧ s.img.doorPending d = false ∧
       s.img.fitted d = true ∧ s.img.roleHeld d (if outside then 6 else 5) = true ∧
       bitOf (s.img.dreg d 2 3) (if outside then 1 else 0) = true ∧
       (s.img.doorInput d (if outside then 6 else 5) true).openRefusal d (if outside then .outside else .inside) false = 0) ∧
  (let s : State := live [st 0 .released];
     let d : Door := 0;
     let p : Path := .sdo1;
     s.takes p (bBase d.val + 2) 1 [1] ∧ s.img.openRefusal d .network (s.img.openTimedOut d) ≠ 0) :=
  ⟨by unfold State.takes; decide, by unfold State.takes; decide, by unfold State.takes; decide,
      by unfold State.takes; decide, by unfold State.takes; decide, by unfold State.takes; decide, by decide,
      by decide, by unfold State.takes; decide⟩

theorem witness_CloseRequestsStartTheWarning :
  (let s : State := live [st 0 .opened];
     let d : Door := 0;
     let p : Path := .sdo1;
     s.takes p (bBase d.val + 2) 1 [2]) ∧
  (let s : State := live [st 0 .opened];
     let d : Door := 0;
     let p : Path := .sdo1;
     s.takes p (bBase d.val + 2) 1 [2] ∧ (s.img.door d).moved = false ∧
       ((s.img.door d).st = .opening ∨ ((s.img.door d).st = .opened ∧
       s.img.curtainHolds d = false) ∨ ((s.img.door d).st = .faultHeld ∧ s.img.doorLatches d = 0))) ∧
  (let s : State := live [st 0 .opened, RD 0 5 4 1, role 0 11 11 true];
     let d : Door := 0;
     let p : Path := .sdo1;
     s.takes p (bBase d.val + 2) 1 [2]) ∧
  (let s : State := live [st 0 .opened, RD 0 5 4 1, role 0 11 11 true];
     let d : Door := 0;
     let p : Path := .sdo1;
     s.takes p (bBase d.val + 2) 1 [2] ∧ (s.img.door d).moved = false ∧ (s.img.door d).st = .opened ∧
       s.img.curtainHolds d = true) ∧
  (let s : State := live [st 0 .warning];
     let d : Door := 0;
     let p : Path := .sdo1;
     s.takes p (bBase d.val + 2) 1 [2]) ∧
  (let s : State := live [st 0 .warning];
     let d : Door := 0;
     let p : Path := .sdo1;
     s.takes p (bBase d.val + 2) 1 [2] ∧ (s.img.door d).st = .warning) ∧
  (let s : State := live [D 0 (fun x => { x with st := .opening, moved := true })];
     let d : Door := 0;
     let p : Path := .sdo1;
     s.takes p (bBase d.val + 2) 1 [2]) ∧
  (let s : State := live [D 0 (fun x => { x with st := .opening, moved := true })];
     let d : Door := 0;
     let p : Path := .sdo1;
     s.takes p (bBase d.val + 2) 1 [2] ∧ (s.img.door d).moved = true ∧
       (((s.img.door d).st = .opening ∨ (s.img.door d).st = .opened ∨ (s.img.door d).st = .faultHeld))) ∧
  (let s : State := live [st 0 .opened, role 0 3 12 false];
     let d : Door := 0;
     s.running = true ∧ s.img.fitted d = true ∧ s.img.roleHeld d 12 = true ∧ (s.img.door d).moved = false ∧
       ((s.img.door d).st = .opening ∨ ((s.img.door d).st = .opened ∧
       (s.img.doorInput d 12 true).curtainHolds d = false))) ∧
  (let s : State := live [st 0 .opened, role 0 3 12 false, RD 0 5 4 1, role 0 11 11 true];
     let d : Door := 0;
     s.running = true ∧ s.img.fitted d = true ∧ s.img.roleHeld d 12 = true ∧ (s.img.door d).moved = false ∧
       (s.img.door d).st = .opened ∧ (s.img.doorInput d 12 true).curtainHolds d = true) ∧
  (let s : State := live [st 0 .opened, st 1 .opening];
     s.running = true) :=
  ⟨by unfold State.takes; decide, by unfold State.takes; decide, by unfold State.takes; decide,
      by unfold State.takes; decide, by unfold State.takes; decide, by unfold State.takes; decide,
      by unfold State.takes; decide, by unfold State.takes; decide, by decide, by decide, by decide⟩

theorem witness_EmergencyHandleRules :
  (let s : State := live [st 0 .locked, role 0 1 7 false];
     let d : Door := 0;
     s.running = true ∧ s.img.fitted d = true ∧ s.img.roleHeld d 7 = true ∧ (s.img.door d).st ≠ .isolated ∧
       (s.img.door d).st ≠ .manual ∧ (s.img.door d).st ≠ .emergency ∧ (s.img.door d).moved = false ∧
       (s.img.door d).handleSeen = false) ∧
  (let s : State := live [D 0 (fun x => { x with st := .closing, leaves := { x.leaves with move := some ⟨.stroke, 0, 700000, [], 0, 4096, false, 3000, 300000, false, 4096, 0⟩ } }), role 0 1 7 false];
     let d : Door := 0;
     s.running = true ∧ s.img.fitted d = true ∧ s.img.roleHeld d 7 = true ∧ (s.img.door d).st ≠ .isolated ∧
       (s.img.door d).st ≠ .manual ∧ (s.img.door d).st ≠ .emergency ∧ (s.img.door d).moved = false ∧
       (s.img.door d).handleSeen = false) ∧
  (let s : State := live [st 0 .isolated, role 0 1 7 false];
     let d : Door := 0;
     s.running = true ∧ s.img.fitted d = true ∧ s.img.roleHeld d 7 = true ∧
       (((s.img.door d).st = .isolated ∨ (s.img.door d).st = .manual)) ∧ (s.img.door d).handleSeen = false) ∧
  (let s : State := live [D 0 (fun x => { x with st := .isolated, handleSeen := true }), role 0 1 7 true];
     let d : Door := 0;
     s.running = true ∧ (((s.img.door d).st = .isolated ∨ (s.img.door d).st = .manual)) ∧
       (s.img.door d).handleSeen = true ∧ (s.img.doorInput d 7 false).handle d = false) ∧
  (let s : State := live [st 0 .emergency];
     let d : Door := 0;
     let p : Path := .sdo1;
     s.running = true ∧ s.takes p (bBase d.val + 2) 1 [4] ∧ (s.img.door d).st = .emergency ∧
       (s.img.door d).moved = false ∧ bitOf (s.img.dreg d 0x0C 2) 0 = true ∧ s.img.handle d = false) ∧
  (let s : State := live [st 0 .emergency, fun im => { im with inp := { im.inp with functions := im.inp.functions.set 0 5 } }, RD 0 0x0C 2 3, R 0x2403 1 5];
     let d : Door := 0;
     let n : Fin 5 := 0;
     s.running = true ∧ s.img.tiFunction n = 5 ∧ s.img.ti (functionInput n) = false ∧
       (s.img.trainInput (functionInput n) true).ti (functionInput n) = true ∧ s.img.fitted d = true ∧
       (s.img.door d).st = .emergency ∧ (s.img.door d).moved = false ∧ bitOf (s.img.dreg d 0x0C 2) 1 = true ∧
       s.img.handle d = false) := ⟨by decide, by decide, by decide, by decide, by unfold State.takes; decide, by decide⟩

theorem witness_FaultResetsReleaseLatches :
  (let s : State := live [st 0 .locked];
     let d : Door := 0;
     let p : Path := .sdo1;
     s.running = true ∧ s.takes p (bBase d.val + 0x10) 2 [1]) ∧
  (let s : State := live [st 0 .faultHeld, RD 0 0 2 1, role 0 0 0 true, role 0 1 2 true];
     let d : Door := 0;
     let p : Path := .sdo1;
     s.running = true ∧ s.takes p (bBase d.val + 2) 1 [3] ∧ (s.img.door d).st = .faultHeld ∧
       (s.img.door d).moved = false ∧ s.img.lockedProven d = true) ∧
  (let s : State := live [R 0x2403 5 4, fun im => { im with inp := { im.inp with functions := im.inp.functions.set 4 4 } }, D 0 (fun x => { x with st := .faultHeld })];
     let d : Door := 0;
     let n : Fin 5 := 4;
     s.running = true ∧ s.img.tiFunction n = 4 ∧ s.img.ti (functionInput n) = false ∧
       (s.img.trainInput (functionInput n) true).ti (functionInput n) = true ∧ s.img.fitted d = true) := ⟨by unfold State.takes; decide, by unfold State.takes; decide, by decide⟩

theorem witness_IsolationAndReturn :
  (let s : State := live [st 0 .locked];
     let d : Door := 0;
     let p : Path := .sdo1;
     s.running = true ∧ s.takes p (bBase d.val + 0x11) 1 [1] ∧ (s.img.door d).drain = none ∧
       (s.img.door d).moved = false ∧ s.img.recordsPending (doorScope d) = false ∧
       (((s.img.door d).st = .locked ∨ (s.img.door d).st = .released))) ∧
  (let s : State := live [st 0 .locked];
     let d : Door := 0;
     let p : Path := .sdo1;
     s.running = true ∧ s.takes p (bBase d.val + 0x11) 1 [2] ∧ (s.img.door d).st ≠ .isolated ∧
       (s.img.door d).moved = false) ∧
  (let s : State := live [st 0 .released];
     let d : Door := 0;
     let p : Path := .sdo1;
     s.running = true ∧ s.takes p (bBase d.val + 0x11) 1 [1] ∧ (s.img.door d).drain = none ∧
       (s.img.door d).moved = false ∧ s.img.recordsPending (doorScope d) = false ∧
       (((s.img.door d).st = .locked ∨ (s.img.door d).st = .released))) ∧
  (let s : State := live [st 0 .released];
     let d : Door := 0;
     let p : Path := .sdo1;
     s.running = true ∧ s.takes p (bBase d.val + 0x11) 1 [2] ∧ (s.img.door d).st ≠ .isolated ∧
       (s.img.door d).moved = false) ∧
  (let s : State := live [D 0 (fun x => { x with st := .closing, moved := true })];
     let d : Door := 0;
     let p : Path := .sdo1;
     s.running = true ∧ s.takes p (bBase d.val + 0x11) 1 [2] ∧ (s.img.door d).st ≠ .isolated ∧
       (s.img.door d).moved = true) ∧
  (let s : State := live [D 0 (fun x => { x with st := .isolated }), RD 0 0x11 2 2, RD 0 0x11 3 1];
     let d : Door := 0;
     let p : Path := .sdo1;
     s.running = true ∧ s.takes p (bBase d.val + 0x11) 1 [3] ∧ (s.img.door d).moved = false ∧
       (s.img.door d).st = .isolated ∧ s.img.fitted d = true) ∧
  (let s : State := live [st 0 .locked, role 0 1 8 false];
     let d : Door := 0;
     s.running = true ∧ s.img.fitted d = true ∧ s.img.roleHeld d 8 = true ∧ (s.img.door d).st = .locked ∧
       (s.img.door d).drain = none ∧ (s.img.door d).moved = false ∧ s.img.recordsPending (doorScope d) = false ∧
       (s.img.doorInput d 8 true).roleTrue d 8 = true) ∧
  (let s : State := live [st 0 .isolated, role 0 1 8 true, RD 0 0x11 2 2, RD 0 0x11 3 2];
     let d : Door := 0;
     s.running = true ∧ s.img.fitted d = true ∧ s.img.roleHeld d 8 = true ∧ (s.img.door d).st = .isolated ∧
       s.img.dreg d 0x11 3 = 2 ∧ (s.img.doorInput d 8 false).roleTrue d 8 = false ∧ (s.img.door d).moved = false) :=
  ⟨by unfold State.takes; decide, by unfold State.takes; decide, by unfold State.takes; decide,
      by unfold State.takes; decide, by unfold State.takes; decide, by unfold State.takes; decide, by decide, by decide⟩

theorem witness_DrainsEndDisabled :
  (let s : State := live [D 0 (fun x => { x with st := .locked, drain := some ⟨99000, 0, none, .network⟩ })];
     let d : Door := 0;
     s.running = true ∧ (s.img.door d).drain.isSome = true ∧ (s.img.door d).st = .locked ∧
       (s.img.door d).moved = false ∧ s.img.recordsPending (doorScope d) = false) ∧
  (let s : State := live [D 0 (fun x => { x with st := .closing, drain := some ⟨99000, 0, some 90000, .network⟩ })];
     let d : Door := 0;
     let x : DoorDrain := ⟨99000, 0, some 90000, .network⟩;
     s.running = true ∧ (s.img.door d).drain = some x ∧ s.img.elapsed x.profileDone (s.img.dreg d 3 5) = true ∧
       (s.img.door d).moved = false) ∧
  (let s : State := live [A 0 (fun x => { x with drain := some ⟨99000, 0⟩ })];
     let a : Axis := 0;
     s.running = true ∧ (s.img.axis a).drain.isSome = true ∧ s.img.axisMoving a = false ∧
       s.img.recordsPending (doorScope (axisDoor a)) = false) ∧
  (let s : State := live [A 0 (fun x => { x with drain := some ⟨0, 10000000000⟩ })];
     let a : Axis := 0;
     let x : AxisDrain := ⟨0, 10000000000⟩;
     s.running = true ∧ (s.img.axis a).drain = some x ∧ s.img.strokeBound (axisDoor a) .leaves .stroke false ≤ x.ticks) ∧
  (let s : State := live [C 0 (fun x => { x with drain := some 99998 })];
     let c : Chan := 0;
     s.running = true ∧ (s.img.chan c).drain.isSome = true ∧ (s.img.chan c).flashing = false ∧
       s.img.recordsPending (doorScope (chanDoor c)) = false) ∧
  (let s : State := live [C 0 (fun x => { x with drain := some 99998 })];
     let c : Chan := 0;
     let f : Nat := 99998;
     s.running = true ∧ (s.img.chan c).drain = some f ∧ f + 2 ≤ s.img.now ∧
       s.img.recordsPending (doorScope (chanDoor c)) = false) ∧
  (let s : State := live [P .x7 (fun x => { x with st := .active, drain := some 99000 })];
     let q : Port := .x7;
     s.running = true ∧ s.img.portDrained q = true) ∧
  (let s : State := live [P .x7 (fun x => { x with st := .active, drain := some 99000 })];
     let q : Port := .x7;
     s.running = true ∧ (s.img.canPort q).drain.isSome = true) := ⟨by decide, by decide, by decide, by decide, by decide, by decide, by decide, by decide⟩

theorem witness_ManualModeRules :
  (let s : State := live [st 0 .isolated, auth];
     let d : Door := 0;
     let p : Path := .sdo1;
     s.running = true ∧ s.takes p (bBase d.val + 0x12) 1 [1] ∧ (s.img.door d).moved = false ∧
       (((s.img.door d).st = .faultHeld ∨ (s.img.door d).st = .isolated)) ∧ s.img.fitted d = true) ∧
  (let s : State := live [st 0 .manual, auth, RD 0 0x12 1 1];
     let d : Door := 0;
     let p : Path := .sdo1;
     s.running = true ∧ s.takes p (bBase d.val + 0x12) 1 [0] ∧ (s.img.door d).st = .manual ∧
       (s.img.door d).moved = false) ∧
  (let s : State := live [st 0 .manual];
     let d : Door := 0;
     let p : Path := .sdo1;
     let v : Int := (-1);
     s.running = true ∧ -128 ≤ v ∧ v ≤ 127 ∧ s.takes p (bBase d.val + 0x12) 2 (le 1 (encInt 8 v)) ∧
       (s.img.door d).st = .manual) ∧
  (let s : State := live [st 0 .manual];
     let d : Door := 0;
     let p : Path := .sdo1;
     let v : Int := 1;
     s.running = true ∧ -128 ≤ v ∧ v ≤ 127 ∧ s.takes p (bBase d.val + 0x12) 2 (le 1 (encInt 8 v)) ∧
       (s.img.door d).st = .manual) ∧
  (let s : State := live [D 0 (fun x => { x with st := .manual, jogFrame := 99800 }), RD 0 0x12 2 5];
     let d : Door := 0;
     s.running = true ∧ (s.img.door d).st = .manual ∧ s.img.dsreg d 0x12 2 ≠ 0 ∧
       (s.img.door d).jogFrame + 200 ≤ s.img.now) ∧
  (let s : State := live [st 0 .manual, fun im => { im with permits := { im.permits with sideA := { im.permits.sideA with held := true } } }];
     let d : Door := 0;
     let p : Path := .sdo1;
     s.running = true ∧ s.takes p (bBase d.val + 0x12) 5 [1] ∧ (s.img.door d).st = .manual ∧
       s.img.doorPending d = false ∧ (s.img.door d).lockOn = false) ∧
  (let s : State := live [st 0 .manual, fun im => { im with permits := { im.permits with sideA := { im.permits.sideA with held := true } } }];
     let d : Door := 0;
     let p : Path := .sdo1;
     s.running = true ∧ s.takes p (bBase d.val + 0x12) 5 [0] ∧ (s.img.door d).st = .manual) :=
  ⟨by unfold State.takes; decide, by unfold State.takes; decide, by unfold State.takes; decide,
      by unfold State.takes; decide, by decide, by unfold State.takes; decide, by unfold State.takes; decide⟩

set_option maxRecDepth 20000 in
theorem witness_TeachAndSheetWrites :
  (let s : State := live [st 0 .locked, auth, RD 0 0 2 2, A 0 (fun x => { x with referenced := true }), A 1 (fun x => { x with referenced := true })];
     let d : Door := 0;
     let p : Path := .sdo1;
     s.running = true ∧ s.takes p (bBase d.val + 0x14) 1 [1]) ∧
  (let s : State := live [st 0 .locked, auth, RD 0 0 2 2, A 0 (fun x => { x with referenced := true }), A 1 (fun x => { x with referenced := true })];
     let a : Axis := 0;
     let p : Path := .sdo1;
     let bins : List Int := (List.replicate 256 5);
     s.running = true ∧ bins.length = 256 ∧ (∀ b ∈ bins, -32768 ≤ b ∧ b ≤ 32767) ∧
       s.takes p (aBase a.val + 7) 1 ((bins.map (fun b => le 2 (encInt 16 b))).flatten)) ∧
  (let s : State := live [st 0 .locked, auth, RD 0 0 2 2, A 0 (fun x => { x with referenced := true }), A 1 (fun x => { x with referenced := true })];
     let a : Axis := 0;
     let p : Path := .sdo1;
     let bins : List Int := (List.replicate 256 5);
     s.running = true ∧ bins.length = 256 ∧ (∀ b ∈ bins, -32768 ≤ b ∧ b ≤ 32767) ∧
       s.takes p (aBase a.val + 7) 2 ((bins.map (fun b => le 2 (encInt 16 b))).flatten)) ∧
  (let s : State := live [st 0 .locked, auth, RD 0 0 2 2, A 0 (fun x => { x with referenced := true }), A 1 (fun x => { x with referenced := true })];
     let a : Axis := 0;
     let p : Path := .sdo1;
     let m : Nat := 3000;
     s.running = true ∧ m < 65536 ∧ s.takes p (aBase a.val + 4) 9 (le 2 m)) ∧
  (let s : State := live [st 0 .locked, auth, RD 0 0 2 2, A 0 (fun x => { x with referenced := true }), A 1 (fun x => { x with referenced := true })];
     let a : Axis := 0;
     let p : Path := .sdo1;
     let c : Nat := 2000;
     s.running = true ∧ c < 65536 ∧ s.takes p (aBase a.val + 4) 0x0A (le 2 c)) ∧
  (let s : State := live [D 0 (fun x => { x with st := .locked, teach := ⟨true, 99000, 1, 0⟩ }), auth, RD 0 0x14 2 1];
     let d : Door := 0;
     let p : Path := .sdo1;
     s.running = true ∧ s.takes p (bBase d.val + 0x14) 1 [2] ∧ (s.img.door d).teach.running = true ∧
       s.img.fitted d = true) :=
  ⟨by unfold State.takes; decide, by unfold State.takes; decide, by unfold State.takes; decide,
      by unfold State.takes; decide, by unfold State.takes; decide, by unfold State.takes; decide⟩

theorem witness_StagedConfigurationRules :
  (let s : State := live [st 0 .locked];
     let d : Door := 0;
     let p : Path := .sdo1;
     let e : Nat := 0x3000020000000001;
     s.running = true ∧ e < 2 ^ 64 ∧ s.takes p (bBase d.val + 0x15) 2 (le 8 e)) ∧
  (let s : State := live [st 0 .locked];
     let d : Door := 0;
     let p : Path := .sdo1;
     s.running = true ∧ s.takes p (bBase d.val + 0x15) 3 [1]) ∧
  (let s : State := live [st 0 .locked];
     let d : Door := 0;
     let p : Path := .sdo1;
     s.running = true ∧ s.takes p (bBase d.val) 2 [0]) ∧
  (let s : State := live [st 0 .locked];
     let d : Door := 0;
     let p : Path := .sdo1;
     let n : Nat := 2;
     s.running = true ∧ (n = 1 ∨ n = 2) ∧ s.takes p (bBase d.val) 2 [n]) ∧
  (let s : State := live [D 0 (fun x => { x with st := .locked, staged := [⟨0x3003, 5, 4⟩] })];
     let d : Door := 0;
     let p : Path := .sdo1;
     s.running = true ∧ s.takes p (bBase d.val + 0x15) 3 [0] ∧ s.img.mayConfigure d.val = true ∧
       (s.img.door d).staged ≠ []) ∧
  (let s : State := live [D 0 (fun x => { x with st := .locked, staged := [⟨0x3003, 5, 4⟩] })];
     let d : Door := 0;
     let p : Path := .sdo1;
     s.running = true ∧ s.takes p (bBase d.val + 0x15) 3 [1]) ∧
  (let s : State := live [st 0 .released, RD 0 0x0D 1 0];
     s.running = true) ∧
  (let s : State := live [D 0 (fun x => { x with chatter := { Chatter.empty with active := true } }), RD 0 0x13 3 5];
     let d : Door := 0;
     s.running = true ∧ (s.img.door d).chatter.active = true ∧
       (s.img.door d).chatter.start + s.img.windowOp d ≤ s.img.op ∧
       (s.img.door d).chatter.cycles ≤ s.img.dreg d 0x13 2) ∧
  (let s : State := live [D 0 (fun x => { x with chatter := { Chatter.empty with active := true, cycles := 65535 } }), RD 0 0x13 3 5];
     let d : Door := 0;
     s.running = true ∧ (s.img.door d).chatter.active = true ∧
       (s.img.door d).chatter.start + s.img.windowOp d ≤ s.img.op ∧
       s.img.dreg d 0x13 2 < (s.img.door d).chatter.cycles) :=
  ⟨by unfold State.takes; decide, by unfold State.takes; decide, by unfold State.takes; decide,
      by unfold State.takes; decide, by unfold State.takes; decide, by unfold State.takes; decide, by decide,
      by decide, by decide⟩

theorem witness_TractionReadsItsInputOrItsFault :
  (let s : State := live [];
     s.running = true) := by decide

theorem witness_PairsAndTokens :
  (let s : State := live [fun im => { im with inp := { im.inp with tis := im.inp.tis.set 1 { DIn.reset with filt := true, raw := true, img := true } } }];
     let ti : Fin 6 := 0;
     let on : Bool := true;
     s.running = true ∧ (s.img.permits.pair (pairOf ti)).latched = false ∧
       (s.img.trainInput ⟨ti.val, by omega⟩ on).channel (pairInputs (pairOf ti)).1 = true ∧
       (s.img.trainInput ⟨ti.val, by omega⟩ on).channel (pairInputs (pairOf ti)).2 = true) ∧
  (let s : State := live [fun im => { im with inp := { im.inp with tis := im.inp.tis.set 4 { DIn.reset with filt := true, raw := true, img := true } } }];
     let ti : Fin 6 := 5;
     let on : Bool := true;
     s.running = true ∧ (s.img.permits.pair (pairOf ti)).latched = false ∧
       (s.img.trainInput ⟨ti.val, by omega⟩ on).channel (pairInputs (pairOf ti)).1 = true ∧
       (s.img.trainInput ⟨ti.val, by omega⟩ on).channel (pairInputs (pairOf ti)).2 = true) ∧
  (let s : State := live [fun im => { im with permits := { im.permits with sideA := { im.permits.sideA with held := true } } }, fun im => { im with permits := { im.permits with relA := { im.permits.relA with reading := true } } }];
     let side : Side := .a;
     let ti : Fin 6 := 0;
     s.running = true ∧ pairOf ti = relPair side ∧ (s.img.inp.tis.get ⟨ti.val, by omega⟩).fault = 0 ∧
       (s.img.permits.side side).held = true ∧ s.img.sidePending side = false) ∧
  (let s : State := live [fun im => { im with permits := { im.permits with zero := { im.permits.zero with differ := 50 } } }];
     let q : Pair := .zero;
     s.running = true ∧ (s.img.permits.pair q).latched = false ∧ 0 < (s.img.permits.pair q).differ ∧
       s.img.pairTime q ≤ (s.img.permits.pair q).differ) ∧
  (let s : State := live [fun im => { im with permits := { im.permits with relA := { im.permits.relA with reading := true } } }, fun im => { im with permits := { im.permits with zero := { im.permits.zero with reading := true } } }, fun im => { im with permits := { im.permits with traction := false } }];
     let side : Side := .a;
     s.running = true ∧ s.img.grantConditions side = 63 ∧ (s.img.permits.side side).held = false ∧
       s.img.sidePending side = false) ∧
  (let s : State := live [fun im => { im with commit := { im.commit with out := [⟨99999, [.grant .a, .grant .b], [], [], false⟩] } }];
     let side : Side := .a;
     s.running = true ∧ s.img.sidePending side = true) ∧
  (let s : State := live [fun im => { im with commit := { im.commit with out := [⟨99999, [.grant .a, .grant .b], [], [], false⟩] } }];
     s.running = true ∧ s.img.sidePending .a = true ∧ s.img.sidePending .b = true) ∧
  (let s : State := live [fun im => { im with permits := { im.permits with sideA := { im.permits.sideA with held := true } } }, fun im => { im with permits := { im.permits with relA := { im.permits.relA with reading := true } } }, fun im => { im with permits := { im.permits with zero := { im.permits.zero with reading := true } } }, fun im => { im with permits := { im.permits with traction := false } }, R 0x2306 3 1, R 0x2305 1 1, fun im => { im with inp := { im.inp with sup := { im.inp.sup with permit := some 99700 , permitReq := some 99700 } } }];
     let side : Side := .a;
     s.running = true ∧ s.img.permitRequired = true ∧ s.img.inp.sup.permitOut = false ∧
       max (s.img.inp.sup.permit.getD 0) (max (s.img.inp.sup.permitReq.getD s.img.now) s.img.inp.sup.since) + s.img.reg 0x2305 4 ≤ s.img.now ∧
       (s.img.permits.side side).held = true ∧ s.img.sidePending side = false ∧ s.img.reg (tokenObj side) 3 = 1 ∧
       (s.img.permits.pair (relPair side)).reading = true ∧ s.img.permits.zero.reading = true ∧
       s.img.permits.traction = false ∧ s.img.reg 0x2305 side.code = 1) := ⟨by decide, by decide, by decide, by decide, by decide, by decide, by decide, by decide⟩

theorem witness_LoopCommandsAndTraction :
  (let s : State := live [];
     let p : Path := .sdo1;
     let side : Side := .a;
     let on : Bool := true;
     s.running = true ∧ s.takes p (loopObj side) 2 [b2n on]) ∧
  (let s : State := live [];
     let p : Path := .sdo1;
     let side : Side := .a;
     s.running = true ∧ s.takes p 0x230C 3 [match side with | .a => 1 | .b => 2]) ∧
  (let s : State := live [fun im => { im with permits := { im.permits with tractionSince := some 99000 } }];
     let f : Nat := 99000;
     s.running = true ∧ s.img.permits.tractionSince = some f ∧ f + s.img.reg 0x2300 4 < s.img.now ∧
       s.img.permits.ev37 = false) := ⟨by unfold State.takes; decide, by unfold State.takes; decide, by decide⟩

theorem witness_MirrorTransactions :
  (let s : State := live [];
     let w : Fin 16 := 15;
     let par : Bool := (mirrorParity 15 true);
     let edges : Nat := 44;
     s.powered = true ∧ s.img.reg 0x230F 1 ≠ 0 ∧ s.mirror.active = none ∧ mirrorParity w.val par = true ∧ 5 ≤ edges) ∧
  (let s : State := live [];
     let w : Fin 16 := 15;
     let par : Bool := (mirrorParity 15 true);
     let edges : Nat := 84;
     s.powered = true ∧ s.img.reg 0x230F 1 ≠ 0 ∧ s.mirror.active = none ∧ mirrorParity w.val par = true ∧ 5 ≤ edges) ∧
  (let s : State := live [];
     let w : Fin 16 := 0;
     let par : Bool := (!mirrorParity 0 true);
     let edges : Nat := 5;
     s.powered = true ∧ s.img.reg 0x230F 1 ≠ 0 ∧ s.mirror.active = none ∧ mirrorParity w.val par = false ∧ 5 ≤ edges) ∧
  (let s : State := live [];
     let w : Fin 16 := 0;
     let par : Bool := (!mirrorParity 0 true);
     let edges : Nat := 84;
     s.powered = true ∧ s.img.reg 0x230F 1 ≠ 0 ∧ s.mirror.active = none ∧ mirrorParity w.val par = false ∧ 5 ≤ edges) ∧
  (let s : State := { live [] with mirror := { Mirror.reset with active := some (1, 44, Vector.replicate 16 7, 0) } };
     let w : Fin 16 := 1;
     let edges : Nat := 44;
     let start : Nat := 0;
     let words : Vector Nat 16 := (Vector.replicate 16 7);
     s.mirror.active = some (w, edges, words, start)) ∧
  (let s : State := { live [] with mirror := { Mirror.reset with active := some (1, 44, Vector.replicate 16 7, 0) } };
     let w : Fin 16 := 1;
     let edges : Nat := 44;
     let start : Nat := 0;
     let stop : Nat := 1000;
     let words : Vector Nat 16 := (Vector.replicate 16 7);
     s.mirror.active = some (w, edges, words, start) ∧ start + 1000 ≤ stop) := ⟨by decide, by decide, by decide, by decide, by decide, by decide⟩

theorem witness_AxisCommandsAndWrites :
  (let s : State := live [];
     let a : Axis := 0;
     let p : Path := .sdo1;
     s.running = true ∧ s.takes p (aBase a.val + 2) 1 [1]) ∧
  (let s : State := live [];
     let a : Axis := 0;
     let p : Path := .sdo1;
     s.running = true ∧ s.takes p (aBase a.val + 2) 1 [2] ∧ (s.img.axis a).disabled = false ∧
       (s.img.axis a).drain = none ∧ s.img.axisMoving a = false ∧
       s.img.recordsPending (doorScope (axisDoor a)) = false) ∧
  (let s : State := live [];
     let a : Axis := 0;
     let p : Path := .sdo1;
     s.running = true ∧ s.takes p (aBase a.val + 2) 1 [3]) ∧
  (let s : State := live [];
     let a : Axis := 0;
     let p : Path := .sdo1;
     s.running = true ∧ s.takes p (aBase a.val + 2) 1 [4]) ∧
  (let s : State := live [fun im => { im with rcd := { im.rcd with drafts := [⟨3, 0x08, 1, 19, 0, []⟩] } }];
     let a : Axis := 0;
     let p : Path := .sdo1;
     s.running = true ∧ s.takes p (aBase a.val + 2) 1 [2] ∧ (s.img.axis a).disabled = false ∧
       (s.img.axis a).drain = none ∧
       (s.img.axisMoving a = true ∨ s.img.recordsPending (doorScope (axisDoor a)) = true)) ∧
  (let s : State := live [st 0 .manual, A 0 (fun x => { x with solo := { x.solo with move := some ⟨.stroke, 0, 700000, [], 0, 4096, false, 3000, 300000, false, 4096, 0⟩ } })];
     let a : Axis := 0;
     let p : Path := .sdo1;
     s.running = true ∧ s.takes p (aBase a.val + 2) 1 [2] ∧ (s.img.axis a).disabled = false ∧
       (s.img.axis a).drain = none ∧
       (s.img.axisMoving a = true ∨ s.img.recordsPending (doorScope (axisDoor a)) = true)) ∧
  (let s : State := live [st 0 .manual];
     let a : Axis := 2;
     let p : Path := .sdo1;
     let x : Int := (-2147483648);
     s.running = true ∧ -2 ^ 31 ≤ x ∧ x < 2 ^ 31 ∧ s.takes p (aBase a.val + 2) 3 (le 4 (encInt 32 x))) ∧
  (let s : State := live [st 0 .manual];
     let a : Axis := 0;
     let p : Path := .sdo1;
     let x : Int := 2147483647;
     s.running = true ∧ -2 ^ 31 ≤ x ∧ x < 2 ^ 31 ∧ s.takes p (aBase a.val + 2) 3 (le 4 (encInt 32 x))) ∧
  (let s : State := live [];
     let a : Axis := 35;
     let p : Path := .sdo1;
     let l : LiveLimit := .aDec;
     let v : Nat := 5000000;
     s.running = true ∧ v < 2 ^ 32 ∧ s.takes p (aBase a.val + 1) (liveSub l) (le 4 v)) :=
  ⟨by unfold State.takes; decide, by unfold State.takes; decide, by unfold State.takes; decide,
      by unfold State.takes; decide, by unfold State.takes; decide, by unfold State.takes; decide,
      by unfold State.takes; decide, by unfold State.takes; decide, by unfold State.takes; decide⟩

theorem witness_AxisProtectionRules :
  (let s : State := live [D 0 (fun x => { x with st := .closing, leaves := { x.leaves with move := some ⟨.stroke, 700000, 0, [], 0, 4096, false, 3000, 300000, false, 4096, 0⟩ } })];
     let a : Axis := 0;
     s.running = true ∧ s.img.axisUsed a = true) ∧
  (let s : State := live [RA 1 5 9 0];
     let a : Axis := 1;
     s.running = true ∧ s.img.axisUsed a = true) ∧
  (let s : State := live [A 0 (fun x => { x with guard := { x.guard with retryDue := some 100000 } })];
     let a : Axis := 0;
     let f : Nat := 100000;
     s.running = true ∧ (s.img.axis a).guard.retryDue = some f ∧ f ≤ s.img.now ∧
       (s.img.axis a).guard.latched = false ∧ (s.img.axis a).guard.thermal = false) ∧
  (let s : State := live [A 35 (fun x => { x with guard := { x.guard with clean := 10000 } })];
     let a : Axis := 35;
     s.running = true ∧ 10000 ≤ (s.img.axis a).guard.clean) ∧
  (let s : State := live [A 0 (fun x => { x with plant := { x.plant with bridgeTemp := 1501 } })];
     let a : Axis := 0;
     s.running = true ∧ s.img.axisUsed a = true ∧ (s.img.axis a).guard.thermal = false ∧
       1500 < (s.img.axis a).plant.bridgeTemp) ∧
  (let s : State := live [A 0 (fun x => { x with guard := { x.guard with thermal := true, coolSince := some 95000 } })];
     let a : Axis := 0;
     s.running = true ∧ (s.img.axis a).guard.thermal = true ∧ s.img.elapsed (s.img.axis a).guard.coolSince 5000 = true) ∧
  (let s : State := live [st 0 .isolated];
     let a : Axis := 2;
     s.running = true ∧ s.img.axisUsed a = true ∧ (s.img.door (axisDoor a)).st = .isolated) := ⟨by decide, by decide, by decide, by decide, by decide, by decide, by decide⟩

theorem witness_ObstaclesAndStalls :
  (let s : State := live [D 0 (fun x => { x with st := .closing, leaves := { x.leaves with move := some ⟨.stroke, 700000, 0, [], 0, 4096, false, 3000, 300000, false, 4096, 0⟩ } }), RD 0 5 1 7, D 0 (fun x => { x with ea := { x.ea with reading := 1 } })];
     let a : Axis := 0;
     let src : ObstacleSource := .ea;
     s.running = true ∧ (s.img.door (axisDoor a)).leaves.obstacle = none ∧
       (s.img.door (axisDoor a)).step.obstacle = none ∧ src ≠ .stall ∧ s.img.axisUsed a = true ∧
       s.img.obstacleBy a src = true ∧ s.img.lowestSource a src = (a, src)) ∧
  (let s : State := live [D 0 (fun x => { x with st := .closing, leaves := { x.leaves with move := some ⟨.stroke, 0, 700000, [], 0, 4096, false, 3000, 300000, false, 4096, 0⟩ } }), A 0 (fun x => { x with force := { x.force with exceed := 2 } })];
     let a : Axis := 0;
     let src : ObstacleSource := .estimator;
     s.running = true ∧ (s.img.door (axisDoor a)).leaves.obstacle = none ∧
       (s.img.door (axisDoor a)).step.obstacle = none ∧ src ≠ .stall ∧ s.img.axisUsed a = true ∧
       s.img.obstacleBy a src = true ∧ s.img.lowestSource a src = (a, src)) ∧
  (let s : State := live [D 0 (fun x => { x with st := .closing, leaves := { x.leaves with move := some ⟨.stroke, 0, 700000, [], 0, 4096, false, 3000, 300000, false, 4096, 0⟩ } }), A 1 (fun x => { x with force := { x.force with invalidRun := 33 } })];
     let a : Axis := 1;
     s.running = true ∧ (s.img.door (axisDoor a)).leaves.obstacle = none ∧
       (s.img.door (axisDoor a)).step.obstacle = none ∧ s.img.compareState a = 4 ∧
       32 < (s.img.axis a).force.invalidRun) ∧
  (let s : State := live [D 0 (fun x => { x with st := .closing, leaves := { x.leaves with obstacle := some (1, 99000, 3), reactionDue := true, slow := 8 } })];
     let d : Door := 0;
     s.running = true ∧ (s.img.door d).homing = false ∧ (s.img.door d).drain = none ∧ (s.img.door d).st = .closing ∧
       (s.img.door d).leaves.obstacleSince (s.img.door d).since = true ∧ s.img.obstacleStopOver d .leaves = true) ∧
  (let s : State := live [D 0 (fun x => { x with st := .closing, leaves := { x.leaves with obstacle := some (1, 99000, 3), reactionDue := true, slow := 0 } })];
     let d : Door := 0;
     s.running = true ∧ (s.img.door d).homing = false ∧ (s.img.door d).drain = none ∧ (s.img.door d).st = .closing ∧
       (s.img.door d).leaves.obstacleSince (s.img.door d).since = true ∧ s.img.obstacleStopLate d .leaves = true) ∧
  (let s : State := live [D 0 (fun x => { x with st := .opening, leaves := { x.leaves with obstacle := some (1, 99000, 3), reactionDue := true, slow := 8 } })];
     let d : Door := 0;
     s.running = true ∧ (s.img.door d).homing = false ∧ (s.img.door d).drain = none ∧ (s.img.door d).st = .opening ∧
       s.img.obstacleStopOver d .leaves = true) ∧
  (let s : State := live [D 0 (fun x => { x with st := .opening, leaves := { x.leaves with obstacle := some (1, 99000, 3), reactionDue := true, slow := 0 } })];
     let d : Door := 0;
     s.running = true ∧ (s.img.door d).homing = false ∧ (s.img.door d).drain = none ∧ (s.img.door d).st = .opening ∧
       s.img.obstacleStopLate d .leaves = true) ∧
  (let s : State := live [D 0 (fun x => { x with st := .closing, leaves := { x.leaves with move := some ⟨.stroke, 0, 700000, [], 0, 4096, false, 3000, 300000, false, 4096, 0⟩ } }), A 0 (fun x => { x with plant := { x.plant with pos := 695000 }, force := { x.force with stall := 33 } })];
     let a : Axis := 0;
     let m : Move := ⟨.stroke, 0, 700000, [], 0, 4096, false, 3000, 300000, false, 4096, 0⟩;
     s.running = true ∧ s.img.stallReached a = true ∧ s.img.axisMove a = some m ∧ m.kind = .stroke ∧
       s.img.inEndZone a m.toOpen = true ∧ (((s.img.door (axisDoor a)).homing = false ∨ m.kind.isStop = false))) ∧
  (let s : State := live [D 0 (fun x => { x with st := .closing, leaves := { x.leaves with move := some ⟨.stroke, 700000, 0, [], 0, 4096, false, 3000, 300000, false, 4096, 0⟩ } }), RA 0 6 2 1, RD 0 5 2 50, A 0 (fun x => { x with plant := { x.plant with pos := 50 }, force := { x.force with stall := 33 } })];
     let a : Axis := 0;
     let m : Move := ⟨.stroke, 700000, 0, [], 0, 4096, false, 3000, 300000, false, 4096, 0⟩;
     s.running = true ∧ s.img.stallReached a = true ∧ s.img.axisMove a = some m ∧ m.kind = .stroke ∧
       s.img.inEndZone a m.toOpen = false ∧ (s.img.obstacleGroup (axisDoor a)) = none ∧ m.toOpen = false ∧
       s.img.inLockZone a = true) ∧
  (let s : State := live [D 0 (fun x => { x with st := .closing, leaves := { x.leaves with move := some ⟨.stroke, 0, 700000, [], 0, 4096, false, 3000, 300000, false, 4096, 0⟩ } }), RD 0 5 1 7, A 0 (fun x => { x with plant := { x.plant with pos := 300000 }, force := { x.force with stall := 33 } })];
     let a : Axis := 0;
     let m : Move := ⟨.stroke, 0, 700000, [], 0, 4096, false, 3000, 300000, false, 4096, 0⟩;
     s.running = true ∧ s.img.stallReached a = true ∧ s.img.axisMove a = some m ∧ m.kind = .stroke ∧
       s.img.inEndZone a m.toOpen = false ∧ (s.img.obstacleGroup (axisDoor a)) = none ∧
       (m.toOpen = true ∨ s.img.inLockZone a = false)) ∧
  (let s : State := live [D 0 (fun x => { x with st := .closing, leaves := { x.leaves with move := some ⟨.stroke, 0, 700000, [], 0, 4096, false, 3000, 300000, false, 4096, 0⟩ } }), RD 0 5 1 7, A 0 (fun x => { x with plant := { x.plant with pos := 300000 }, force := { x.force with stall := 33 } })];
     let a : Axis := 0;
     let m : Move := ⟨.stroke, 0, 700000, [], 0, 4096, false, 3000, 300000, false, 4096, 0⟩;
     s.running = true ∧ s.img.stallReached a = true ∧ s.img.axisMove a = some m ∧ m.kind = .stroke ∧
       s.img.inEndZone a m.toOpen = false ∧ (s.img.obstacleGroup (axisDoor a)) = none ∧
       (m.toOpen = true ∨ s.img.inLockZone a = false) ∧ bitOf (s.img.dreg (axisDoor a) 5 1) 4 = false) ∧
  (let s : State := live [D 0 (fun x => { x with st := .closing, leaves := { x.leaves with held := some ⟨⟨.stroke, 5, 0, 0⟩, .stall⟩ } }), A 0 (fun x => { x with zoneHold := true, plant := { x.plant with angle := -374 } })];
     let a : Axis := 0;
     s.running = true ∧ (s.img.axis a).zoneHold = true ∧ 2 * (s.img.axis a).plant.angle.natAbs < s.img.stallLimit a) ∧
  (let s : State := live [D 0 (fun x => { x with st := .closing, leaves := { x.leaves with held := some ⟨⟨.stroke, 5, 0, 0⟩, .stall⟩ } }), A 0 (fun x => { x with zoneHold := true, plant := { x.plant with angle := -374 } })];
     let a : Axis := 0;
     let h : Held := ⟨⟨.stroke, 5, 0, 0⟩, .stall⟩;
     s.running = true ∧ (s.img.axis a).zoneHold = true ∧ 2 * (s.img.axis a).plant.angle.natAbs < s.img.stallLimit a ∧
       (s.img.leadGen a).held = some h ∧ h.cause = .stall ∧ s.img.belt.level < 3 ∧
       (∀ k : Fin 3, axisOf (axisDoor a) k ≠ a → (s.img.axis (axisOf (axisDoor a) k)).zoneHold = false)) ∧
  (let s : State := live [D 0 (fun x => { x with st := .stepExtending, step := { x.step with pending := some ⟨.stroke, 5, 7, 0⟩ } })];
     let d : Door := 0;
     let g : Group := .step;
     let x : Aim := ⟨.stroke, 5, 7, 0⟩;
     s.running = true ∧ (s.img.gen d g).pending = some x ∧ (s.img.gen d g).atRest = true ∧ s.img.belt.level < 3 ∧
       s.img.heldUp d = false) ∧
  (let s : State := live [D 0 (fun x => { x with eb := { x.eb with fault := true, normalSince := 99000 } })];
     let d : Door := 0;
     let e : Edge := .eb;
     s.running = true ∧ ((s.img.door d).edge e).fault = true ∧ ((s.img.door d).edge e).reading = 0 ∧
       ((s.img.door d).edge e).normalSince + 1000 ≤ s.img.now) :=
  ⟨by decide, by decide, by decide, by decide, by decide, by decide, by decide, by decide, by decide, by decide,
      by decide, by decide, by decide, by decide, by decide⟩

theorem witness_InputLossAndItsReturn :
  (let s : State := live [fun im => { im with belt := { im.belt with vin := 399, link := 3800, absentSince := some 99980 } }];
     s.running = true ∧ s.img.belt.lostAt = none ∧ s.img.belt.vin < 400 ∧
       ((s.img.elapsed s.img.belt.absentSince (s.img.reg 0x2106 7) = true ∨ s.img.belt.link < 3600))) ∧
  (let s : State := live [fun im => { im with belt := { im.belt with vin := 399, link := 3599 } }];
     s.running = true ∧ s.img.belt.lostAt = none ∧ s.img.belt.vin < 400 ∧
       ((s.img.elapsed s.img.belt.absentSince (s.img.reg 0x2106 7) = true ∨ s.img.belt.link < 3600))) ∧
  (let s : State := live [fun im => { im with belt := { im.belt with lostAt := some 98000, link := 3500 } }];
     s.running = true ∧ s.img.lossCommitCause ≠ 0) ∧
  (let s : State := live [fun im => { im with belt := { im.belt with lostAt := some 98000, link := 3500 } }];
     s.running = true ∧ s.img.belt.commitDone = false ∧ s.img.belt.lostAt.isSome = true) ∧
  (let s : State := { State.reset with powered := true, img := { Image.reset with belt := { Belt.reset with commitDone := true } } };
     s.powered = true ∧ s.activeLane = none ∧ s.img.belt.commitDone = true) := ⟨by decide, by decide, by decide, by decide, by decide⟩

theorem witness_SupplyMeasurementsAndFaults :
  (let s : State := live [auth];
     s.running = true) ∧
  (let s : State := live [auth];
     s.running = true) ∧
  (let s : State := live [auth];
     let p : Path := .sdo1;
     s.takes p 0x210D 5 [1]) ∧
  (let s : State := live [fun im => { im with belt := { im.belt with converter := true, busHigh := 2, busLowSince := some 99900 } }];
     let excess : Bool := true;
     s.running = true ∧ s.img.belt.converter = true ∧
       (if excess then decide (2 ≤ s.img.belt.busHigh) else s.img.elapsed s.img.belt.busLowSince 100) = true) ∧
  (let s : State := live [fun im => { im with belt := { im.belt with converter := true, busHigh := 2, busLowSince := some 99900 } }];
     let excess : Bool := false;
     s.running = true ∧ s.img.belt.converter = true ∧
       (if excess then decide (2 ≤ s.img.belt.busHigh) else s.img.elapsed s.img.belt.busLowSince 100) = true) ∧
  (let s : State := live [fun im => im.onScope modScope (fun e => { e with latched := 4 })];
     let p : Path := .sdo1;
     s.takes p 0x2503 1 [1] ∧ s.img.isLatched 2 modScope = true ∧ s.img.evActive 2 modScope = false) ∧
  (let s : State := live [];
     s.running = true ∧ s.img.clk.opSaved + 100 ≤ s.img.op) :=
  ⟨by decide, by decide, by unfold State.takes; decide, by decide, by decide, by unfold State.takes; decide, by decide⟩

theorem witness_RestAndBeltRules :
  (let s : State := live [fun im => { im with belt := { im.belt with restSince := some 90000 } }, R 0x210C 2 10];
     s.running = true ∧ s.img.belt.rest = false ∧ s.img.reg 0x210C 2 ≠ 0 ∧
       s.img.elapsed s.img.belt.restSince (1000 * s.img.reg 0x210C 2) = true ∧ s.img.mayRest = true ∧
       s.img.restInhibit = false) ∧
  (let s : State := live [fun im => { im with belt := { im.belt with restSince := some 90000 } }, R 0x210C 2 10];
     s.running = true) ∧
  (let s : State := live [];
     let p : Path := .sdo1;
     s.takes p 0x210C 1 [1]) ∧
  (let s : State := live [fun im => { im with belt := { im.belt with rest := true } }];
     let p : Path := .sdo1;
     s.takes p 0x210C 1 [2] ∧ s.img.belt.rest = true) ∧
  (let s : State := live [fun im => { im with belt := { im.belt with rest := true } }, fun im => { im with inp := { im.inp with tis := im.inp.tis.set 10 { DIn.reset with filt := true, raw := true, img := true } } }];
     s.running = true ∧ s.img.belt.rest = true ∧ s.img.restMustEnd = true) ∧
  (let s : State := live [fun im => { im with belt := { im.belt with conds := im.belt.conds.set 1 ⟨2, false⟩ } }];
     let c : BeltCond := .sag;
     s.running = true ∧ s.img.reg 0x2105 7 ≤ (s.img.belt.conds.get c.idx).run) ∧
  (let s : State := live [fun im => { im with belt := { im.belt with level := 3, next := 3, clearSince := some 99800 } }];
     s.running = true ∧ s.img.belt.next = s.img.belt.level ∧ 0 < s.img.belt.level ∧
       s.img.elapsed s.img.belt.clearSince (s.img.reg 0x2105 6) = true) :=
  ⟨by decide, by decide, by unfold State.takes; decide, by unfold State.takes; decide, by decide, by decide, by decide⟩

theorem witness_ChannelCommands :
  (let s : State := live [RD 0 8 1 0];
     let c : Chan := 0;
     let p : Path := .sdo1;
     let v : Nat := 2;
     v < 256 ∧ s.takes p (cBase c.val + 1) 1 [v]) ∧
  (let s : State := live [RD 0 8 1 0];
     let c : Chan := 0;
     let p : Path := .sdo1;
     s.takes p (cBase c.val + 1) 2 [1]) ∧
  (let s : State := live [RD 0 8 1 0];
     let c : Chan := 0;
     let p : Path := .sdo1;
     s.takes p (cBase c.val + 1) 2 [2] ∧ (s.img.chan c).disabled = false ∧ (s.img.chan c).drain = none) ∧
  (let s : State := live [RD 0 8 1 0];
     let c : Chan := 0;
     let p : Path := .sdo1;
     s.takes p (cBase c.val + 1) 2 [3]) ∧
  (let s : State := live [RD 0 8 1 0];
     let c : Chan := 0;
     let p : Path := .sdo1;
     s.takes p (cBase c.val + 1) 2 [4]) ∧
  (let s : State := live [R 0x2104 3 5];
     let c : Chan := 191;
     let p : Path := .sdo1;
     let v : Nat := 0;
     v < 256 ∧ s.takes p (cBase c.val + 1) 1 [v]) ∧
  (let s : State := live [R 0x2104 3 5];
     let c : Chan := 191;
     let p : Path := .sdo1;
     s.takes p (cBase c.val + 1) 2 [1]) ∧
  (let s : State := live [R 0x2104 3 5];
     let c : Chan := 191;
     let p : Path := .sdo1;
     s.takes p (cBase c.val + 1) 2 [2] ∧ (s.img.chan c).disabled = false ∧ (s.img.chan c).drain = none) ∧
  (let s : State := live [R 0x2104 3 5];
     let c : Chan := 191;
     let p : Path := .sdo1;
     s.takes p (cBase c.val + 1) 2 [3]) ∧
  (let s : State := live [R 0x2104 3 5];
     let c : Chan := 191;
     let p : Path := .sdo1;
     s.takes p (cBase c.val + 1) 2 [4]) :=
  ⟨by unfold State.takes; decide, by unfold State.takes; decide, by unfold State.takes; decide,
      by unfold State.takes; decide, by unfold State.takes; decide, by unfold State.takes; decide,
      by unfold State.takes; decide, by unfold State.takes; decide, by unfold State.takes; decide,
      by unfold State.takes; decide⟩

theorem witness_ChannelTripsAndRetries :
  (let s : State := live [C 0 (fun x => { x with out := true, onSince := 90000, lastTrip := 90000 })];
     let c : Chan := 0;
     (s.img.chan c).out = true) ∧
  (let s : State := live [C 0 (fun x => { x with out := true, onSince := 90000, lastTrip := 90000 })];
     let c : Chan := 0;
     s.running = true ∧ (s.img.chan c).out = true ∧ (s.img.chan c).onSince + 10000 ≤ s.img.now ∧
       (s.img.chan c).lastTrip + 10000 ≤ s.img.now) ∧
  (let s : State := { live [C 0 (fun x => { x with out := true })] with powered := false };
     let c : Chan := 0;
     (s.img.chan c).out = true) ∧
  (let s : State := live [RD 0 8 1 1, D 0 (fun x => { x with bankPresent := true }), C 0 (fun x => { x with cmd := true, retryDue := some 100000 })];
     let c : Chan := 0;
     let f : Nat := 100000;
     s.running = true ∧ (s.img.chan c).retryDue = some f ∧ f ≤ s.img.now ∧ s.img.chanTold c = true ∧
       s.img.mayConduct c = true ∧ 0 < s.img.creg c 1 7) ∧
  (let s : State := live [st 0 .locked, RC 0 0 1 1, RD 0 8 1 3, D 0 (fun x => { x with bankPresent := true }), C 0 (fun x => { x with cmd := true, retryDue := some 100000 })];
     let c : Chan := 0;
     let f : Nat := 100000;
     s.running = true ∧ (s.img.chan c).retryDue = some f ∧ f ≤ s.img.now ∧ s.img.chanTold c = true ∧
       s.img.mayConduct c = true ∧ 0 < s.img.creg c 1 7) ∧
  (let s : State := live [C 191 (fun x => { x with ocLatched := true, cmdOffSince := 99000 })];
     let c : Chan := 191;
     s.running = true ∧ (s.img.chan c).ocLatched = true ∧ (s.img.chan c).cmd = false ∧
       (s.img.chan c).cmdOffSince + 1000 ≤ s.img.now) := ⟨by decide, by decide, by decide, by decide, by decide, by decide⟩

theorem witness_ChannelThermalAndOpenLoad :
  (let s : State := live [];
     let c : Chan := 0;
     let dt : Int := 0;
     let tj : Int := 1751;
     (s.img.chan c).thDT = false ∧ (s.img.chan c).thTJ = false ∧ ((10 * (s.img.creg c 0 5 : Int) < dt ∨ 1750 < tj))) ∧
  (let s : State := State.reset;
     let c : Chan := 0;
     let dt : Int := 0;
     let tj : Int := 1751;
     (s.img.chan c).thDT = false ∧ (s.img.chan c).thTJ = false ∧ ((10 * (s.img.creg c 0 5 : Int) < dt ∨ 1750 < tj))) ∧
  (let s : State := live [C 0 (fun x => { x with thDT := true, coolSince := some 99000 })];
     let c : Chan := 0;
     (((s.img.chan c).thDT = true ∨ (s.img.chan c).thTJ = true)) ∧
       ((s.running = false ∨ s.img.elapsed (s.img.chan c).coolSince 1000 = true))) ∧
  (let s : State := { State.reset with img := C 0 (fun x => { x with thTJ := true }) Image.reset };
     let c : Chan := 0;
     (((s.img.chan c).thDT = true ∨ (s.img.chan c).thTJ = true)) ∧
       ((s.running = false ∨ s.img.elapsed (s.img.chan c).coolSince 1000 = true))) ∧
  (let s : State := live [C 0 (fun x => { x with out := true, openRun := 100 })];
     let c : Chan := 0;
     s.running = true ∧ (s.img.chan c).out = true ∧ (s.img.chan c).openLoad = false ∧
       s.img.creg c 0 8 ≤ (s.img.chan c).openRun ∧ 0 < (s.img.chan c).openRun) ∧
  (let s : State := live [C 0 (fun x => { x with openLoad := true, openClear := 100 })];
     let c : Chan := 0;
     s.running = true ∧ (s.img.chan c).openLoad = true ∧ s.img.creg c 0 8 ≤ (s.img.chan c).openClear ∧
       0 < (s.img.chan c).openClear) := ⟨by decide, by decide, by decide, by decide, by decide, by decide⟩

theorem witness_BanksAndTrainOutputs :
  (let s : State := live [D 0 (fun x => { x with bankPresent := true })];
     let d : Door := 0;
     let v : Nat := 179;
     s.running = true ∧ v < 180 ∧ (s.img.door d).bankPresent = true) ∧
  (let s : State := live [];
     let v : Nat := 180;
     s.running = true ∧ 180 ≤ v ∧ v < 65536) ∧
  (let s : State := live [st 0 .locked, D 0 (fun x => { x with bankLow := 10 })];
     let d : Door := 0;
     let cause : Fin 3 := 0;
     s.running = true ∧ s.img.fitted d = true ∧ (s.img.door d).st ≠ .isolated ∧ (s.img.door d).bankFault = 0 ∧
       (cause = 0 → 10 ≤ (s.img.door d).bankLow) ∧ (cause = 1 → 10 ≤ (s.img.door d).bankHigh) ∧
       (cause = 2 → 1000 ≤ (s.img.door d).bankOver)) ∧
  (let s : State := live [st 0 .locked, D 0 (fun x => { x with bankHigh := 10 })];
     let d : Door := 0;
     let cause : Fin 3 := 1;
     s.running = true ∧ s.img.fitted d = true ∧ (s.img.door d).st ≠ .isolated ∧ (s.img.door d).bankFault = 0 ∧
       (cause = 0 → 10 ≤ (s.img.door d).bankLow) ∧ (cause = 1 → 10 ≤ (s.img.door d).bankHigh) ∧
       (cause = 2 → 1000 ≤ (s.img.door d).bankOver)) ∧
  (let s : State := live [st 0 .locked, D 0 (fun x => { x with bankOver := 1000 })];
     let d : Door := 0;
     let cause : Fin 3 := 2;
     s.running = true ∧ s.img.fitted d = true ∧ (s.img.door d).st ≠ .isolated ∧ (s.img.door d).bankFault = 0 ∧
       (cause = 0 → 10 ≤ (s.img.door d).bankLow) ∧ (cause = 1 → 10 ≤ (s.img.door d).bankHigh) ∧
       (cause = 2 → 1000 ≤ (s.img.door d).bankOver)) ∧
  (let s : State := live [D 0 (fun x => { x with bankFault := 2, bankAbsent := some 99000 })];
     let d : Door := 0;
     s.running = true ∧ (s.img.door d).bankFault ≠ 0 ∧ s.img.elapsed (s.img.door d).bankAbsent 1000 = true) := ⟨by decide, by decide, by decide, by decide, by decide, by decide⟩

theorem witness_InputFiltersAndFaults :
  (let s : State := live [D 0 (fun x => { x with dis := x.dis.set 3 { DIn.reset with run := 80, raw := true } })];
     let i : InputId := (.di 0 3);
     s.running = true ∧ 0 < (s.img.input i).run ∧ s.img.debounce i ≤ (s.img.input i).run) ∧
  (let s : State := live [fun im => { im with inp := { im.inp with tis := im.inp.tis.set 15 { DIn.reset with run := 80, raw := true } } }];
     let i : InputId := (.ti 15);
     s.running = true ∧ 0 < (s.img.input i).run ∧ s.img.debounce i ≤ (s.img.input i).run) ∧
  (let s : State := live [fun im => { im with inp := { im.inp with tis := im.inp.tis.set 1 { DIn.reset with excess := 16 } } }];
     let n : Fin 16 := 1;
     s.running = true ∧ (s.img.input (.ti n)).fault = 0 ∧ 16 ≤ (s.img.input (.ti n)).excess) ∧
  (let s : State := live [fun im => { im with inp := { im.inp with tis := im.inp.tis.set 1 { DIn.reset with rev := 16 } } }];
     let n : Fin 16 := 1;
     s.running = true ∧ (s.img.input (.ti n)).fault = 0 ∧ 16 ≤ (s.img.input (.ti n)).rev) ∧
  (let s : State := live [fun im => { im with inp := { im.inp with stale := im.inp.stale.set 12 8 } }, fun im => { im with inp := { im.inp with tis := im.inp.tis.set 1 { DIn.reset with fault := 2 } } }];
     s.running = true ∧ 8 ≤ s.img.inp.stale.get RxGroup.train.idx) ∧
  (let s : State := live [st 0 .locked, role 0 1 9 true, D 0 (fun x => { x with timers := { x.timers with p3 := some 90000 } })];
     let d : Door := 0;
     let n : Fin 12 := 1;
     s.running = true ∧ s.img.checksRun d = true ∧ s.img.role d n = 9 ∧ ((s.img.door d).dis.get n).fault = 0 ∧
       s.img.elapsed (s.img.checkTimer d .p3) (s.img.checkTime d .p3) = true) ∧
  (let s : State := live [st 0 .locked, D 0 (fun x => { x with dis := x.dis.set 1 { DIn.reset with expect := some 99800, want := true } }), RD 0 9 2 9];
     let d : Door := 0;
     let n : Fin 12 := 1;
     s.running = true ∧ s.img.role d n ≠ 0 ∧ s.img.fitted d = true ∧ (s.img.door d).st ≠ .isolated ∧
       s.img.elapsed ((s.img.door d).dis.get n).expect (s.img.expectTime d ((s.img.door d).dis.get n).want) = true ∧
       ((s.img.door d).dis.get n).img ≠ ((s.img.door d).dis.get n).want) ∧
  (let s : State := live [fun im => { im with inp := { im.inp with tis := im.inp.tis.set 1 { DIn.reset with fault := 1, absentSince := some 99000 } } }];
     let i : InputId := (.ti 1);
     s.running = true ∧ (s.img.input i).fault ≠ 0 ∧ s.img.causePresent i = false ∧
       (((s.img.input i).fault = 7 ∨ s.img.elapsed (s.img.input i).absentSince 1000 = true))) ∧
  (let s : State := live [D 0 (fun x => { x with dis := x.dis.set 1 { DIn.reset with fault := 1, absentSince := some 99000 } }), RD 0 9 2 3];
     let i : InputId := (.di 0 1);
     s.running = true ∧ (s.img.input i).fault ≠ 0 ∧ s.img.causePresent i = false ∧
       (((s.img.input i).fault = 7 ∨ s.img.elapsed (s.img.input i).absentSince 1000 = true))) := ⟨by decide, by decide, by decide, by decide, by decide, by decide, by decide, by decide, by decide⟩

theorem witness_SourcesAndSuspension :
  (let s : State := live [R 0x1600 0 1, R 0x1600 1 0x30020108];
     let n : Fin 32 := 0;
     s.running = true ∧ s.img.rpdoSource n = true ∧ bitOf s.img.inp.sup.rpdoOut n.val = false ∧
       (s.img.inp.sup.rpdo.get n).getD s.img.inp.sup.since + s.img.reg 0x2405 1 ≤ s.img.now) ∧
  (let s : State := live [];
     s.running = true ∧ s.img.trdpSource = true ∧ s.img.inp.sup.trdpOut = false ∧
       s.img.inp.sup.trdp.getD s.img.inp.sup.since + s.img.reg 0x2405 2 ≤ s.img.now) ∧
  (let s : State := live [R 0x2403 1 3, fun im => { im with inp := { im.inp with functions := im.inp.functions.set 0 3 } }];
     s.running = true) := ⟨by decide, by decide, by decide⟩

theorem witness_StitchFrameAndSurvey :
  (let s : State := live [];
     s.powered = true) ∧
  (let s : State := live [];
     s.running = true ∧ s.rerun = false ∧ s.img.due = []) ∧
  (let s : State := State.reset;
     s.powered = false) ∧
  (let s : State := State.reset;
     s.activeLane = none ∧ s.lining = false) ∧
  (let s : State := live [fun im => { im with commit := { im.commit with survey := true } }];
     s.running = true ∧ s.img.commit.survey = true) := ⟨by decide, by decide, by decide, by decide, by decide⟩

theorem witness_LaneFaultRules :
  (let s : State := live [];
     let l : Lane := .a;
     s.powered = true ∧ (s.lanes.get l).st = .operational ∧ (s.lanes.get l).faulted = false) ∧
  (let s : State := live [];
     let l : Lane := .a;
     s.powered = true ∧ (s.lanes.get l).st = .operational ∧ (s.lanes.get l).faulted = false) ∧
  (let s : State := live [];
     let l : Lane := .a;
     s.powered = true ∧ (s.lanes.get l).st = .operational ∧ (s.lanes.get l).faulted = false) ∧
  (let s : State := live [];
     let l : Lane := .a;
     s.powered = true ∧ (s.lanes.get l).st = .operational ∧ (s.lanes.get l).faulted = false) ∧
  (let s : State := live [];
     let l : Lane := .a;
     s.powered = true ∧ (s.lanes.get l).st = .operational ∧ (s.lanes.get l).faulted = false ∧
       (s.lanes.get l).injDue ≤ s.img.clk.opMs ∧ s.img.clk.frame % 64 ≠ 0 ∧ (s.lanes.get l).overran = none) ∧
  (let s : State := live [];
     let l : Lane := .a;
     s.powered = true ∧ (s.lanes.get l).st = .operational ∧ (s.lanes.get l).faulted = false ∧
       (s.lanes.get l).injDue ≤ s.img.clk.opMs ∧ s.img.clk.frame % 64 ≠ 0 ∧ (s.lanes.get l).overran = none) ∧
  (let s : State := live [];
     let l : Lane := .a;
     s.powered = true ∧ (s.lanes.get l).st = .operational ∧ (s.lanes.get l).faulted = false ∧
       (s.lanes.get l).injDue ≤ s.img.clk.opMs ∧ s.img.clk.frame % 64 ≠ 0 ∧ (s.lanes.get l).overran = none) ∧
  (let s : State := live [];
     let l : Lane := .b;
     s.powered = true ∧ (s.lanes.get l).st = .operational ∧ (s.lanes.get l).faulted = false ∧
       (s.lanes.get l).injDue ≤ s.img.clk.opMs ∧ s.img.clk.frame % 64 ≠ 0 ∧ (s.lanes.get l).overran = none) ∧
  (let s : State := live [];
     let l : Lane := .b;
     s.powered = true ∧ (s.lanes.get l).st = .operational ∧ (s.lanes.get l).faulted = false ∧
       (s.lanes.get l).injDue ≤ s.img.clk.opMs ∧ s.img.clk.frame % 64 ≠ 0 ∧ (s.lanes.get l).overran = none) ∧
  (let s : State := live [];
     let l : Lane := .b;
     s.powered = true ∧ (s.lanes.get l).st = .operational ∧ (s.lanes.get l).faulted = false ∧
       (s.lanes.get l).injDue ≤ s.img.clk.opMs ∧ s.img.clk.frame % 64 ≠ 0 ∧ (s.lanes.get l).overran = none) ∧
  (let s : State := { live [] with lanes := ⟨{ LaneState.reset with st := .operational, phase := 9, active := true }, { LaneState.reset with st := .operational, phase := 9, overran := some (99999, true) }⟩ };
     let l : Lane := .b;
     s.powered = true ∧ (s.lanes.get l).st = .operational ∧ (s.lanes.get l).faulted = false) ∧
  (let s : State := { live [] with lanes := ⟨{ LaneState.reset with st := .operational, phase := 9, active := true }, { LaneState.reset with st := .operational, phase := 9, overran := some (99999, true) }⟩ };
     let l : Lane := .b;
     s.powered = true ∧ (s.lanes.get l).st = .operational ∧ (s.lanes.get l).faulted = false) ∧
  (let s : State := { live [] with lanes := ⟨{ LaneState.reset with st := .operational, phase := 9, active := true }, { LaneState.reset with st := .operational, phase := 9, overran := some (99999, true) }⟩ };
     let l : Lane := .b;
     s.powered = true ∧ (s.lanes.get l).st = .operational ∧ (s.lanes.get l).faulted = false) ∧
  (let s : State := { live [] with lanes := ⟨{ LaneState.reset with st := .operational, phase := 9, active := true }, { LaneState.reset with st := .operational, phase := 9, overran := some (99999, true) }⟩ };
     let l : Lane := .b;
     s.powered = true ∧ (s.lanes.get l).st = .operational ∧ (s.lanes.get l).faulted = false) :=
  ⟨by decide, by decide, by decide, by decide, by decide, by decide, by decide, by decide, by decide, by decide,
      by decide, by decide, by decide, by decide⟩

theorem witness_SeamBlocksAndLinks :
  (let s : State := { live [] with seam := { Seam.reset with link1 := 2 } };
     let b : SeamBlock := ⟨.one, .b, true, false, 0, 5, 100000, 0, 1, .status ⟨0,0,0,true,9,0,none,none⟩⟩;
     s.hears b.sender.other = true ∧ s.seam.up b.link = true ∧ b.crcOk = true ∧ b.body ≠ .other ∧ b.epoch = s.epoch ∧
       (s.seam.received.get b.sender).contains b.seq = false) ∧
  (let s : State := { live [] with seam := { Seam.reset with link1 := 2, received := ⟨[], [5]⟩ } };
     let b : SeamBlock := ⟨.one, .b, true, false, 0, 5, 100000, 0, 1, .status ⟨0,0,0,true,9,0,none,none⟩⟩;
     s.hears b.sender.other = true ∧ s.seam.up b.link = true ∧ b.crcOk = true ∧ b.body ≠ .other ∧ b.epoch = s.epoch ∧
       (s.seam.received.get b.sender).contains b.seq = true) ∧
  (let s : State := { live [] with seam := { Seam.reset with link1 := 2 } };
     let b : SeamBlock := ⟨.one, .b, false, false, 0, 5, 100000, 0, 1, .status ⟨0,0,0,true,9,0,none,none⟩⟩;
     s.hears b.sender.other = true ∧ s.seam.up b.link = true ∧ (b.crcOk = false ∨ b.body = .other)) ∧
  (let s : State := { live [] with seam := { Seam.reset with link1 := 2 } };
     let b : SeamBlock := ⟨.one, .b, true, false, 1, 5, 100000, 0, 1, .status ⟨0,0,0,true,9,0,none,none⟩⟩;
     s.hears b.sender.other = true ∧ s.seam.up b.link = true ∧ b.crcOk = true ∧ b.body ≠ .other ∧ b.epoch ≠ s.epoch) ∧
  (let s : State := live [];
     s.powered = true) ∧
  (let s : State := { live [] with seam := { Seam.reset with link1 := 2, flights := [⟨.b, .one, 5, ⟨99999, 0, 1⟩, none, 3, 3, true, .delta⟩] } };
     let l : Lane := .b;
     let k : Link := .one;
     let seq : Nat := 5;
     let f : Flight := ⟨.b, .one, 5, ⟨99999, 0, 1⟩, none, 3, 3, true, .delta⟩;
     s.powered = true ∧ s.seam.flights.find? (fun f => f.sender == l && f.link == k && f.seq == seq) = some f ∧
       3 ≤ f.age ∧ f.resends < 4) ∧
  (let s : State := { live [] with seam := { Seam.reset with link1 := 2, flights := [⟨.b, .one, 5, ⟨99999, 0, 1⟩, none, 3, 4, true, .delta⟩] } };
     let l : Lane := .b;
     let k : Link := .one;
     let seq : Nat := 5;
     let f : Flight := ⟨.b, .one, 5, ⟨99999, 0, 1⟩, none, 3, 4, true, .delta⟩;
     s.powered = true ∧ s.seam.flights.find? (fun f => f.sender == l && f.link == k && f.seq == seq) = some f ∧
       3 ≤ f.age ∧ 4 ≤ f.resends) ∧
  (let s : State := { live [] with seam := { Seam.reset with link1 := 2 } };
     let k : Link := .two;
     s.powered = true ∧ s.seam.linkState k ≠ 2) ∧
  (let s : State := { live [] with seam := { Seam.reset with link1 := 2 } };
     let k : Link := .two;
     let n : Nat := 63;
     s.powered = true ∧ s.seam.linkState k ≠ 2 ∧ n ≠ 64) := ⟨by decide, by decide, by decide, by decide, by decide, by decide, by decide, by decide, by decide⟩

set_option maxRecDepth 20000 in
theorem witness_CommitAndStandbyRules :
  (let s : State := { live [] with sealed := [Image.reset], seam := { Seam.reset with link1 := 2, standby := 2, rx := [⟨0, [0], 1, some true, none, false⟩] } };
     let l : Lane := .a;
     let head : Image := Image.reset;
     let rest : List Image := [];
     let r : RxFrame := ⟨0, [0], 1, some true, none, false⟩;
     s.activeLane = some l ∧ s.sealed = head :: rest ∧ s.standbyUp = true ∧ 2 ≤ s.seam.standby ∧
       s.seam.rx.find? (fun r => r.frame == wrap 32 head.now) = some r ∧ r.complete = true ∧ r.commit = some true) ∧
  (let s : State := { live [] with sealed := [Image.reset], seam := { Seam.reset with link1 := 2, standby := 3, rx := [⟨0, [0], 1, some true, none, false⟩] } };
     let l : Lane := .a;
     let head : Image := Image.reset;
     let rest : List Image := [];
     let r : RxFrame := ⟨0, [0], 1, some true, none, false⟩;
     s.activeLane = some l ∧ s.sealed = head :: rest ∧ s.standbyUp = true ∧ 2 ≤ s.seam.standby ∧
       s.seam.rx.find? (fun r => r.frame == wrap 32 head.now) = some r ∧ r.complete = true ∧ r.commit = some true) ∧
  (let s : State := { live [] with sealed := [Image.reset], seam := { Seam.reset with link1 := 2, standby := 2, rx := [⟨0, [0], 1, some false, none, false⟩] } };
     let l : Lane := .a;
     let head : Image := Image.reset;
     let rest : List Image := [];
     let r : RxFrame := ⟨0, [0], 1, some false, none, false⟩;
     s.activeLane = some l ∧ s.sealed = head :: rest ∧ s.standbyUp = true ∧ 2 ≤ s.seam.standby ∧
       s.seam.rx.find? (fun r => r.frame == wrap 32 head.now) = some r ∧ r.complete = true ∧ r.commit = some false) ∧
  (let s : State := live [fun im => { im with commit := { im.commit with singleLane := false, out := [⟨99998, [], [⟨.sdo1, 0x1003, 0, false⟩], [], false⟩] } }];
     let l : Lane := .a;
     let a : AckPayload := ⟨99998, 0, 0, 0, [1], 2⟩;
     s.activeLane = some l ∧ s.img.commit.singleLane = false ∧
       s.img.commit.out.any (fun c => c.frame == a.frame) = true ∧ a.result = 0) ∧
  (let s : State := live [fun im => { im with commit := { im.commit with singleLane := false, out := [⟨99998, [], [⟨.sdo1, 0x1003, 0, false⟩], [], false⟩] } }];
     let l : Lane := .a;
     let a : AckPayload := ⟨99998, 1, 0, 0, [1], 2⟩;
     s.activeLane = some l ∧ s.img.commit.singleLane = false ∧
       s.img.commit.out.any (fun c => c.frame == a.frame) = true ∧ a.result ≠ 0) ∧
  (let s : State := { live [fun im => { im with commit := { im.commit with singleLane := false, out := [⟨99998, [], [⟨.sdo1, 0x1003, 0, false⟩], [], false⟩] } }] with landing := some 99998 };
     let l : Lane := .a;
     let f : Nat := 99998;
     s.activeLane = some l ∧ s.landing = some f) ∧
  (let s : State := live [fun im => { im with commit := { im.commit with singleLane := false, out := [⟨99997, [], [], [], false⟩] } }];
     let l : Lane := .a;
     let c : CommitRec := ⟨99997, [], [], [], false⟩;
     let cs : List CommitRec := [];
     s.activeLane = some l ∧ s.img.commit.out = c :: cs ∧ s.img.commit.singleLane = false ∧ c.frame + 3 ≤ s.img.now) ∧
  (let s : State := { live [] with seam := { Seam.reset with standby := 3, lastApplied := 99996 } };
     let l : Lane := .a;
     s.activeLane = some l ∧ 3 ≤ s.seam.standby ∧ s.seam.lastApplied + 3 < s.img.now) ∧
  (let s : State := { live [] with buckle := { (live []).buckle with bothDown := 48 } };
     let l : Lane := .a;
     s.activeLane = some l ∧ 48 ≤ s.buckle.bothDown) ∧
  (let s : State := { live [] with seam := { Seam.reset with link1 := 2, standby := 1 } };
     let l : Lane := .a;
     s.activeLane = some l ∧ s.standbyUp = true ∧ s.seam.standby ≤ 1 ∧ s.seam.upCount ≠ 0) :=
  ⟨by decide, by decide, by decide, by decide, by decide, by decide, by decide, by decide, by decide, by decide⟩

theorem witness_GrantChanges :
  (let s : State := { live [] with buckle := { (live []).buckle with missing := 4 } };
     let l : Lane := .a;
     s.granted = some l ∧ 4 ≤ s.buckle.missing) ∧
  (let s : State := { live [] with buckle := { (live []).buckle with missing := 4, qualified := ⟨false, true⟩, before := ⟨false, true⟩ } };
     let l : Lane := .a;
     s.granted = some l ∧ 4 ≤ s.buckle.missing) ∧
  (let s : State := { live [] with buckle := { (live []).buckle with railP := 0, railQ := 0, request := ⟨false, true⟩, present := ⟨0, 4⟩ } };
     let l : Lane := .b;
     s.applicant = some l ∧ (s.lanes.get l).st = .operational) ∧
  (let s : State := { live [] with buckle := { (live []).buckle with railP := 0, railQ := 0, request := ⟨false, true⟩, present := ⟨0, 4⟩ }, lanes := ⟨(live []).lanes.a, { LaneState.reset with st := .lining }⟩ };
     let l : Lane := .b;
     s.applicant = some l ∧ (s.lanes.get l).st = .lining) ∧
  (let s : State := { live [] with buckle := { (live []).buckle with railP := 0, railQ := 0, window := some 800 } };
     let n : Nat := 800;
     s.buckle.window = some n ∧ 800 ≤ n) ∧
  (let s : State := { live [] with buckle := { (live []).buckle with railP := 0, railQ := 0, window := some 801, latched := true } };
     let n : Nat := 801;
     s.buckle.window = some n ∧ 800 ≤ n) ∧
  (let s : State := live [];
     s.powered = true ∧ s.buckle.latched = false) ∧
  (let s : State := { live [] with lanes := ⟨(live []).lanes.a, (live []).lanes.a⟩ };
     let l : Lane := .b;
     s.powered = true ∧ (s.lanes.get l).faulted = false ∧ (s.lanes.get l).active = true ∧ s.granted ≠ some l) ∧
  (let s : State := { live [] with lanes := ⟨{ (live []).lanes.a with active := false }, (live []).lanes.b⟩ };
     let l : Lane := .a;
     s.powered = true ∧ (s.lanes.get l).faulted = false ∧ (s.lanes.get l).active = false ∧ s.granted = some l ∧
       s.takeover = none ∧ (s.lanes.get l).st = .operational) ∧
  (let s : State := { live [auth] with buckle := { (live []).buckle with qualified := ⟨false, true⟩ } };
     let p : Path := .sdo1;
     s.takes p 0x2201 1 [1]) ∧
  (let s : State := { live [] with buckle := { (live []).buckle with epoch := 1 }, owner := .b, shadow := Image.reset, takeover := some ⟨1, 2, 1, 0, 1, 100000, 0, false, 99999, 0, 0, 0, 0, 0, 0, 5, false, false, none⟩ };
     let l : Lane := .a;
     let x : Takeover := ⟨1, 2, 1, 0, 1, 100000, 0, false, 99999, 0, 0, 0, 0, 0, 0, 5, false, false, none⟩;
     s.granted = some l ∧ s.takeover = some x ∧ x.taken = false ∧ s.owner ≠ l ∧ (s.lanes.get l).st = .operational ∧
       (s.lanes.get l).faulted = false) ∧
  (let s : State := { live [] with buckle := { (live []).buckle with epoch := 1 }, takeover := some ⟨1, 2, 1, 0, 1, 99990, 0, false, 99999, 0, 0, 0, 0, 0, 0, 5, true, true, none⟩ };
     let x : Takeover := ⟨1, 2, 1, 0, 1, 99990, 0, false, 99999, 0, 0, 0, 0, 0, 0, 5, true, true, none⟩;
     s.running = true ∧ s.takeover = some x ∧ x.committed = true ∧ x.released = none) ∧
  (let s : State := { live [] with buckle := { (live []).buckle with railP := 0, railQ := 0 }, tick := 200000, lanes := ⟨{ (live []).lanes.a with current := false, active := false }, (live []).lanes.b⟩ };
     let l : Lane := .a;
     s.powered = true ∧ (s.lanes.get l).st = .operational ∧ (s.lanes.get l).current = false ∧
       (s.lanes.get l).faulted = false ∧ s.granted = none ∧ (s.lanes.get l).waitFrom + 160000 ≤ s.tick) :=
  ⟨by decide, by decide, by decide, by decide, by decide, by decide, by decide, by decide, by decide,
      by unfold State.takes; decide, by decide, by decide, by decide⟩

theorem witness_PowerAndLaneStart :
  (let s : State := State.reset;
     s.powered = false) ∧
  (let s : State := live [];
     s.powered = true) ∧
  (let s : State := live [];
     s.powered = true) ∧
  (let s : State := { { State.reset with powered := true, buckle := { Buckle.reset with selfTest := true }, lanes := ⟨{ LaneState.reset with st := .starting, phase := 2, freeStart := true }, { LaneState.reset with st := .starting, phase := 2, freeStart := true }⟩ } with img := R 0x2209 3 2 Image.reset };
     let l : Lane := .a;
     let r : StartResult := ⟨3000, (true, true), .passed, true, true, true, 0, true, true, true, [1, 1, 1, 1, 1, 1, 1]⟩;
     s.powered = true ∧ (s.lanes.get l).st = .starting ∧ (s.lanes.get l).phase = 2 ∧
       (s.lanes.get l).freeStart = true ∧ s.candidate? l = none ∧ s.slotState l (s.chosenSlot l) ≠ 0 ∧
       ((s.lanes.get l).slot (s.chosenSlot l)).bootable = true ∧ r.slotOk = (true, true) ∧ r.injection = .passed ∧
       r.sramOk = true ∧ r.norOk = true ∧ r.link1 = true ∧ r.readbackOk = true ∧ s.buckle.agree = true ∧
       s.buckle.selfTest = true ∧ (∀ g : Fin 13, s.img.inp.stale.get g < 8) ∧
       ((s.granted.isSome = true ∨ (s.img.permits.sideA.laneClosed = false ∧ s.img.permits.sideB.laneClosed = false)))) ∧
  (let s : State := { State.reset with powered := true, buckle := { Buckle.reset with selfTest := true }, lanes := ⟨{ LaneState.reset with st := .starting, phase := 6, result := some ⟨3000, (true, true), .passed, true, true, true, 0, true, true, true, [1, 1, 1, 1, 1, 1, 1]⟩ }, { LaneState.reset with st := .halted }⟩ };
     let l : Lane := .a;
     let r : StartResult := ⟨3000, (true, true), .passed, true, true, true, 0, true, true, true, [1, 1, 1, 1, 1, 1, 1]⟩;
     (s.lanes.get l).st = .starting ∧ (s.lanes.get l).phase = 6 ∧ (s.lanes.get l).result = some r ∧
       r.readbackOk = true ∧ s.buckle.agree = true ∧ s.buckle.selfTest = true ∧
       (∀ g : Fin 13, s.img.inp.stale.get g < 8) ∧
       ((s.granted.isSome = true ∨ (s.img.permits.sideA.laneClosed = false ∧ s.img.permits.sideB.laneClosed = false)))) ∧
  (let s : State := { State.reset with powered := true, buckle := { Buckle.reset with selfTest := true }, lanes := ⟨{ LaneState.reset with st := .starting, phase := 8 }, { LaneState.reset with st := .halted }⟩ };
     let l : Lane := .a;
     (s.lanes.get l).st = .starting ∧ (s.lanes.get l).phase = 8) ∧
  (let s : State := { live [R 0x2209 1 2] with lanes := ⟨{ (live []).lanes.a with opAt := some 90000 }, (live []).lanes.b⟩ };
     let l : Lane := .a;
     let f : Nat := 90000;
     (s.lanes.get l).opAt = some f ∧ (s.lanes.get l).st = .operational ∧ (s.lanes.get l).faulted = false ∧
       f + 10000 ≤ s.img.clk.opMs ∧ s.img.reg (startObj l) 1 ≠ 0) ∧
  (let s : State := { live [] with lanes := ⟨{ LaneState.reset with st := .operational, phase := 9, active := true }, { LaneState.reset with st := .operational, phase := 9, faulted := true }⟩ };
     let l : Lane := .b;
     s.powered = true ∧ (s.lanes.get l).faulted = true ∧ (s.lanes.get l).st ≠ .lining ∧ s.granted ≠ some l) ∧
  (let s : State := { live [] with lanes := ⟨{ LaneState.reset with st := .operational, phase := 9, active := true }, { LaneState.reset with st := .operational, phase := 9, faulted := true, faults := [99000, 99100, 99200, 99300] }⟩ };
     let l : Lane := .b;
     s.powered = true ∧ (s.lanes.get l).faulted = true ∧ (s.lanes.get l).st ≠ .lining ∧ s.granted ≠ some l) ∧
  (let s : State := { State.reset with powered := true, buckle := { Buckle.reset with selfTest := true }, lanes := ⟨{ LaneState.reset with st := .halted }, { LaneState.reset with st := .halted }⟩ };
     s.powered = true ∧ s.running = false ∧ s.lining = false ∧ s.lanes.a.st = .halted ∧ s.lanes.b.st = .halted) ∧
  (let s : State := { { State.reset with powered := true, buckle := { Buckle.reset with selfTest := true }, lanes := ⟨{ LaneState.reset with st := .halted }, { LaneState.reset with st := .starting, phase := 8 }⟩ } with tick := 160000 };
     let l : Lane := .a;
     s.powered = true ∧ s.running = false ∧ s.lining = false ∧ (s.lanes.get l).st = .halted ∧
       (s.lanes.get l.other).statusAt + 160000 ≤ s.tick) ∧
  (let s : State := { { State.reset with powered := true, buckle := { Buckle.reset with selfTest := true }, lanes := ⟨{ LaneState.reset with st := .lining }, { LaneState.reset with st := .lining }⟩ } with img := auth Image.reset };
     let p : Path := .sdo1;
     s.lining = true ∧ s.running = false ∧ s.img.legacyAt p 0x2006 = false ∧
       s.hush.checkWrite p 0x2006 2 [1] = Verdict.ok) ∧
  (let s : State := { live [auth] with lanes := ⟨{ LaneState.reset with st := .operational, phase := 9, active := true }, { LaneState.reset with st := .halted }⟩ };
     let p : Path := .sdo1;
     let l : Lane := .b;
     s.takes p 0x220B 4 [l.code]) :=
  ⟨by decide, by decide, by decide, by decide, by decide, by decide, by decide, by decide, by decide, by decide,
      by decide, by decide, by unfold State.takes; decide⟩

theorem witness_RecorderRules :
  (let s : State := { live [] with stores := ⟨{ Store.reset with st := 1, queue := [7, 8], blocks := [⟨[1], 0⟩] }, Store.reset⟩ };
     let l : Lane := .a;
     let q : Nat := 7;
     let rest : List Nat := [8];
     s.powered = true ∧ (((s.lanes.get l).st = .operational ∨ (s.lanes.get l).st = .lining)) ∧
       (s.lanes.get l).faulted = false ∧ (s.stores.get l).st = 1 ∧ (s.stores.get l).ring ≠ 0 ∧
       (s.stores.get l).erasing = false ∧ (s.stores.get l).queue = q :: rest ∧ (s.stores.get l).blocks ≠ [] ∧
       (s.stores.get l).current.used < 256) ∧
  (let s : State := { live [] with stores := ⟨{ Store.reset with st := 1, queue := [7, 8], ring := 2, blocks := [⟨[1], 0⟩, ⟨[], 256⟩] }, Store.reset⟩ };
     let l : Lane := .a;
     let q : Nat := 7;
     let rest : List Nat := [8];
     s.powered = true ∧ (((s.lanes.get l).st = .operational ∨ (s.lanes.get l).st = .lining)) ∧
       (s.lanes.get l).faulted = false ∧ (s.stores.get l).st = 1 ∧ (s.stores.get l).ring ≠ 0 ∧
       (s.stores.get l).erasing = false ∧ (s.stores.get l).queue = q :: rest ∧ (s.stores.get l).blocks ≠ [] ∧
       256 ≤ (s.stores.get l).current.used ∧ (s.stores.get l).ring ≤ (s.stores.get l).blocks.length + 1) ∧
  (let s : State := { live [] with stores := ⟨{ Store.reset with st := 1, erasing := true, blocks := [⟨[1], 0⟩, ⟨[2], 0⟩] }, Store.reset⟩ };
     let l : Lane := .a;
     s.powered = true ∧ (((s.lanes.get l).st = .operational ∨ (s.lanes.get l).st = .lining)) ∧
       (s.lanes.get l).faulted = false ∧ (s.stores.get l).erasing = true) ∧
  (let s : State := { live [] with stores := ⟨{ Store.reset with st := 1, erasing := true, blocks := [⟨[1], 0⟩, ⟨[2], 0⟩] }, Store.reset⟩ };
     let l : Lane := .a;
     s.powered = true ∧ (((s.lanes.get l).st = .operational ∨ (s.lanes.get l).st = .lining)) ∧
       (s.lanes.get l).faulted = false ∧ (s.stores.get l).erasing = true) ∧
  (let s : State := { { live [] with stores := ⟨{ Store.reset with st := 1, blocks := [⟨[1], 0⟩, ⟨[2], 0⟩, ⟨[9], 0⟩] }, Store.reset⟩ } with committed := { Image.reset with rcd := { Recorder.reset with floor := 5 } } };
     let l : Lane := .a;
     s.powered = true ∧ (((s.lanes.get l).st = .operational ∨ (s.lanes.get l).st = .lining)) ∧
       (s.lanes.get l).faulted = false ∧ (s.stores.get l).toErase s.committed.rcd.floor ≠ 0 ∧
       (s.stores.get l).lastErase + 4 ≤ s.img.now) ∧
  (let s : State := live [];
     let p : Path := .sdo1;
     let k : Fin 4 := 0;
     let v : Nat := 0;
     v < 2 ^ 48 ∧ s.takes p (cursorObj k) 1 (le 6 v)) ∧
  (let s : State := live [];
     let p : Path := .sdo1;
     let k : Fin 4 := 3;
     let v : Nat := (2^48-1);
     v < 2 ^ 48 ∧ s.takes p (cursorObj k) 1 (le 6 v)) ∧
  (let s : State := live [];
     let p : Path := .sdo1;
     let k : Fin 4 := 3;
     let v : Nat := 1;
     v < 2 ^ 48 ∧ s.takes p (cursorObj k) 1 (le 6 v)) ∧
  (let s : State := live [];
     let p : Path := .sdo1;
     let k : Fin 4 := 0;
     let l : Lane := .a;
     s.activeLane = some l ∧ s.checkRead p (cursorObj k) 5 = 0 ∧ s.img.legacy p = false ∧
       s.img.reg (cursorObj k) 1 < (s.stores.get l).oldest s.committed.rcd.floor) ∧
  (let s : State := live [R 0x2705 1 5];
     let p : Path := .sdo1;
     let k : Fin 4 := 0;
     let l : Lane := .a;
     s.activeLane = some l ∧ s.checkRead p (cursorObj k) 5 = 0 ∧ s.img.legacy p = false ∧
       (s.stores.get l).oldest s.committed.rcd.floor ≤ s.img.reg (cursorObj k) 1 ∧
       s.committed.reg 0x2700 2 < s.img.reg (cursorObj k) 1) ∧
  (let s : State := live [auth];
     let p : Path := .sdo1;
     s.takes p 0x2712 1 [1]) ∧
  (let s : State := live [auth];
     let p : Path := .sdo1;
     s.takes p 0x2712 1 [2]) :=
  ⟨by decide, by decide, by decide, by decide, by decide, by unfold State.takes; decide,
      by unfold State.takes; decide, by unfold State.takes; decide, by decide, by decide,
      by unfold State.takes; decide, by unfold State.takes; decide⟩

theorem witness_CanReceptionAndFaults :
  (let s : State := live [P .x7 (fun x => { x with st := .active })];
     let q : Port := .x7;
     let f : CanFrame := ⟨0, false, false, false, false, [1, 0]⟩;
     s.portsUp = true ∧ (s.img.canPort q).listens = true ∧ ((f.fd = false ∨ s.img.fdPort q = true))) ∧
  (let s : State := live [P .x7 (fun x => { x with st := .active })];
     let q : Port := .x7;
     let f : CanFrame := ⟨0, false, false, false, false, [1, 0]⟩;
     s.portsUp = true ∧ (s.img.canPort q).listens = true ∧ ((f.fd = false ∨ s.img.fdPort q = true)) ∧
       f.remote = false ∧ f.extended = false ∧ s.img.usedId f.id = true ∧ (s.img.canPort q).st ≠ .detecting ∧
       (s.img.canPort q).rx.length < 64) ∧
  (let s : State := live [P .x7 (fun x => { x with st := .active })];
     let q : Port := .x7;
     let f : CanFrame := ⟨5, true, true, false, false, []⟩;
     s.portsUp = true ∧ (s.img.canPort q).listens = true ∧ ((f.fd = false ∨ s.img.fdPort q = true))) ∧
  (let s : State := live [P .x8 (fun x => { x with st := .detecting })];
     let q : Port := .x8;
     s.portsUp = true ∧ (s.img.canPort q).st = .detecting) ∧
  (let s : State := live [R 0x2FF0 1 1, P .x7 (fun x => { x with st := .detecting })];
     s.portsUp = true ∧ s.img.overlay = true ∧ (s.img.canPort .x7).st = .detecting) ∧
  (let s : State := live [P .x7 (fun x => { x with st := .active })];
     let q : Port := .x7;
     ((s.running = true ∨ s.lining = true)) ∧ (s.img.canPort q).st = .active) ∧
  (let s : State := live [P .x7 (fun x => { x with st := .active })];
     let q : Port := .x7;
     ((s.running = true ∨ s.lining = true)) ∧ (s.img.canPort q).transmits = true) ∧
  (let s : State := live [P .x8 (fun x => { x with st := .passive, busOffs := [99000, 99001, 99002, 99003, 99004, 99005, 99006] })];
     let q : Port := .x8;
     ((s.running = true ∨ s.lining = true)) ∧ (s.img.canPort q).transmits = true) ∧
  (let s : State := live [P .x7 (fun x => { x with st := .busOff })];
     let q : Port := .x7;
     ((s.running = true ∨ s.lining = true)) ∧ (s.img.canPort q).st = .busOff) ∧
  (let s : State := live [P .x7 (fun x => { x with st := .quarantine, quarantined := 90000 })];
     let q : Port := .x7;
     ((s.running = true ∨ s.lining = true)) ∧ (s.img.canPort q).st = .quarantine ∧
       (s.img.canPort q).quarantined + 10000 ≤ s.img.now) ∧
  (let s : State := live [P .x7 (fun x => { x with st := .active, activeSince := some 99000 })];
     let q : Port := .x7;
     let f : Nat := 99000;
     ((s.running = true ∨ s.lining = true)) ∧ (s.img.canPort q).activeSince = some f ∧ f + 1000 ≤ s.img.now ∧
       (s.img.canPort q).st = .active) :=
  ⟨by decide, by decide, by decide, by decide, by decide, by decide, by decide, by decide, by decide, by decide,
      by decide⟩

theorem witness_CanMailboxes :
  (let s : State := live [P .x7 (fun x => { x with st := .active })];
     let q : Port := .x7;
     let k : Fin 32 := 31;
     let tag : Option Nat := none;
     ((s.running = true ∨ s.lining = true)) ∧ s.img.maySubmit q k tag = true) ∧
  (let s : State := live [P .x7 (fun x => { x with st := .active })];
     let q : Port := .x7;
     let k : Fin 32 := 0;
     let tag : Option Nat := (some 160000000);
     ((s.running = true ∨ s.lining = true)) ∧ s.img.maySubmit q k tag = true) ∧
  (let s : State := live [P .x7 (fun x => { x with st := .active, boxes := x.boxes.set 6 (some ⟨0x181, [1], some 99999000, .tpdo 0⟩) })];
     let q : Port := .x7;
     let k : Fin 32 := 6;
     let r : Request := ⟨0x181, [1], some 99999000, .tpdo 0⟩;
     ((s.running = true ∨ s.lining = true)) ∧ (s.img.canPort q).boxes.get k = some r ∧ s.img.tagReached r.tag = true) ∧
  (let s : State := live [P .x7 (fun x => { x with st := .active, boxes := x.boxes.set 6 (some ⟨0x181, [1], some 99999000, .tpdo 0⟩) })];
     let q : Port := .x7;
     let k : Fin 32 := 6;
     ((s.running = true ∨ s.lining = true)) ∧ s.img.contends q k = true) ∧
  (let s : State := live [P .x7 (fun x => { x with st := .active, boxes := x.boxes.set 6 (some ⟨0x181, [1], some 99999000, .tpdo 0⟩) })];
     let q : Port := .x7;
     let k : Fin 32 := 6;
     ((s.running = true ∨ s.lining = true)) ∧ s.img.contends q k = true) ∧
  (let s : State := live [P .x7 (fun x => { x with st := .active, boxes := x.boxes.set 6 (some ⟨0x181, [1], some 99999000, .tpdo 0⟩) })];
     let q : Port := .x7;
     let k : Fin 32 := 6;
     ((s.running = true ∨ s.lining = true)) ∧ s.img.contends q k = true) ∧
  (let s : State := live [P .x7 (fun x => { x with st := .active, boxes := x.boxes.set 6 (some ⟨0x181, [1], some 99999000, .tpdo 0⟩) })];
     let q : Port := .x7;
     let k : Fin 32 := 6;
     ((s.running = true ∨ s.lining = true)) ∧ ((s.img.canPort q).boxes.get k).isSome = true) ∧
  (let s : State := live [R 0x2903 2 5, R 0x2903 5 5, P .x8 (fun x => { x with st := .passive, solitary := true, lastBeacon := 99900 })];
     let q : Port := .x8;
     ((s.running = true ∨ s.lining = true)) ∧ (s.img.canPort q).solitary = true ∧
       (s.img.canPort q).lastBeacon + 100 ≤ s.img.now ∧ s.img.configured = true ∧ (s.img.canPort q).accepts = true ∧
       (s.img.canPort q).boxes.get 0 = none) := ⟨by decide, by decide, by decide, by decide, by decide, by decide, by decide, by decide⟩

theorem witness_NmtAndPortService :
  (let s : State := live [R 0x2903 2 5, R 0x2903 5 5, P .x7 (fun x => { x with st := .active })];
     let q : Port := .x7;
     let node : Nat := 0;
     s.img.nmtFor q node = true ∧ s.running = true) ∧
  (let s : State := live [R 0x2903 2 5, R 0x2903 5 5, P .x7 (fun x => { x with st := .active })];
     let q : Port := .x7;
     let node : Nat := 0;
     s.img.nmtFor q node = true ∧ s.running = true) ∧
  (let s : State := live [R 0x2903 2 5, R 0x2903 5 5, P .x7 (fun x => { x with st := .active })];
     let q : Port := .x7;
     let node : Nat := 0;
     s.img.nmtFor q node = true ∧ s.running = true) ∧
  (let s : State := live [R 0x2903 2 5, R 0x2903 5 5, P .x7 (fun x => { x with st := .active })];
     let q : Port := .x7;
     let node : Nat := 0;
     s.img.nmtFor q node = true ∧ ((s.running = true ∨ s.lining = true))) ∧
  (let s : State := live [R 0x2903 2 5, R 0x2903 5 5, P .x7 (fun x => { x with st := .active })];
     let q : Port := .x7;
     let node : Nat := 0;
     s.img.nmtFor q node = true ∧ ((s.running = true ∨ s.lining = true))) ∧
  (let s : State := live [R 0x2903 2 127, P .x8 (fun x => { x with st := .passive })];
     let q : Port := .x8;
     let node : Nat := 127;
     s.img.nmtFor q node = true ∧ s.running = true) ∧
  (let s : State := live [R 0x2903 2 127, P .x8 (fun x => { x with st := .passive })];
     let q : Port := .x8;
     let node : Nat := 127;
     s.img.nmtFor q node = true ∧ s.running = true) ∧
  (let s : State := live [R 0x2903 2 127, P .x8 (fun x => { x with st := .passive })];
     let q : Port := .x8;
     let node : Nat := 127;
     s.img.nmtFor q node = true ∧ s.running = true) ∧
  (let s : State := live [R 0x2903 2 127, P .x8 (fun x => { x with st := .passive })];
     let q : Port := .x8;
     let node : Nat := 127;
     s.img.nmtFor q node = true ∧ ((s.running = true ∨ s.lining = true))) ∧
  (let s : State := live [R 0x2903 2 127, P .x8 (fun x => { x with st := .passive })];
     let q : Port := .x8;
     let node : Nat := 127;
     s.img.nmtFor q node = true ∧ ((s.running = true ∨ s.lining = true))) ∧
  (let s : State := live [P .x7 (fun x => { x with st := .disabled })];
     let p : Path := .sdo1;
     let q : Port := .x7;
     s.takes p q.obj 8 [1] ∧ (s.img.canPort q).st = .disabled) ∧
  (let s : State := live [P .x7 (fun x => { x with st := .active, boxes := x.boxes.set 6 (some ⟨0x181, [1], some 99999000, .tpdo 0⟩) })];
     let p : Path := .sdo1;
     let q : Port := .x7;
     s.takes p q.obj 8 [2] ∧ (s.img.canPort q).st ≠ .disabled ∧ (s.img.canPort q).drain = none) ∧
  (let s : State := live [P .x7 (fun x => { x with st := .active, boxes := x.boxes.set 6 (some ⟨0x181, [1], some 99999000, .tpdo 0⟩) })];
     let p : Path := .sdo1;
     let q : Port := .x7;
     s.takes p q.obj 8 [3] ∧ (s.img.canPort q).st ≠ .disabled) ∧
  (let s : State := live [P .x8 (fun x => { x with st := .detecting })];
     let p : Path := .sdo1;
     let q : Port := .x8;
     s.takes p q.obj 8 [2] ∧ (s.img.canPort q).st ≠ .disabled ∧ (s.img.canPort q).drain = none) ∧
  (let s : State := live [P .x8 (fun x => { x with st := .detecting })];
     let p : Path := .sdo1;
     let q : Port := .x8;
     s.takes p q.obj 8 [3] ∧ (s.img.canPort q).st ≠ .disabled) :=
  ⟨by decide, by decide, by decide, by decide, by decide, by decide, by decide, by decide, by decide, by decide,
      by unfold State.takes; decide, by unfold State.takes; decide, by unfold State.takes; decide,
      by unfold State.takes; decide, by unfold State.takes; decide⟩

theorem witness_SdoTransfers :
  (let s : State := live [R 0x2903 2 5, R 0x2903 5 5, P .x7 (fun x => { x with st := .active }), auth];
     let k : Fin 2 := 0;
     let q : Port := .x7;
     ((s.running = true ∨ s.lining = true)) ∧ s.serverOn q k = true ∧ s.img.serverBusy k = false) ∧
  (let s : State := live [R 0x2903 2 5, R 0x2903 5 5, P .x7 (fun x => { x with st := .active }), auth];
     let k : Fin 2 := 0;
     let q : Port := .x7;
     let idx : Nat := 0x2105;
     let sub : Nat := 7;
     let data : Bytes := [5];
     ((s.running = true ∨ s.lining = true)) ∧ s.serverOn q k = true ∧ s.img.serverBusy k = false ∧
       data.length ≤ s.img.expeditedMax q ∧ s.hush.checkWrite (serverPath k) idx sub data = Verdict.ok) ∧
  (let s : State := live [R 0x2903 2 5, R 0x2903 5 5, P .x7 (fun x => { x with st := .active }), auth];
     let k : Fin 2 := 0;
     let q : Port := .x7;
     ((s.running = true ∨ s.lining = true)) ∧ s.serverOn q k = true ∧ s.img.serverBusy k = false) ∧
  (let s : State := live [R 0x2903 2 5, R 0x2903 5 5, P .x8 (fun x => { x with st := .active }), R 0x1201 1 0x605, R 0x2901 1 1];
     let k : Fin 2 := 1;
     let q : Port := .x8;
     ((s.running = true ∨ s.lining = true)) ∧ s.serverOn q k = true ∧ s.img.serverBusy k = false) ∧
  (let s : State := live [R 0x2903 2 5, R 0x2903 5 5, P .x8 (fun x => { x with st := .active }), R 0x1201 1 0x605, R 0x2901 1 1];
     let k : Fin 2 := 1;
     let q : Port := .x8;
     let idx : Nat := 0x2104;
     let sub : Nat := 5;
     let data : Bytes := [60, 0];
     ((s.running = true ∨ s.lining = true)) ∧ s.serverOn q k = true ∧ s.img.serverBusy k = false ∧
       data.length ≤ s.img.expeditedMax q ∧ s.hush.checkWrite (serverPath k) idx sub data = Verdict.ok) ∧
  (let s : State := live [fun im => im.onCo (fun c => { c with servers := c.servers.set 0 ⟨.download 0x2105 7 4 [1] true false, some .x7, 98999, 0⟩ })];
     let k : Fin 2 := 0;
     let idx : Nat := 0x2105;
     let sub : Nat := 7;
     let size : Nat := 4;
     let data : Bytes := [1];
     let tog : Bool := true;
     let block : Bool := false;
     ((s.running = true ∨ s.lining = true)) ∧
       (s.img.net.co.servers.get k).job = .download idx sub size data tog block ∧
       (s.img.net.co.servers.get k).last + 1000 < s.img.now) := ⟨by decide, by decide, by decide, by decide, by decide, by decide⟩

theorem witness_ProcessDataRules :
  (let s : State := live [R 0x2903 2 5, R 0x2903 5 5, P .x7 (fun x => { x with st := .active }), R 0x1400 1 0x205, R 0x1600 0 1, R 0x1600 1 0x30020108, R 0x1400 2 255];
     let q : Port := .x7;
     let n : Fin 32 := 0;
     let data : Bytes := [0];
     s.running = true ∧ s.img.pdoOn q = true ∧ s.img.pdoOffered n = true ∧ s.img.rpdoValid n = true ∧
       s.img.pdoPort 1 n.val q = true ∧ s.img.rpdoBits n ≤ 8 * data.length) ∧
  (let s : State := live [R 0x2903 2 5, R 0x2903 5 5, P .x7 (fun x => { x with st := .active }), R 0x1400 1 0x205, R 0x1600 0 1, R 0x1600 1 0x30020108, R 0x1400 2 255];
     let q : Port := .x7;
     let n : Fin 32 := 0;
     let data : Bytes := [];
     s.running = true ∧ s.img.pdoOn q = true ∧ s.img.pdoOffered n = true ∧ s.img.rpdoValid n = true ∧
       s.img.pdoPort 1 n.val q = true ∧ 8 * data.length < s.img.rpdoBits n) ∧
  (let s : State := live [R 0x2903 2 5, R 0x2903 5 5, P .x7 (fun x => { x with st := .active }), R 0x141F 1 0x205, R 0x141F 5 1000, fun im => im.onCo (fun c => { c with rpdoSeen := c.rpdoSeen.set 31 (some 99000) })];
     let n : Fin 32 := 31;
     let f : Nat := 99000;
     s.running = true ∧ s.img.net.co.rpdoSeen.get n = some f ∧ s.img.operational = true ∧ s.img.rpdoValid n = true ∧
       s.img.rpdoSource n = false ∧ s.img.reg (0x1400 + n.val) 5 ≠ 0 ∧ f + s.img.reg (0x1400 + n.val) 5 ≤ s.img.now) ∧
  (let s : State := live [R 0x2903 2 5, R 0x2903 5 5, P .x7 (fun x => { x with st := .active }), R 0x1800 1 0x185, R 0x1800 2 254];
     let n : Fin 32 := 0;
     let q : Port := .x7;
     let k : Fin 32 := 6;
     s.running = true ∧ s.img.operational = true ∧ s.img.configured = true ∧ s.img.tpdoValid n = true ∧
       254 ≤ s.img.reg (0x1800 + n.val) 2 ∧ s.img.overlay = false ∧ s.tpdoDue n = true ∧
       s.img.openPorts.filter (fun q => s.img.pdoPort 2 n.val q) = [q] ∧ s.img.tpdoBox q n = some k) ∧
  (let s : State := live [R 0x2903 2 5, R 0x2903 5 5, P .x7 (fun x => { x with st := .active })];
     let q : Port := .x7;
     s.running = true ∧ (s.img.canPort q).transmits = true ∧ s.img.servicesOn = true) ∧
  (let s : State := live [R 0x2903 2 5, R 0x2903 5 5, P .x7 (fun x => { x with st := .active, boxes := x.boxes.set 6 (some ⟨0x181, [1], some 99999000, .tpdo 0⟩) }), R 0x1007 0 5000, fun im => im.onCo (fun c => { c with syncAt := some 99990 })];
     let f : Nat := 99990;
     s.running = true ∧ s.img.net.co.syncAt = some f ∧ s.img.reg 0x1007 0 ≠ 0 ∧
       1000 * f + s.img.reg 0x1007 0 ≤ s.img.nowUs) ∧
  (let s : State := live [R 0x2903 2 5, R 0x2903 5 5, P .x7 (fun x => { x with st := .active }), R 0x1005 0 0x40000080, R 0x1006 0 1000, fun im => im.onCo (fun c => { c with syncTag := some 99999000 })];
     let x : Nat := 99999000;
     s.running = true ∧ s.img.servicesOn = true ∧ bitOf (s.img.reg 0x1005 0) 30 = true ∧ s.img.reg 0x1006 0 ≠ 0 ∧
       s.img.openPorts.any (fun q => ((s.img.canPort q).boxes.get 5).isNone) = true ∧ s.img.net.co.syncTag = some x ∧
       s.img.tagAllowed (some (x + max 1000 (s.img.reg 0x1006 0))) = true) := ⟨by decide, by decide, by decide, by decide, by decide, by decide, by decide⟩

theorem witness_TimeAndHeartbeats :
  (let s : State := live [R 0x2903 2 5, R 0x2903 5 5, P .x7 (fun x => { x with st := .active })];
     let q : Port := .x7;
     s.running = true ∧ (s.img.canPort q).transmits = true ∧ s.img.servicesOn = true ∧
       bitOf (s.img.reg 0x1012 0) 31 = true ∧ s.img.overlay = false) ∧
  (let s : State := live [R 0x2903 2 5, R 0x2903 5 5, P .x8 (fun x => { x with st := .active })];
     let q : Port := .x8;
     ((s.running = true ∨ s.lining = true)) ∧ s.img.reg 0x1017 0 ≠ 0 ∧ (s.img.canPort q).bootDue = false ∧
       (s.img.canPort q).solitary = false ∧ (s.img.canPort q).hbTag = none ∧ s.img.configured = true ∧ s.img.nmt ≠ 0 ∧
       s.img.maySubmit q 0 none = true) ∧
  (let s : State := live [R 0x1016 16 0x050064, fun im => im.onCo (fun c => { c with hbSeen := c.hbSeen.set 15 (some 99900) })];
     let k : Fin 16 := 15;
     let f : Nat := 99900;
     s.running = true ∧ s.img.net.co.hbSeen.get k = some f ∧ bitOf s.img.net.co.hbLost k.val = false ∧
       s.img.reg 0x1016 (k.val + 1) % 0x10000 ≠ 0 ∧ f + s.img.reg 0x1016 (k.val + 1) % 0x10000 ≤ s.img.now) ∧
  (let s : State := live [R 0x1003 0 2];
     let p : Path := .sdo1;
     s.takes p 0x1003 0 [0]) := ⟨by decide, by decide, by decide, by unfold State.takes; decide⟩

theorem witness_LssServices :
  (let s : State := live [P .x7 (fun x => { x with st := .active })];
     let q : Port := .x7;
     s.running = true ∧ s.lssOn q = true) ∧
  (let s : State := live [P .x7 (fun x => { x with st := .active })];
     let q : Port := .x7;
     s.running = true ∧ s.lssOn q = true) ∧
  (let s : State := live [P .x7 (fun x => { x with st := .active })];
     let q : Port := .x7;
     let rLow : Nat := 0;
     let rHigh : Nat := 5;
     let nLow : Nat := 0;
     let nHigh : Nat := 5;
     s.running = true ∧ s.lssOn q = true ∧ rLow ≤ s.img.identity 2 ∧ s.img.identity 2 ≤ rHigh ∧
       nLow ≤ s.img.identity 3 ∧ s.img.identity 3 ≤ nHigh) ∧
  (let s : State := live [P .x7 (fun x => { x with st := .active })];
     let q : Port := .x7;
     s.running = true ∧ s.lssOn q = true ∧ s.img.configured = false) ∧
  (let s : State := live [P .x7 (fun x => { x with st := .active })];
     let q : Port := .x7;
     s.running = true ∧ s.lssOn q = true ∧ s.img.configured = false ∧ s.img.net.co.lss.configuring = false) ∧
  (let s : State := live [P .x7 (fun x => { x with st := .active })];
     let q : Port := .x7;
     let id : Nat := 0;
     let check : Nat := 31;
     let sub : Fin 4 := 0;
     s.running = true ∧ s.lssOn q = true ∧ s.img.configured = false ∧ s.img.net.co.lss.configuring = false ∧
       check < 32 ∧ s.img.net.co.lss.scan = sub.val ∧ s.img.identity sub.val / 2 ^ check = wrap 32 id / 2 ^ check) ∧
  (let s : State := live [P .x7 (fun x => { x with st := .active }), fun im => im.onCo (fun c => { c with lss := { c.lss with scan := 3 } })];
     let q : Port := .x7;
     let id : Nat := 0;
     let check : Nat := 31;
     let sub : Fin 4 := 3;
     s.running = true ∧ s.lssOn q = true ∧ s.img.configured = false ∧ s.img.net.co.lss.configuring = false ∧
       check < 32 ∧ s.img.net.co.lss.scan = sub.val ∧ s.img.identity sub.val / 2 ^ check = wrap 32 id / 2 ^ check) ∧
  (let s : State := live [P .x7 (fun x => { x with st := .active }), fun im => im.onCo (fun c => { c with lss := { c.lss with configuring := true } })];
     let q : Port := .x7;
     let id : Nat := 127;
     s.running = true ∧ s.lssOn q = true ∧ s.img.net.co.lss.configuring = true ∧ s.img.plugSets = false ∧ 1 ≤ id ∧
       id ≤ 127) ∧
  (let s : State := live [P .x7 (fun x => { x with st := .active }), fun im => im.onCo (fun c => { c with lss := { c.lss with configuring := true } })];
     let q : Port := .x7;
     let index : Nat := 0;
     let r : Nat := 1000;
     s.running = true ∧ s.lssOn q = true ∧ s.img.net.co.lss.configuring = true ∧ lssRate index = some r) ∧
  (let s : State := live [P .x7 (fun x => { x with st := .active }), fun im => im.onCo (fun c => { c with lss := { c.lss with configuring := true } })];
     let q : Port := .x7;
     s.running = true ∧ s.lssOn q = true ∧ s.img.net.co.lss.configuring = true) ∧
  (let s : State := live [P .x7 (fun x => { x with st := .active }), fun im => im.onCo (fun c => { c with lss := { c.lss with configuring := true, timing := some (.x7, 0) } })];
     let q : Port := .x7;
     let q' : Port := .x7;
     let index : Nat := 0;
     let r : Nat := 1000;
     s.running = true ∧ s.lssOn q = true ∧ s.img.net.co.lss.configuring = true ∧
       s.img.net.co.lss.timing = some (q', index) ∧ (s.img.canPort q').transmits = true ∧ lssRate index = some r) ∧
  (let s : State := live [P .x7 (fun x => { x with st := .active }), fun im => im.onCo (fun c => { c with lss := { c.lss with configuring := true, nodeId := some 127 } })];
     let q : Port := .x7;
     let id : Nat := 127;
     s.running = true ∧ s.lssOn q = true ∧ s.img.net.co.lss.configuring = true ∧ s.img.net.co.lss.nodeId = some id) :=
  ⟨by decide, by decide, by decide, by decide, by decide, by decide, by decide, by decide, by decide, by decide,
      by decide, by decide⟩

theorem witness_BackboneLinksAndAddresses :
  (let s : State := live [];
     let x : Fin 2 := 1;
     s.running = true ∧ bitOf (s.img.bootReg 0x2906 4) x.val = true ∧ s.img.net.bb.lost.get x = false) ∧
  (let s : State := live [fun im => im.onBb (fun b => { b with lost := ⟨#[false, true], rfl⟩ })];
     let x : Fin 2 := 1;
     s.running = true ∧ s.img.net.bb.lost.get x = true) ∧
  (let s : State := live [fun im => { im with net := { im.net with boot := [(key 0x2907 1, 1)] } }];
     s.running = true ∧ s.img.bootReg 0x2907 1 = 1 ∧ s.img.net.bb.lease = false ∧
       s.img.inp.sup.since + 30000 ≤ s.img.now) ∧
  (let s : State := live [fun im => { im with net := { im.net with boot := [(key 0x2907 1, 1)] } }];
     s.running = true ∧ s.img.bootReg 0x2907 1 = 1 ∧ s.img.net.bb.lease = false) ∧
  (let s : State := live [R 0x2907 5 5];
     ((s.running = true ∨ s.lining = true))) ∧
  (let s : State := live [R 0x2907 5 5];
     ((s.running = true ∨ s.lining = true))) ∧
  (let s : State := live [];
     ((s.running = true ∨ s.lining = true))) ∧
  (let s : State := live [];
     ((s.running = true ∨ s.lining = true))) ∧
  (let s : State := live [];
     s.running = true ∧ s.img.overlay = false ∧ s.img.net.bb.statusDue ≤ s.img.now) ∧
  (let s : State := live [];
     s.running = true ∧ s.img.overlay = false) ∧
  (let s : State := live [];
     let source : Nat := 5;
     let seq : Nat := 0;
     let data : Bytes := (List.replicate 64 0);
     s.running = true ∧ s.img.overlay = false ∧ s.img.reg 0x2908 4 ≠ 0 ∧ s.img.commandAccepted source seq data = true) ∧
  (let s : State := live [fun im => im.onBb (fun b => { b with commandSeq := some 7 })];
     let source : Nat := 5;
     let seq : Nat := 7;
     let data : Bytes := (List.replicate 64 0);
     s.running = true ∧ s.img.overlay = false ∧ s.img.reg 0x2908 4 ≠ 0 ∧ s.img.commandAccepted source seq data = false) ∧
  (let s : State := live [];
     let source : Nat := 5;
     let seq : Nat := 8;
     let data : Bytes := [];
     s.running = true ∧ s.img.overlay = false ∧ s.img.reg 0x2908 4 ≠ 0 ∧ s.img.commandAccepted source seq data = false) :=
  ⟨by decide, by decide, by decide, by decide, by decide, by decide, by decide, by decide, by decide, by decide,
      by decide, by decide, by decide⟩

theorem witness_GatewayRequests :
  (let s : State := live [fun im => im.onUpd (fun u => { u with key := some [1], auth := [{ AuthPath.closed .x9 with openedAt := some 99990 }] }), fun im => im.onBb (fun b => { b with tcp := [.x9] })];
     let p : Path := .x9;
     ((s.running = true ∨ s.lining = true)) ∧ isGateway p = true ∧ s.gatewayOn p true = true ∧ s.img.net.bb.gw = [] ∧
       s.img.net.bb.gwServed < 8 ∧ s.img.reg 0x2909 1 ≠ 0) ∧
  (let s : State := live [fun im => im.onUpd (fun u => { u with key := some [1], auth := [{ AuthPath.closed .x9 with openedAt := some 99990 }] }), fun im => im.onBb (fun b => { b with tcp := [.x9] })];
     let p : Path := .x9;
     let idx : Nat := 0x2104;
     let sub : Nat := 5;
     let data : Bytes := [60, 0];
     ((s.running = true ∨ s.lining = true)) ∧ isGateway p = true ∧ s.gatewayOn p true = true ∧ s.img.net.bb.gw = [] ∧
       s.img.net.bb.gwServed < 8 ∧ s.img.reg 0x2909 1 ≠ 0 ∧ ¬(idx = 0x2804 ∧ sub = 3) ∧
       s.hush.checkWrite p idx sub data = Verdict.ok) ∧
  (let s : State := live [fun im => im.onBb (fun b => { b with tcp := [.gateway 5] })];
     let p : Path := (.gateway 5);
     ((s.running = true ∨ s.lining = true)) ∧ isGateway p = true ∧ s.gatewayOn p true = true ∧ s.img.net.bb.gw = [] ∧
       s.img.net.bb.gwServed < 8 ∧ s.img.reg 0x2909 1 ≠ 0) ∧
  (let s : State := live [fun im => im.onBb (fun b => { b with tcp := [.x9], gwServed := 8 })];
     let p : Path := .x9;
     ((s.running = true ∨ s.lining = true)) ∧ isGateway p = true ∧ s.gatewayOn p true = true ∧
       ((s.img.net.bb.gw ≠ [] ∨ 8 ≤ s.img.net.bb.gwServed))) ∧
  (let s : State := live [fun im => im.onBb (fun b => { b with gw := [⟨.x9, true, false, 0x2104, 5, [], 99500⟩] })];
     let p : Path := .x9;
     ((s.running = true ∨ s.lining = true)) ∧ isGateway p = true) ∧
  (let s : State := live [fun im => im.onBb (fun b => { b with gw := [⟨.x9, true, false, 0x2104, 5, [], 99500⟩] })];
     let p : Path := .x9;
     ((s.running = true ∨ s.lining = true)) ∧ isGateway p = true) ∧
  (let s : State := live [fun im => im.onBb (fun b => { b with gw := [⟨.x9, true, false, 0x2104, 5, [], 99500⟩], tcp := [.x9, .gateway 1, .gateway 2, .gateway 3] })];
     let p : Path := .x9;
     ((s.running = true ∨ s.lining = true)) ∧ isGateway p = true) ∧
  (let s : State := live [fun im => im.onBb (fun b => { b with gw := [⟨.x9, true, false, 0x2104, 5, [], 99500⟩], tcp := [.x9, .gateway 1, .gateway 2, .gateway 3] })];
     let p : Path := .x9;
     ((s.running = true ∨ s.lining = true)) ∧ isGateway p = true ∧ p ∈ s.img.net.bb.tcp) := ⟨by decide, by decide, by decide, by decide, by decide, by decide, by decide, by decide⟩

theorem witness_TimeSources :
  (let s : State := live [];
     let delay : Nat := 9999999;
     s.running = true ∧ s.img.reg 0x290A 1 ≠ 0 ∧ delay < 10000000) ∧
  (let s : State := live [R 0x290B 1 5];
     s.running = true ∧ s.img.net.bb.sntp = none ∧ s.img.net.bb.sntpDue ≤ s.img.now ∧ s.img.reg 0x290B 1 ≠ 0) ∧
  (let s : State := live [fun im => im.onBb (fun b => { b with sntp := some (2, 99000) })];
     let n : Nat := 2;
     let f : Nat := 99000;
     let stratum : Nat := 15;
     s.running = true ∧ s.img.net.bb.sntp = some (n, f) ∧ s.img.now ≤ f + 1000 ∧ 1 ≤ stratum ∧ stratum ≤ 15) ∧
  (let s : State := live [fun im => { im with clk := { im.clk with source := 1, lastPtp := some 40000, lastSntp := some 40000 } }];
     let f : Nat := 40000;
     let g : Nat := 40000;
     s.running = true ∧ s.img.clk.lastPtp = some f ∧ s.img.clk.lastSntp = some g ∧
       f + 1000 * s.img.reg 0x2104 5 ≤ s.img.now ∧ g + 1000 * s.img.reg 0x2104 5 ≤ s.img.now) ∧
  (let s : State := live [fun im => { im with clk := { im.clk with source := 2, ptpRunSince := some 90000, lastPtp := some 99900, ptpInterval := 1000 } }, R 0x290A 3 9];
     s.running = true ∧ s.img.clk.source = 2 ∧ s.img.ptpValid = true ∧
       s.img.elapsed s.img.clk.ptpRunSince 10000 = true) ∧
  (let s : State := live [auth];
     let p : Path := .sdo1;
     s.running = true ∧ s.takes p 0x2103 3 [1] ∧
       (((s.img.clk.source = 1 ∨ s.img.clk.source = 2) → s.img.reg 0x2104 6 ≠ 0))) := ⟨by decide, by decide, by decide, by decide, by decide, by unfold State.takes; decide⟩

theorem witness_DictionaryAndStoredSets :
  (let s : State := live [];
     let p : Path := .sdo1;
     let idx : Nat := 0x2104;
     let sub : Nat := 5;
     let data : Bytes := [60, 0];
     ((s.running = true ∨ s.lining = true)) ∧ (s.hush.checkWrite p idx sub data).code = 0) ∧
  (let s : State := live [];
     let p : Path := .x9;
     let idx : Nat := 0x2104;
     let sub : Nat := 5;
     let data : Bytes := [60, 0];
     ((s.running = true ∨ s.lining = true)) ∧ (s.hush.checkWrite p idx sub data).code ≠ 0 ∧ (∀ n, p ≠ .rpdo n) ∧
       p ≠ .trdp) ∧
  (let s : State := live [auth];
     let p : Path := .sdo1;
     let sig : Nat := 0x65766173;
     s.takes p 0x1010 1 (le 4 sig)) ∧
  (let s : State := live [auth];
     let p : Path := .sdo1;
     let sig : Nat := 0x65766173;
     s.takes p 0x1010 2 (le 4 sig)) ∧
  (let s : State := live [auth];
     let p : Path := .sdo1;
     let sig : Nat := 0x65766173;
     s.takes p 0x1010 3 (le 4 sig)) ∧
  (let s : State := live [auth];
     let p : Path := .sdo1;
     let sig : Nat := 0x64616F6C;
     s.takes p 0x1011 1 (le 4 sig)) ∧
  (let s : State := live [auth];
     let p : Path := .sdo1;
     let sig : Nat := 0x64616F6C;
     s.takes p 0x1011 2 (le 4 sig)) ∧
  (let s : State := live [auth];
     let p : Path := .sdo1;
     let sig : Nat := 0x64616F6C;
     s.takes p 0x1011 3 (le 4 sig)) ∧
  (let s : State := live [fun im => im.onUpd (fun u => { u with store := some (1, .sdo1, some []) })];
     let set : Nat := 1;
     let q : Path := .sdo1;
     let new : RegFile := [];
     s.running = true ∧ s.img.net.upd.store = some (set, q, some new)) ∧
  (let s : State := live [auth];
     let p : Path := .sdo1;
     let v : Nat := 1;
     v < 256 ∧ s.takes p 0x2FF0 2 [v]) :=
  ⟨by decide, by decide, by unfold State.takes; decide, by unfold State.takes; decide, by unfold State.takes; decide,
      by unfold State.takes; decide, by unfold State.takes; decide, by unfold State.takes; decide, by decide,
      by unfold State.takes; decide⟩

theorem witness_OverlayRules :
  (let s : State := live [R 0x2FF0 1 1, st 0 .opened];
     let idx : Nat := 0x2013;
     let sub : Nat := 1;
     let v : Nat := 2500;
     let ni : Nat := 0x3003;
     let ns : Nat := 1;
     let x : Nat := 2500;
     let d : Door := 0;
     let r : ObjRow := (((live [R 0x2FF0 1 1]).img.rowFor .sdo1 0x2013 1).getD (topSubRow []));
     s.running = true ∧ s.img.overlay = true ∧ 0x2000 ≤ idx ∧ s.img.legacyAt .sdo1 idx = true ∧
       s.img.rowFor .sdo1 idx sub = some r ∧ s.hush.checkWrite .sdo1 idx sub (le r.ty.bytes v) = Verdict.ok ∧
       s.img.legacyTarget idx sub (ofLe (le r.ty.bytes v)) = some (ni, ns, x) ∧ s.img.legacyStage idx = some d) ∧
  (let s : State := live [R 0x2FF0 1 1];
     let p : Path := .sdo1;
     s.running = true ∧ s.img.overlay = true ∧ s.checkRead p 0x2005 1 = 0 ∧ s.img.legacy p = true) ∧
  (let s : State := live [R 0x2FF0 1 1];
     let p : Path := .sdo1;
     s.running = true ∧ s.img.overlay = true ∧ s.img.legacyAt p 0x2007 = true ∧
       s.hush.checkWrite p 0x2007 1 [1] = Verdict.ok) := ⟨by decide, by decide, by decide⟩

theorem witness_UpdateRules :
  (let s : State := live [auth];
     let p : Path := .sdo1;
     s.takes p 0x2800 1 [1]) ∧
  (let s : State := live [R 0x2800 2 1];
     ((s.running = true ∨ s.lining = true)) ∧ s.img.reg 0x2800 2 = 1) ∧
  (let s : State := live [auth, R 0x2800 2 2];
     let p : Path := .sdo1;
     let data : Bytes := [1, 2];
     s.takes p 0x2801 2 data) ∧
  (let s : State := { live [auth, R 0x2800 2 2] with buckle := { (live []).buckle with qualified := ⟨false, true⟩ } };
     let p : Path := .sdo1;
     let data : Bytes := [1, 2];
     s.takes p 0x2801 2 data) ∧
  (let s : State := live [auth, R 0x2800 2 2];
     let p : Path := .sdo1;
     let r : Nat := 2;
     s.takes p 0x2800 1 [2] ∧
       r = (if verifyImage s.img.net.upd.load (s.img.reg 0x2806 2) ≠ 0 then verifyImage s.img.net.upd.load (s.img.reg 0x2806 2) else verifyImage s.img.net.upd.load (s.img.reg 0x2806 3))) ∧
  (let s : State := { { live [auth, R 0x2800 2 3, fun im => im.onUpd (fun u => { u with load := List.replicate 256 1 })] with lanes := ⟨{ LaneState.reset with st := .operational, phase := 9, active := true }, { LaneState.reset with st := .operational, phase := 9 }⟩ } with buckle := { (live []).buckle with qualified := ⟨false, true⟩ } };
     let p : Path := .sdo1;
     let l : Lane := .a;
     s.activeLane = some l ∧ s.takes p 0x2800 1 [3] ∧ s.img.reg 0x2800 2 = 3) ∧
  (let s : State := { { live [auth, R 0x2209 4 2, R 0x220A 4 2] with lanes := ⟨{ LaneState.reset with st := .operational, phase := 9, active := true, slot2 := ⟨some (List.replicate 256 0), []⟩ }, { LaneState.reset with st := .operational, phase := 9, slot2 := ⟨some (List.replicate 256 0), []⟩ }⟩ } with buckle := { (live []).buckle with qualified := ⟨false, true⟩ } };
     let p : Path := .sdo1;
     let l : Lane := .a;
     s.activeLane = some l ∧ s.takes p 0x2800 1 [4]) ∧
  (let s : State := { live [R 0x2800 2 4, fun im => im.onUpd (fun u => { u with leap := .running false 4 .b false })] with buckle := { (live []).buckle with qualified := ⟨false, true⟩ } };
     let rb : Bool := false;
     let l : Lane := .b;
     s.running = true ∧ s.img.net.upd.leap = .running rb 4 l false ∧ s.qualified = true) ∧
  (let s : State := { live [R 0x2800 2 4, fun im => im.onUpd (fun u => { u with leap := .running false 4 .b false })] with buckle := { (live []).buckle with qualified := ⟨false, true⟩ } };
     let rb : Bool := false;
     let l : Lane := .b;
     s.running = true ∧ s.img.net.upd.leap = .running rb 4 l false) ∧
  (let s : State := live [auth, R 0x2800 2 2];
     let p : Path := .sdo1;
     s.takes p 0x2800 1 [5] ∧ s.img.net.upd.leap = .none) ∧
  (let s : State := live [auth, R 0x2800 2 5, fun im => im.onUpd (fun u => { u with leap := .running true 7 .b false })];
     let p : Path := .sdo1;
     let rb : Bool := true;
     let n : Nat := 7;
     let l : Lane := .b;
     let b : Bool := false;
     s.takes p 0x2800 1 [5] ∧ s.img.net.upd.leap = .running rb n l b) ∧
  (let s : State := live [auth, R 0x2800 2 3, fun im => im.onUpd (fun u => { u with windowAt := some 99000 })];
     let p : Path := .sdo1;
     s.takes p 0x2800 1 [6]) ∧
  (let s : State := live [fun im => im.onUpd (fun u => { u with chunkSince := some 99500 })];
     let f : Nat := 99500;
     s.running = true ∧ s.img.net.upd.chunkSince = some f ∧ f + 500 ≤ s.img.now) :=
  ⟨by unfold State.takes; decide, by decide, by unfold State.takes; decide, by unfold State.takes; decide,
      by unfold State.takes; decide, by unfold State.takes; decide, by unfold State.takes; decide, by decide,
      by decide, by unfold State.takes; decide, by unfold State.takes; decide, by unfold State.takes; decide, by decide⟩

set_option maxRecDepth 20000 in
theorem witness_AuthorisationRules :
  (let s : State := live [];
     let p : Path := .sdo1;
     s.takes p 0x2804 1 [1]) ∧
  (let s : State := live [fun im => im.onUpd (fun u => { u with key := some [1], auth := [{ AuthPath.closed .sdo1 with challenge := some ([1], 99000) }] })];
     let p : Path := .sdo1;
     let resp : Bytes := (((live [fun im => im.onUpd (fun u => { u with key := some [1], auth := [{ AuthPath.closed .sdo1 with challenge := some ([1], 99000) }] })]).img.expectedResponse .sdo1).getD []);
     s.takes p 0x2804 3 resp ∧ s.img.expectedResponse p = some resp) ∧
  (let s : State := live [fun im => im.onUpd (fun u => { u with key := some [1], auth := [{ AuthPath.closed .sdo1 with challenge := some ([1], 99000) }] })];
     let p : Path := .sdo1;
     let resp : Bytes := (List.replicate 16 0);
     s.takes p 0x2804 3 resp ∧ s.img.expectedResponse p ≠ some resp) ∧
  (let s : State := live [auth];
     let p : Path := .sdo1;
     s.takes p 0x2804 1 [2]) ∧
  (let s : State := live [fun im => im.onUpd (fun u => { u with key := some [1], auth := [{ AuthPath.closed .sdo1 with challenge := some ([1], 40000) }] })];
     let p : Path := .sdo1;
     let c : Bytes × Nat := ([1], 40000);
     ((s.running = true ∨ s.lining = true)) ∧ (s.img.auth p).challenge = some c ∧ c.2 + 60000 ≤ s.img.now) ∧
  (let s : State := live [fun im => im.onUpd (fun u => { u with key := some [1], auth := [{ AuthPath.closed .sdo1 with openedAt := some 99000, lastRwa := 0, challenge := some ([2], 99000) }] }), R 0x2805 1 10];
     let p : Path := .sdo1;
     let f : Nat := 99000;
     ((s.running = true ∨ s.lining = true)) ∧ (s.img.auth p).openedAt = some f ∧
       ((f + 1000 * s.img.reg 0x2805 2 ≤ s.img.now ∨ (s.img.auth p).lastRwa + 1000 * s.img.reg 0x2805 1 ≤ s.img.now))) ∧
  (let s : State := live [fun im => im.onUpd (fun u => { u with key := some [1], auth := [{ AuthPath.closed .sdo1 with lockedAt := some 30000 }] })];
     let p : Path := .sdo1;
     let f : Nat := 30000;
     ((s.running = true ∨ s.lining = true)) ∧ (s.img.auth p).lockedAt = some f ∧
       f + 1000 * s.img.reg 0x2805 4 ≤ s.img.now) ∧
  (let s : State := live [];
     let p : Path := .x9;
     let k : Bytes := (List.replicate 32 5);
     s.takes p 0x2807 1 k) ∧
  (let s : State := live [auth, fun im => (allFin 12).foldl (fun im d => st d .locked im) im];
     let p : Path := .sdo1;
     s.takes p 0x2809 1 [1]) ∧
  (let s : State := live [auth, fun im => (allFin 12).foldl (fun im d => st d .locked im) im];
     let p : Path := .sdo1;
     s.takes p 0x2809 1 [2]) ∧
  (let s : State := live [fun im => im.onUpd (fun u => { u with windowAt := some 10000 }), R 0x2809 3 90];
     let f : Nat := 10000;
     s.running = true ∧ s.img.net.upd.windowAt = some f ∧ f + 1000 * s.img.reg 0x2809 3 ≤ s.img.clk.opMs ∧
       s.img.net.upd.windowUpdate = false) ∧
  (let s : State := live [auth];
     let p : Path := .sdo1;
     let data : Bytes := [1, 0, 0, 0, 0, 2, 0, 0x30];
     let d : Door := 0;
     s.takes p 0x280A 3 data ∧ subDoor (s.img.reg 0x280A 1) = some d) :=
  ⟨by unfold State.takes; decide, by unfold State.takes; decide, by unfold State.takes; decide,
      by unfold State.takes; decide, by decide, by decide, by decide, by unfold State.takes; decide,
      by unfold State.takes; decide, by unfold State.takes; decide, by decide, by unfold State.takes; decide⟩

theorem witness_EventServiceRules :
  (let s : State := live [auth];
     let p : Path := .sdo1;
     let n : Nat := 63;
     n < 64 ∧ s.takes p 0x250D 1 [n]) ∧
  (let s : State := live [auth, R 0x2501 1 5, R 0x2502 3 7, R 0x250A 1 9];
     let p : Path := .sdo1;
     s.takes p 0x250F 1 [1]) ∧
  (let s : State := live [fun im => im.onScope 12 (fun e => { e with holds := [(63, 99000), (63, 100001), (5, 99000)] })];
     s.running = true) ∧
  (let s : State := live [fun im => im.onScope 12 (fun e => { e with holds := [(63, 99000), (63, 100001), (5, 99000)] })];
     s.running = true) := ⟨by unfold State.takes; decide, by unfold State.takes; decide, by decide, by decide⟩

theorem witness_WrongParityOfAMirrorAddress :
  (let s : State := live [];
     let w : Fin 16 := 0;
     let par : Bool := (!mirrorParity 0 true);
     let edges : Nat := 5;
     s.powered = true ∧ s.img.reg 0x230F 1 ≠ 0 ∧ s.mirror.active = none ∧ mirrorParity w.val par = false ∧ 5 ≤ edges) := by decide

theorem witness_CommandsThatMoveNothing :
  (let i : Instr := .restBusReady;
     movesNothing i = true) ∧
  (let i : Instr := .restBusReady;
     movesNothing i = true) := ⟨by decide, by decide⟩

theorem witness_WithoutALaneNothingHappens :
  (let s : State := State.reset;
     let i : Instr := .survey;
     needsLane i = true ∧ s.running = false ∧ s.lining = false ∧ s.portsUp = false) ∧
  (let s : State := { State.reset with powered := true, buckle := { Buckle.reset with selfTest := true }, lanes := ⟨{ LaneState.reset with st := .halted }, { LaneState.reset with st := .starting, phase := 2 }⟩ };
     let i : Instr := .survey;
     needsLane i = true ∧ s.running = false ∧ s.lining = false ∧ s.portsUp = false) ∧
  (let s : State := { State.reset with powered := true, buckle := { Buckle.reset with selfTest := true }, lanes := ⟨{ LaneState.reset with st := .operational }, { LaneState.reset with st := .operational }⟩ };
     let i : Instr := .survey;
     needsLane i = true ∧ s.running = false ∧ s.lining = false ∧ s.portsUp = false) := ⟨by decide, by decide, by decide⟩

/-- The grant invariant and a step that keeps it. -/
theorem witness_EveryStepKeepsGrantInvariant : State.reset.grantInv ∧ step State.reset = .next State.reset :=
  ⟨by unfold State.grantInv; decide, rfl⟩

/-- The two ends of the list of reserved indices; the accesses of its clauses. -/
theorem witness_ReservedIndices : isReserved 0x1202 = true ∧ isReserved 0x240F = true ∧
    (live []).img.legacyAt .x9 0x1202 = false ∧ (live []).lining = false ∧ (0x1202 * 0x10000 + 8) / 0x10000 = 0x1202 := by decide

/-- An event of the module and the last event of the last doorway. -/
theorem witness_EventRaisedAndClearedInOneFrame :
    (let im : Image := Image.reset; im.evActive 0 0 = false ∧ bitOf (im.ev.scopes.get 0).latched 0 = false ∧
      im.speaks 0 0 = true ∧ bitOf (im.reaction 0) 0 = true ∧ im.rcd.fifo.length + 2 ≤ 960 ∧ 1000 ≤ im.reg 0x250A 1) ∧
    (let im : Image := Image.reset; im.evActive 63 12 = false ∧ bitOf (im.ev.scopes.get 12).latched 63 = false ∧
      im.speaks 63 12 = true ∧ bitOf (im.reaction 63) 0 = true ∧ im.rcd.fifo.length + 2 ≤ 960) := by decide

end Sys2Proof.Tests
end

section
/-! SUPPORT. What a later read of a register finds after a write, and what the event operations leave of an image. -/

namespace Sys2Proof.Machine.ReleaseLoop

/-! ## Registers read after a write -/

/-- A register whose reads are its last write: no mode or node-ID register, not forced by Overlay mode, and narrower
than the mark of a default that depends on the node-ID. -/
def plainReg (idx sub : Nat) : Bool :=
  decide (sub < 256) && decide (idx < 0x2900) && (overlayForced idx sub).isNone && decide (regBits idx sub ≤ 64)

theorem plainReg_iff {idx sub : Nat} : plainReg idx sub = true ↔
    sub < 256 ∧ idx < 0x2900 ∧ overlayForced idx sub = none ∧ regBits idx sub ≤ 64 := by
  simp [plainReg, and_assoc]

/-- A read depends on three entries: the register's own, the mode in force and the node-ID in force. -/
theorem Image.reg_congr {a b : Image} {idx sub : Nat}
    (hr : RegFile.find? a.od (key idx sub) = RegFile.find? b.od (key idx sub))
    (hm : RegFile.find? a.od (key 0x2FF0 1) = RegFile.find? b.od (key 0x2FF0 1))
    (hn : RegFile.find? a.od (key 0x2903 2) = RegFile.find? b.od (key 0x2903 2)) : a.reg idx sub = b.reg idx sub := by
  have ho : a.overlay = b.overlay := by simp only [Image.overlay, RegFile.get, hm]
  have hh : a.held idx sub = b.held idx sub := by
    unfold Image.held RegFile.get
    rw [hr, hn]
  rw [Image.reg, Image.reg, ho, hh]

theorem Image.reg_of_od {a b : Image} (h : a.od = b.od) {idx sub : Nat} : a.reg idx sub = b.reg idx sub :=
  Image.reg_congr (by rw [h]) (by rw [h]) (by rw [h])

theorem Image.reg_setReg_other (im : Image) (v : Nat) {idx sub idx' sub' : Nat} (hp : plainReg idx sub = true)
    (hs : sub' < 256) (hk : ¬ (idx' = idx ∧ sub' = sub)) : (im.setReg idx sub v).reg idx' sub' = im.reg idx' sub' := by
  obtain ⟨hs0, hi, -, -⟩ := plainReg_iff.mp hp
  exact Image.reg_congr (im.setReg_find_other v hs0 hs hk) (im.setReg_find_other v hs0 (by decide) (by omega))
    (im.setReg_find_other v hs0 (by decide) (by omega))

theorem wrap_ne_nodeDefault {n : Nat} (v : Nat) (h : n ≤ 64) : wrap n v ≠ nodeDefault := by
  have hlt : wrap n v < 2 ^ n := Nat.mod_lt _ (Nat.two_pow_pos n)
  have hle : 2 ^ n ≤ 2 ^ 64 := Nat.pow_le_pow_right (by decide) h
  unfold nodeDefault
  omega

theorem Image.reg_setReg_same (im : Image) (v : Nat) {idx sub : Nat} (hp : plainReg idx sub = true) :
    (im.setReg idx sub v).reg idx sub = wrap (regBits idx sub) v := by
  obtain ⟨-, -, hf, hb⟩ := plainReg_iff.mp hp
  simp [Image.reg, hf, Image.held_setReg_same im idx sub v (wrap_ne_nodeDefault v hb)]

/-- A BOOLEAN register, one bit wide, reads the flag written to it. -/
theorem Image.reg_setReg_flag (im : Image) (b : Bool) {idx sub : Nat} (hp : plainReg idx sub = true)
    (hw : regBits idx sub = 1) : (im.setReg idx sub (b2n b)).reg idx sub = b2n b := by
  rw [Image.reg_setReg_same im _ hp, hw]
  cases b <;> rfl

theorem Image.reg_bump_same (im : Image) {idx sub : Nat} (hp : plainReg idx sub = true) :
    (im.bump idx sub).reg idx sub = wrap (regBits idx sub) (im.reg idx sub + 1) := Image.reg_setReg_same im _ hp

theorem Image.reg_bump_other (im : Image) {idx sub idx' sub' : Nat} (hp : plainReg idx sub = true) (hs : sub' < 256)
    (hk : ¬ (idx' = idx ∧ sub' = sub)) : (im.bump idx sub).reg idx' sub' = im.reg idx' sub' :=
  Image.reg_setReg_other im _ hp hs hk

/-! ## What an event operation leaves -/

theorem RegFile.find_without (own : Nat → Bool) (m : RegFile) {k : Nat} (h : own (k / 256) = false) :
    RegFile.find? (RegFile.without own m) k = RegFile.find? m k := by
  induction m with
  | nil => rfl
  | cons e m ih =>
    obtain ⟨j, v⟩ := e
    unfold RegFile.without at ih ⊢
    by_cases hj : j = k
    · subst hj
      simp [h, RegFile.find?]
    · cases ho : own (j / 256) <;> simp [ho, hj, RegFile.find?, ih]

theorem Image.find_of_sansEvents {a b : Image} (h : a.sansEvents = b.sansEvents) {idx sub : Nat} (hs : sub < 256)
    (hi : eventRegs idx = false) : RegFile.find? a.od (key idx sub) = RegFile.find? b.od (key idx sub) := by
  have hod : RegFile.without eventRegs a.od = RegFile.without eventRegs b.od := congrArg Image.od h
  have hk : eventRegs (key idx sub / 256) = false := by
    rwa [show key idx sub / 256 = idx by unfold key; omega]
  rw [← RegFile.find_without eventRegs a.od hk, hod, RegFile.find_without eventRegs b.od hk]

theorem Image.reg_of_sansEvents {a b : Image} (h : a.sansEvents = b.sansEvents) {idx sub : Nat} (hs : sub < 256)
    (hi : eventRegs idx = false) : a.reg idx sub = b.reg idx sub :=
  Image.reg_congr (Image.find_of_sansEvents h hs hi) (Image.find_of_sansEvents h (by decide) (by decide))
    (Image.find_of_sansEvents h (by decide) (by decide))

theorem Image.permits_of_sansEvents {a b : Image} (h : a.sansEvents = b.sansEvents) : a.permits = b.permits :=
  show a.sansEvents.permits = b.sansEvents.permits by rw [h]

theorem Image.commit_of_sansEvents {a b : Image} (h : a.sansEvents = b.sansEvents) : a.commit = b.commit :=
  show a.sansEvents.commit = b.sansEvents.commit by rw [h]

theorem Image.inp_of_sansEvents {a b : Image} (h : a.sansEvents = b.sansEvents) : a.inp = b.inp :=
  show a.sansEvents.inp = b.sansEvents.inp by rw [h]

theorem Image.outs_of_sansEvents {a b : Image} (h : a.sansEvents = b.sansEvents) : a.outs = b.outs :=
  show a.sansEvents.outs = b.sansEvents.outs by rw [h]

/-! ## The frames a command is written in -/

/-- A command on the working image, while a lane runs, leaves the image its function makes (R7). -/
theorem State.act_running {s : State} (h : s.running = true) (f : Image → Image) :
    ∃ t, s.act f = .next t ∧ t.img = f s.hush.img := by
  have hr : s.hush.running = true := h
  exact ⟨s.hush.both f, by simp only [State.act, State.live, State.go, hr, if_true], rfl⟩

/-- A command that Lining mode serves too acts while a lane runs. -/
theorem State.serve_running {s : State} (h : s.running = true) (f : State → State) : s.serve f = .next (f s.hush) := by
  have hr : s.hush.running = true := h
  simp only [State.serve, State.go, hr, Bool.true_or, if_true]

end Sys2Proof.Machine.ReleaseLoop
end

section
/-! The gate comparators (R74). -/

namespace Sys2Proof.Machine.ReleaseLoop

/-- GATE_COMPARATOR_CHANGE is the comparator's own change, whichever lane runs. -/
theorem exec_gateComparatorChange (s : State) (d : Door) (v : Nat) :
    exec (.gateComparatorChange d v) s = .next (s.hush.edit (fun im => im.comparator d v)) := rfl

/-- The threshold with hysteresis of one comparator. -/
theorem Image.comparator_same (im : Image) (d : Door) (v : Nat) : (im.comparator d v).permits.comparators.get d =
    if 140 ≤ v then true else if v ≤ 100 then false else im.permits.comparators.get d := upd_get_same _ _ _

theorem Image.comparator_other (im : Image) {d e : Door} (v : Nat) (h : e ≠ d) :
    (im.comparator d v).permits.comparators.get e = im.permits.comparators.get e := upd_get_other _ _ h

/-- Settles O19: the row is the update of one comparator, whose three bands are its three cases. -/
theorem gateComparatorThresholds : Obligations.GateComparatorThresholds := by
  unfold Obligations.GateComparatorThresholds
  intro s d v
  refine ⟨_, exec_gateComparatorChange s d v, ?closed, ?opened, ?kept, ?others, rfl⟩
  case closed =>
    intro hv
    exact (Image.comparator_same _ d v).trans (if_pos hv)
  case opened =>
    intro hv
    exact (Image.comparator_same _ d v).trans (by rw [if_neg (by omega), if_pos hv])
  case kept =>
    intro hlo hhi
    exact (Image.comparator_same _ d v).trans (by rw [if_neg (by omega), if_neg (by omega)]; rfl)
  case others => exact fun e he => Image.comparator_other _ v he

end Sys2Proof.Machine.ReleaseLoop
end

section
/-! The Mirror (R89 to R97): what a transaction captures and drives, and how it ends. -/

namespace Sys2Proof.Machine.ReleaseLoop

/-! ## Reports and re-reads -/

@[simp] theorem State.report_img (s : State) (f : Image → Image) : (s.report f).img = f s.img := by
  unfold State.report
  split <;> rfl

@[simp] theorem State.report_mirror (s : State) (f : Image → Image) : (s.report f).mirror = s.mirror := by
  unfold State.report
  split <;> rfl

@[simp] theorem State.onMirror_img (s : State) (f : Mirror → Mirror) : (s.onMirror f).img = s.img := rfl

@[simp] theorem State.onMirror_mirror (s : State) (f : Mirror → Mirror) : (s.onMirror f).mirror = f s.mirror := rfl

/-- What a re-read can do (R95): the word register stays; the image stays, or it has a count of 0x2310:02 and perhaps
EV39. -/
theorem State.mirrorReread_cases (s : State) (w : Fin 16) (start : Nat) :
    (s.mirrorReread w start).mirror.words = s.mirror.words ∧
      ((s.mirrorReread w start).img.sansEvents = s.img.sansEvents ∨
        (s.mirrorReread w start).img.sansEvents = (s.img.bump 0x2310 2).sansEvents) := by
  unfold State.mirrorReread
  refine iteInduction (motive := fun t : State => t.mirror.words = s.mirror.words ∧
    (t.img.sansEvents = s.img.sansEvents ∨ t.img.sansEvents = (s.img.bump 0x2310 2).sansEvents))
    (fun _ => ⟨rfl, .inl rfl⟩) (fun _ => ?again)
  dsimp only
  split
  · simp [Image.raise_sansEvents]
  · simp

theorem State.mirrorReread_outs (s : State) (w : Fin 16) (start : Nat) :
    (s.mirrorReread w start).img.outs = s.img.outs := by
  rcases (State.mirrorReread_cases s w start).2 with h | h <;> exact (Image.outs_of_sansEvents h).trans rfl

/-- A re-read counts in 0x2310:02 alone of the Mirror's counters. -/
theorem State.mirrorReread_reg (s : State) (w : Fin 16) (start : Nat) {idx sub : Nat} (hs : sub < 256)
    (hi : eventRegs idx = false) (hk : ¬ (idx = 0x2310 ∧ sub = 2)) :
    (s.mirrorReread w start).img.reg idx sub = s.img.reg idx sub := by
  rcases (State.mirrorReread_cases s w start).2 with h | h
  · exact Image.reg_of_sansEvents h hs hi
  · exact (Image.reg_of_sansEvents h hs hi).trans (Image.reg_bump_other _ (by decide) hs hk)

/-! ## What a transaction captures and drives -/

/-- A state as a transaction finds it at edge 5: counted, and a re-read noted. -/
def mirrorCounted (s : State) (w : Fin 16) (start : Nat) : State :=
  (s.report (fun im => im.bump 0x2310 1)).mirrorReread w start

/-- A transaction in progress, with the words captured at edge 5. -/
def mirrorSelected (s : State) (w : Fin 16) (edges start : Nat) : State :=
  (mirrorCounted s w start).onMirror
    (fun m => { m with active := some (w, edges, (mirrorCounted s w start).mirrorCapture, start) })

@[simp] theorem mirrorSelected_img (s : State) (w : Fin 16) (edges start : Nat) :
    (mirrorSelected s w edges start).img = (mirrorCounted s w start).img := rfl

theorem mirrorCounted_outs (s : State) (w : Fin 16) (start : Nat) :
    (mirrorCounted s w start).img.outs = s.img.outs := by
  rw [mirrorCounted, State.mirrorReread_outs, State.report_img]
  rfl

theorem mirrorCounted_words (s : State) (w : Fin 16) (start : Nat) :
    (mirrorCounted s w start).mirror.words = s.mirror.words := by
  rw [mirrorCounted, (State.mirrorReread_cases _ w start).1, State.report_mirror]

/-- The count of wrong parity bits is not moved by the count of transactions, nor by a re-read. -/
theorem mirrorCounted_parity (s : State) (w : Fin 16) (start : Nat) :
    (mirrorCounted s w start).img.reg 0x2310 3 = s.img.reg 0x2310 3 := by
  rw [mirrorCounted, State.mirrorReread_reg _ _ _ (by decide) (by decide) (by decide), State.report_img,
    Image.reg_bump_other _ (by decide) (by decide) (by decide)]

/-- A transaction of an enabled Mirror whose address has been clocked in (R90, R93). -/
theorem exec_mirrorTransaction {s : State} {w : Fin 16} {par : Bool} {edges start : Nat} (hp : s.powered = true)
    (he : s.img.reg 0x230F 1 ≠ 0) (ha : s.mirror.active = none) (hn : 5 ≤ edges) :
    exec (.mirrorTransaction w par edges start) s = .next
      (if mirrorParity w.val par = true then
        (mirrorSelected s.hush w edges start).edit
          (fun im => (mirrorOutput w (mirrorCounted s.hush w start).mirrorCapture edges).foldl Image.send im)
      else ((mirrorSelected s.hush w edges start).report (fun im => im.bump 0x2310 3)).edit
        (fun im => im.send (mirrorDenied w edges))) := by
  have hgo : (!s.hush.powered || decide (s.hush.img.reg 0x230F 1 = 0) || s.hush.mirror.active.isSome) = false := by
    have he' : decide (s.hush.img.reg 0x230F 1 = 0) = false := decide_eq_false he
    rw [he']
    simp [hp, ha]
  have hrow : exec (.mirrorTransaction w par edges start) s = .next (s.hush.mirrorTransaction w par edges start) := rfl
  rw [hrow]
  unfold State.mirrorTransaction
  rw [hgo]
  simp only [Bool.false_eq_true, if_false, if_neg (show ¬ edges < 5 by omega)]
  rfl

theorem foldl_send_outs (os : List Out) (im : Image) : (os.foldl Image.send im).outs = im.outs ++ os := by
  induction os generalizing im with
  | nil => simp
  | cons o os ih => simp [ih, Image.send]

/-- The first word of a transaction and its code, whole from 44 edges on and cut to the bits clocked below that. -/
theorem mirrorBits_of_edges (word data crc edges : Nat) (h : 5 ≤ edges) :
    mirrorBits word data crc (edges - 4) = if 44 ≤ edges then .mirror word data crc
      else .mirrorPart word (edges - 4) ((data * 256 + crc) / 2 ^ (44 - edges)) := by
  unfold mirrorBits
  by_cases hw : 44 ≤ edges
  · rw [if_pos hw, if_pos (by omega)]
  · rw [if_neg hw, if_neg (by omega), show 40 - (edges - 4) = 44 - edges by omega]

/-- A transaction drives the word addressed first; below 44 edges it drives nothing further. -/
theorem mirrorOutput_eq (w : Fin 16) (words : Vector Nat 16) {edges : Nat} (h : 5 ≤ edges) : ∃ rest,
    mirrorOutput w words edges = mirrorBits w.val (words.get w) (mirrorCrc w.val (words.get w)) (edges - 4) :: rest ∧
      (edges < 44 → rest = []) := by
  obtain ⟨k, hk⟩ : ∃ k, (edges - 4 + 39) / 40 = k + 1 := ⟨(edges - 4 + 39) / 40 - 1, by omega⟩
  have hw : (w.val + 0) % 16 = w.val := by omega
  have hget : words.toList.getD w.val 0 = words.get w := by simp [Vector.get]
  unfold mirrorOutput
  rw [hk, List.range_succ_eq_map, List.map_cons]
  simp only [hw, hget, Nat.mul_zero, Nat.sub_zero]
  refine ⟨_, rfl, fun hlt => ?_⟩
  have hk0 : k = 0 := by omega
  simp [hk0]

/-- Where hardware drives no bit of a word, the capture holds the word register's 32 bits (R91); that hardware drives
bits of the words 0, 1 and 7 alone is the model's reading (log 57). -/
theorem State.mirrorCapture_register (s : State) (n : Fin 16) (h : mirrorHw n.val = 0) :
    s.mirrorCapture.get n % 2 ^ 32 = s.mirror.words.get n % 2 ^ 32 := by
  have hc : s.mirrorCapture.get n = (s.mirrorLive n.val &&& mirrorHw n.val) |||
      (s.mirror.words.get n &&& (0xFFFFFFFF - mirrorHw n.val)) := by
    simp [State.mirrorCapture, Vector.get]
    rfl
  rw [hc, h, Nat.and_zero, Nat.zero_or, show 0xFFFFFFFF - 0 = 2 ^ 32 - 1 from rfl, Nat.and_two_pow_sub_one_eq_mod,
    Nat.mod_mod]

theorem mirrorHw_eq_zero {n : Nat} (h0 : n ≠ 0) (h1 : n ≠ 1) (h7 : n ≠ 7) : mirrorHw n = 0 := by
  simp [mirrorHw, h0, h1, h7]

/-! ## A wrong parity bit -/

/-- A transaction with a wrong parity bit drives the denial alone, and counts in 0x2310:03 (R93). -/
theorem exec_mirrorTransaction_denied {s : State} {w : Fin 16} {par : Bool} {edges start : Nat} (hp : s.powered = true)
    (he : s.img.reg 0x230F 1 ≠ 0) (ha : s.mirror.active = none) (hpar : mirrorParity w.val par = false) (hn : 5 ≤ edges) :
    ∃ t, exec (.mirrorTransaction w par edges start) s = .next t ∧
      t.img.outs = [if 44 ≤ edges then .mirror w.val 0xFFFFFFFF (255 - mirrorCrc w.val 0xFFFFFFFF)
        else .mirrorPart w.val (edges - 4) ((0xFFFFFFFF * 256 + (255 - mirrorCrc w.val 0xFFFFFFFF)) / 2 ^ (44 - edges))] ∧
      t.img.reg 0x2310 3 = wrap (regBits 0x2310 3) (s.img.reg 0x2310 3 + 1) := by
  refine ⟨_, exec_mirrorTransaction hp he ha hn, ?outs, ?count⟩
  all_goals rw [if_neg (by simp [hpar]), State.edit_img, State.report_img]
  case outs =>
    calc ((mirrorCounted s.hush w start).img.bump 0x2310 3).outs ++ [mirrorDenied w edges]
        = (mirrorCounted s.hush w start).img.outs ++ [mirrorDenied w edges] := rfl
      _ = [mirrorDenied w edges] := by rw [mirrorCounted_outs]; rfl
      _ = _ := by rw [mirrorDenied, mirrorBits_of_edges _ _ _ _ hn]
  case count =>
    have hkept : (mirrorSelected s.hush w edges start).img.reg 0x2310 3 = s.img.reg 0x2310 3 :=
      mirrorCounted_parity s.hush w start
    exact (Image.reg_bump_same _ (by decide)).trans (by rw [hkept])

/-- Settles O58: the denial drives one word and counts once. -/
theorem wrongParityOfAMirrorAddress : Obligations.WrongParityOfAMirrorAddress := by
  unfold Obligations.WrongParityOfAMirrorAddress
  intro s w par edges start hp he ha hpar hn
  exact exec_mirrorTransaction_denied hp he ha hpar hn

/-! ## A right parity bit -/

/-- A transaction with a right parity bit is in progress with the words captured, and drives them from the first on
(R90). -/
theorem exec_mirrorTransaction_driven {s : State} {w : Fin 16} {par : Bool} {edges start : Nat} (hp : s.powered = true)
    (he : s.img.reg 0x230F 1 ≠ 0) (ha : s.mirror.active = none) (hpar : mirrorParity w.val par = true) (hn : 5 ≤ edges) :
    ∃ t, exec (.mirrorTransaction w par edges start) s = .next t ∧
      t.mirror.active = some (w, edges, (mirrorCounted s.hush w start).mirrorCapture, start) ∧
      t.img.outs = mirrorOutput w (mirrorCounted s.hush w start).mirrorCapture edges := by
  have hexec := exec_mirrorTransaction (w := w) (par := par) (start := start) hp he ha hn
  rw [if_pos hpar] at hexec
  refine ⟨_, hexec, rfl, ?_⟩
  rw [State.edit_img, foldl_send_outs, mirrorSelected_img, mirrorCounted_outs]
  rfl

/-! ## The end of a transaction -/

/-- A transaction that ends is the last one; it counts as aborted where it is forced to end or its first word's last bit
has not been taken, that is with fewer than 45 edges, the model's reading of R94 (log 58). -/
theorem State.mirrorEnd_spec {s : State} {w : Fin 16} {edges start : Nat} {words : Vector Nat 16} (stop : Nat) (forced : Bool)
    (ha : s.mirror.active = some (w, edges, words, start)) :
    (s.mirrorEnd stop forced).mirror.active = none ∧ (s.mirrorEnd stop forced).mirror.last = some (w, stop) ∧
      (s.mirrorEnd stop forced).img.reg 0x2310 4 =
        if forced = true ∨ edges < 45 then wrap (regBits 0x2310 4) (s.img.reg 0x2310 4 + 1) else s.img.reg 0x2310 4 := by
  unfold State.mirrorEnd
  rw [ha]
  by_cases hc : forced = true ∨ edges < 45
  · have hcount : (s.img.bump 0x2310 4).reg 0x2310 4 = wrap (regBits 0x2310 4) (s.img.reg 0x2310 4 + 1) :=
      Image.reg_bump_same _ (by decide)
    simp [hc, hcount]
  · simp [hc]

/-- A transaction selected for 1 ms is ended (R94). -/
theorem exec_mirrorTransactionTimeout {s : State} {w : Fin 16} {edges start stop : Nat} {words : Vector Nat 16}
    (ha : s.mirror.active = some (w, edges, words, start)) (hms : start + 1000 ≤ stop) :
    exec (.mirrorTransactionTimeout stop) s = .next (s.hush.mirrorEnd stop true) := by
  have ha' : s.hush.mirror.active = some (w, edges, words, start) := ha
  have hend : s.hush.mirrorTimeout stop = s.hush.mirrorEnd stop true := by
    unfold State.mirrorTimeout
    rw [ha']
    exact if_pos hms
  exact congrArg _ hend

/-- Settles O21: the denial of a wrong parity bit, the first word of a right one, and the two ends of a transaction. -/
theorem mirrorTransactions : Obligations.MirrorTransactions := by
  unfold Obligations.MirrorTransactions
  intro s
  refine ⟨fun w par edges start hp he ha => ⟨?driven, ?denied⟩, fun w edges start stop words ha => ⟨?deassert, ?timeout⟩⟩
  case driven =>
    intro hpar hn
    obtain ⟨t, ht, hactive, houts⟩ := exec_mirrorTransaction_driven (start := start) hp he ha hpar hn
    obtain ⟨rest, hout, hrest⟩ := mirrorOutput_eq w (mirrorCounted s.hush w start).mirrorCapture hn
    refine ⟨t, _, ht, hactive, ?_, fun n h0 h1 h7 => ?_⟩
    · rw [houts, hout, mirrorBits_of_edges _ _ _ _ hn]
      split
      · exact List.mem_cons_self
      · rw [hrest (by omega)]
    · rw [State.mirrorCapture_register _ n (mirrorHw_eq_zero h0 h1 h7), mirrorCounted_words]
      rfl
  case denied =>
    intro hpar hn
    obtain ⟨t, ht, houts, -⟩ := exec_mirrorTransaction_denied (start := start) hp he ha hpar hn
    exact ⟨t, ht, houts⟩
  case deassert =>
    have hend := State.mirrorEnd_spec (s := s.hush) stop false ha
    simp only [Bool.false_eq_true, false_or] at hend
    exact ⟨s.hush.mirrorEnd stop false, rfl, hend⟩
  case timeout =>
    intro hms
    have hend := State.mirrorEnd_spec (s := s.hush) stop true ha
    simp only [true_or, if_true] at hend
    exact ⟨_, exec_mirrorTransactionTimeout ha hms, hend⟩

end Sys2Proof.Machine.ReleaseLoop
end

section
/-! The release pairs, traction and the permit tokens (R62 to R68, R84, R87). -/

namespace Sys2Proof.Machine.ReleaseLoop

/-! ## A train input enters the image -/

@[simp] theorem Image.trainInput_fault (im : Image) (n : Fin 16) (on : Bool) :
    ((im.trainInput n on).inp.tis.get n).fault = (im.inp.tis.get n).fault := by
  simp [Image.trainInput, Image.latchInput, Image.onInput, upd_get_same]

/-- A train input reads the state it changes to, or its fault value under causes 1 to 6 (R282). -/
theorem Image.trainInput_ti (im : Image) (n : Fin 16) (on : Bool) : (im.trainInput n on).ti n =
    if 1 ≤ (im.inp.tis.get n).fault ∧ (im.inp.tis.get n).fault ≤ 6 then im.tiFaultValue n else on := by
  simp [Image.ti, Image.trainInput, Image.latchInput, Image.onInput, Image.input, upd_get_same]
  rfl

/-! ## The permit decision -/

theorem plainReg_tokenObj (side : Side) : plainReg (tokenObj side) 2 = true := by cases side <;> decide

/-- The registers the permit decision reads (R66, R84): the required permits, the permits, the hold-off. -/
def conditionReg (idx sub : Nat) : Bool :=
  (idx == 0x2306 || idx == 0x2307) && sub == 3 || idx == 0x2305 && (sub == 1 || sub == 2) || idx == 0x2300 && sub == 3

/-- Two images in which the permit decision reads the same (R66). -/
structure SameConditions (a b : Image) : Prop where
  permits : a.permits = b.permits
  inp : a.inp = b.inp
  belt : a.belt = b.belt
  net : a.net = b.net
  clk : a.clk = b.clk
  reg : ∀ idx sub, conditionReg idx sub = true → a.reg idx sub = b.reg idx sub

theorem SameConditions.trans {a b c : Image} (h : SameConditions a b) (k : SameConditions b c) : SameConditions a c :=
  ⟨h.permits.trans k.permits, h.inp.trans k.inp, h.belt.trans k.belt, h.net.trans k.net, h.clk.trans k.clk,
    fun idx sub hc => (h.reg idx sub hc).trans (k.reg idx sub hc)⟩

theorem conditionReg_elim {idx sub : Nat} (h : conditionReg idx sub = true) : sub < 256 ∧ eventRegs idx = false := by
  simp only [conditionReg, Bool.or_eq_true, Bool.and_eq_true, beq_iff_eq] at h
  obtain (⟨rfl | rfl, rfl⟩ | ⟨rfl, rfl | rfl⟩) | ⟨rfl, rfl⟩ := h <;> decide

/-- A register that is no condition is written. -/
theorem sameConditions_setReg (im : Image) {idx sub : Nat} (v : Nat) (hp : plainReg idx sub = true)
    (hc : conditionReg idx sub = false) : SameConditions (im.setReg idx sub v) im :=
  ⟨rfl, rfl, rfl, rfl, rfl, fun idx' sub' h => Image.reg_setReg_other im v hp (conditionReg_elim h).1
    (by rintro ⟨rfl, rfl⟩; exact Bool.false_ne_true (hc.symm.trans h))⟩

/-- Event state is no condition. -/
theorem sameConditions_of_sansEvents {a b : Image} (h : a.sansEvents = b.sansEvents) : SameConditions a b where
  permits := Image.permits_of_sansEvents h
  inp := Image.inp_of_sansEvents h
  belt := show a.sansEvents.belt = b.sansEvents.belt by rw [h]
  net := show a.sansEvents.net = b.sansEvents.net by rw [h]
  clk := show a.sansEvents.clk = b.sansEvents.clk by rw [h]
  reg := fun _ _ hc => Image.reg_of_sansEvents h (conditionReg_elim hc).1 (conditionReg_elim hc).2

theorem SameConditions.permitMet {a b : Image} (h : SameConditions a b) (side : Side) :
    a.permitMet side = b.permitMet side := by
  unfold Image.permitMet
  rw [h.reg _ 3 (by cases side <;> rfl), h.reg 0x2305 _ (by cases side <;> rfl), h.inp]

theorem SameConditions.grantConditions {a b : Image} (h : SameConditions a b) (side : Side) :
    a.grantConditions side = b.grantConditions side := by
  unfold Image.grantConditions Image.holdoffOver Image.now
  rw [h.permitMet, h.permits, h.belt, h.net, h.clk, h.reg 0x2300 3 rfl]

theorem SameConditions.withdrawCause {a b : Image} (h : SameConditions a b) (side : Side) :
    a.withdrawCause side = b.withdrawCause side := by
  unfold Image.withdrawCause
  rw [h.permitMet, h.grantConditions]

/-- The ledger actions a side's permit decision takes (R66 to R68): none while one of the side is pending. -/
def tokenActions (im : Image) (side : Side) : List LedgerAction :=
  if im.sidePending side then []
  else if (im.permits.side side).held then
    if im.withdrawCause side ≠ 0 then [.withdraw side (im.withdrawCause side)] else []
  else if im.grantConditions side = 63 then [.grant side] else []

/-- The permit decision of a side shows its conditions and decides its actions. -/
theorem Image.decideToken_eq (im : Image) (side : Side) : im.decideToken side =
    { im.setReg (tokenObj side) 2 (im.grantConditions side) with
      commit := { im.commit with decided := im.commit.decided ++ tokenActions im side } } := by
  have hpend : ∀ v, (im.setReg (tokenObj side) 2 v).sidePending side = im.sidePending side := fun _ => rfl
  have hheld : ∀ v, (im.setReg (tokenObj side) 2 v).permits = im.permits := fun _ => rfl
  have hcause : ∀ v, (im.setReg (tokenObj side) 2 v).withdrawCause side = im.withdrawCause side := fun v =>
    (sameConditions_setReg im v (plainReg_tokenObj side) (by cases side <;> rfl)).withdrawCause side
  unfold Image.decideToken tokenActions
  simp only [hcause, hpend, hheld]
  split
  · simp [Image.setReg]
  · split
    · split <;> simp [Image.setReg, Image.decideAction]
    · split <;> simp [Image.setReg, Image.decideAction]

theorem Image.decideToken_commit (im : Image) (side : Side) : (im.decideToken side).commit =
    { im.commit with decided := im.commit.decided ++ tokenActions im side } := by rw [Image.decideToken_eq]

theorem tokenActions_eq_nil {im : Image} {side : Side} (h : im.sidePending side = true) : tokenActions im side = [] :=
  if_pos h

theorem tokenActions_withdraw {im : Image} {side : Side} {cause : Nat} (hp : im.sidePending side = false)
    (hh : (im.permits.side side).held = true) (hc : im.withdrawCause side = cause) (h0 : cause ≠ 0) :
    tokenActions im side = [.withdraw side cause] := by
  simp [tokenActions, hp, hh, hc, h0]

theorem tokenActions_grant {im : Image} {side : Side} (hp : im.sidePending side = false)
    (hh : (im.permits.side side).held = false) (hc : im.grantConditions side = 63) : tokenActions im side = [.grant side] := by
  simp [tokenActions, hp, hh, hc]

/-- The actions a side decides are its own. -/
theorem tokenActions_side {im : Image} {side : Side} {x : LedgerAction} (h : x ∈ tokenActions im side) :
    x.side? = some side := by
  unfold tokenActions at h
  split at h
  · simp at h
  · split at h
    · split at h
      · simp_all [LedgerAction.side?]
      · simp at h
    · split at h
      · simp_all [LedgerAction.side?]
      · simp at h

@[simp] theorem Image.decideToken_permits (im : Image) (side : Side) : (im.decideToken side).permits = im.permits := by
  rw [Image.decideToken_eq]; rfl

@[simp] theorem Image.decideToken_inp (im : Image) (side : Side) : (im.decideToken side).inp = im.inp := by
  rw [Image.decideToken_eq]; rfl

theorem Image.decideToken_reg (im : Image) (side : Side) {idx sub : Nat} (hs : sub < 256)
    (hk : ¬ (idx = tokenObj side ∧ sub = 2)) : (im.decideToken side).reg idx sub = im.reg idx sub := by
  have hod : (im.decideToken side).od = (im.setReg (tokenObj side) 2 (im.grantConditions side)).od := by
    rw [Image.decideToken_eq]
  rw [Image.reg_of_od hod, Image.reg_setReg_other im _ (plainReg_tokenObj side) hs hk]

/-- A side's decision is no condition of a further one. -/
theorem sameConditions_decideToken (im : Image) (side : Side) : SameConditions (im.decideToken side) im where
  permits := Image.decideToken_permits im side
  inp := Image.decideToken_inp im side
  belt := by rw [Image.decideToken_eq]; rfl
  net := by rw [Image.decideToken_eq]; rfl
  clk := by rw [Image.decideToken_eq]; rfl
  reg := fun idx sub hc => Image.decideToken_reg im side (conditionReg_elim hc).1
    (by rintro ⟨rfl, rfl⟩; cases side <;> exact absurd hc (by decide))

/-- The decision of side A is no condition of side B's. -/
theorem tokenActions_decideToken (im : Image) : tokenActions (im.decideToken .a) .b = tokenActions im .b := by
  have hpend : (im.decideToken .a).sidePending .b = im.sidePending .b := by
    have hown : (tokenActions im .a).any (fun x => x.side? == some Side.b) = false := by
      rw [List.any_eq_false]
      intro x hx
      simp [tokenActions_side hx]
    rw [Image.decideToken_eq]
    simp [Image.sidePending, Commit.pending, List.any_append, hown]
  have hsame := sameConditions_decideToken im .a
  unfold tokenActions
  rw [hpend, hsame.withdrawCause, hsame.grantConditions, hsame.permits]

/-- The permit decision of a frame is the two sides', each on the image before. -/
theorem Image.decidePermits_commit (im : Image) : im.decidePermits.commit =
    { im.commit with decided := im.commit.decided ++ tokenActions im .a ++ tokenActions im .b } := by
  rw [Image.decidePermits, Image.decideToken_commit, tokenActions_decideToken, Image.decideToken_commit]

theorem Image.mem_decidePermits {im : Image} {side : Side} {x : LedgerAction} (h : x ∈ tokenActions im side) :
    x ∈ im.decidePermits.commit.decided := by
  rw [Image.decidePermits_commit]
  cases side <;> simp [h]

@[simp] theorem Image.decidePermits_permits (im : Image) : im.decidePermits.permits = im.permits := by
  simp [Image.decidePermits]

@[simp] theorem Image.decidePermits_inp (im : Image) : im.decidePermits.inp = im.inp := by
  simp [Image.decidePermits]

/-- The permit decision writes 0x2306:02 and 0x2307:02 alone. -/
theorem Image.decidePermits_reg (im : Image) {idx sub : Nat} (hs : sub < 256)
    (ha : idx ≠ tokenObj .a) (hb : idx ≠ tokenObj .b) : im.decidePermits.reg idx sub = im.reg idx sub := by
  rw [Image.decidePermits, Image.decideToken_reg _ _ hs (by simp [hb]), Image.decideToken_reg _ _ hs (by simp [ha])]

/-! ## Traction (R63) -/

/-- A TI9 in fault reads true whatever the cause: under causes 1 to 6 by its fault value, else by R63's own rule. -/
theorem Image.trainInput_traction (im : Image) (on : Bool) :
    ((im.trainInput 8 on).ti 8 || decide (((im.trainInput 8 on).inp.tis.get 8).fault ≠ 0)) =
      (on || decide ((im.inp.tis.get 8).fault ≠ 0)) := by
  rw [Image.trainInput_fault, Image.trainInput_ti]
  by_cases hf : (im.inp.tis.get 8).fault = 0
  · simp [hf]
  · simp [hf]

theorem Image.readTraction_traction (im : Image) :
    im.readTraction.permits.traction = (im.ti 8 || decide ((im.inp.tis.get 8).fault ≠ 0)) := rfl

theorem Image.readTraction_reg_state (im : Image) :
    im.readTraction.reg 0x2304 1 = b2n (im.ti 8 || decide ((im.inp.tis.get 8).fault ≠ 0)) := by
  unfold Image.readTraction
  dsimp only
  rw [Image.reg_setReg_other _ _ (by decide) (by decide) (by decide), Image.reg_setReg_flag _ _ (by decide) (by decide)]

theorem Image.readTraction_reg_fault (im : Image) :
    im.readTraction.reg 0x2304 2 = b2n (decide ((im.inp.tis.get 8).fault ≠ 0)) := by
  unfold Image.readTraction
  dsimp only
  rw [Image.reg_setReg_flag _ _ (by decide) (by decide)]

/-- Settles O17: the permit decision that follows leaves what TI9's change has shown. -/
theorem tractionReadsItsInputOrItsFault : Obligations.TractionReadsItsInputOrItsFault := by
  unfold Obligations.TractionReadsItsInputOrItsFault
  intro s on hrun
  obtain ⟨t, ht, himg⟩ := State.act_running hrun (fun im => im.tractionChange on)
  have hread := Image.trainInput_traction s.hush.img on
  refine ⟨t, ht, ?traction, ?state, ?fault⟩
  all_goals rw [himg]
  case traction =>
    rw [Image.tractionChange, Image.decidePermits_permits, Image.readTraction_traction, hread]
    rfl
  case state =>
    rw [Image.tractionChange, Image.decidePermits_reg _ (by decide) (by decide) (by decide), Image.readTraction_reg_state,
      hread]
    rfl
  case fault =>
    rw [Image.tractionChange, Image.decidePermits_reg _ (by decide) (by decide) (by decide), Image.readTraction_reg_fault,
      Image.trainInput_fault]
    rfl

/-! ## The pairs (R62 to R65) -/

theorem plainReg_pairObj (q : Pair) {sub : Nat} (h : sub ∈ [1, 2, 3, 4]) : plainReg (pairObj q) sub = true := by
  simp only [List.mem_cons, List.not_mem_nil, or_false] at h
  obtain rfl | rfl | rfl | rfl := h <;> cases q <;> decide

/-- What a pair reads (R62): both channels, and no latch. -/
def pairReads (im : Image) (q : Pair) : Bool :=
  im.channel (pairInputs q).1 && im.channel (pairInputs q).2 && !(im.permits.pair q).latched

/-- The image of a pair that has been read, before the event of a latch that clears. -/
def pairShown (im : Image) (count : Bool) (q : Pair) : Image :=
  let a := im.channel (pairInputs q).1
  let b := im.channel (pairInputs q).2
  let p := im.permits.pair q
  let differ := if a == b then 0 else if count then p.differ + 1 else p.differ
  let latched := p.latched && !(p.latched && !a && !b)
  (((im.onPair q (fun p => { p with
      differ := differ, latched := latched, reading := a && b && !p.latched })).setReg
    (pairObj q) 1 (b2n (pairReads im q))).setReg (pairObj q) 2 (b2n a + 2 * b2n b)).setReg (pairObj q) 3 (b2n latched)

/-- Reading a pair shows it, and clears the event of a latch that clears (R62, R65). -/
theorem Image.readPair_cases (im : Image) (count : Bool) (q : Pair) : im.readPair count q = pairShown im count q ∨
    ∃ n src, n < 255 ∧ im.readPair count q = (pairShown im count q).clearEv n modScope src := by
  unfold Image.readPair
  refine iteInduction (motive := fun x : Image => x = pairShown im count q ∨
    ∃ n src, n < 255 ∧ x = (pairShown im count q).clearEv n modScope src) (fun _ => ?unlatches) (fun _ => .inl rfl)
  have hshared : ∀ (c : Prop) (_ : Decidable c) (src : Source),
      (if c then pairShown im count q else (pairShown im count q).clearEv 34 modScope src) = pairShown im count q ∨
      ∃ n src', n < 255 ∧ (if c then pairShown im count q else (pairShown im count q).clearEv 34 modScope src) =
        (pairShown im count q).clearEv n modScope src' := by
    intro c _ src
    split
    · exact .inl rfl
    · exact .inr ⟨34, src, by decide, rfl⟩
  cases q with
  | relA => exact hshared _ _ _
  | relB => exact hshared _ _ _
  | zero => exact .inr ⟨35, _, by decide, rfl⟩

/-- Reading a pair changes, beside what it shows, event state alone. -/
theorem Image.readPair_sansEvents (im : Image) (count : Bool) (q : Pair) :
    (im.readPair count q).sansEvents = (pairShown im count q).sansEvents := by
  rcases Image.readPair_cases im count q with h | ⟨n, src, hn, h⟩
  · rw [h]
  · rw [h, Image.clearEv_sansEvents _ _ _ _ hn]

theorem Image.readPair_permits (im : Image) (count : Bool) (q : Pair) :
    (im.readPair count q).permits = (pairShown im count q).permits :=
  Image.permits_of_sansEvents (Image.readPair_sansEvents im count q)

theorem Image.readPair_reading (im : Image) (count : Bool) (q : Pair) :
    ((im.readPair count q).permits.pair q).reading = pairReads im q := by
  rw [Image.readPair_permits]
  cases q <;> rfl

@[simp] theorem Image.readPair_side (im : Image) (count : Bool) (q : Pair) (side : Side) :
    (im.readPair count q).permits.side side = im.permits.side side := by
  rw [Image.readPair_permits]
  cases q <;> cases side <;> rfl

@[simp] theorem Image.readPair_commit (im : Image) (count : Bool) (q : Pair) : (im.readPair count q).commit = im.commit :=
  (Image.commit_of_sansEvents (Image.readPair_sansEvents im count q)).trans rfl

theorem Image.readPair_reg_reading (im : Image) (count : Bool) (q : Pair) :
    (im.readPair count q).reg (pairObj q) 1 = b2n (pairReads im q) := by
  rw [Image.reg_of_sansEvents (Image.readPair_sansEvents im count q) (by decide) (by cases q <;> decide), pairShown,
    Image.reg_setReg_other _ _ (plainReg_pairObj q (by decide)) (by decide) (by simp),
    Image.reg_setReg_other _ _ (plainReg_pairObj q (by decide)) (by decide) (by simp),
    Image.reg_setReg_flag _ _ (plainReg_pairObj q (by decide)) (by cases q <;> decide)]

/-- RELEASE_PAIR_CHANGE reads the pair; the permit decision leaves what it shows. -/
theorem Image.pairChange_reading (im : Image) (ti : Fin 6) (on : Bool) :
    ((im.pairChange ti on).permits.pair (pairOf ti)).reading = pairReads (im.trainInput ⟨ti.val, by omega⟩ on) (pairOf ti) ∧
    (im.pairChange ti on).reg (pairObj (pairOf ti)) 1 =
      b2n (pairReads (im.trainInput ⟨ti.val, by omega⟩ on) (pairOf ti)) := by
  refine ⟨?_, ?_⟩
  · rw [Image.pairChange, Image.decidePermits_permits, Image.readPair_reading]
  · have hobj : ∀ q side, pairObj q ≠ tokenObj side := by intro q side; cases q <;> cases side <;> decide
    rw [Image.pairChange, Image.decidePermits_reg _ (by decide) (hobj _ _) (hobj _ _), Image.readPair_reg_reading]

/-- A channel belongs to its pair (R62). -/
theorem pairInputs_pairOf : ∀ ti : Fin 6,
    (pairInputs (pairOf ti)).1 = ⟨ti.val, by omega⟩ ∨ (pairInputs (pairOf ti)).2 = ⟨ti.val, by omega⟩ := by decide

/-- A channel without fault that changes to false makes its pair read false. -/
theorem pairReads_false (im : Image) (ti : Fin 6) (hf : (im.inp.tis.get ⟨ti.val, by omega⟩).fault = 0) :
    pairReads (im.trainInput ⟨ti.val, by omega⟩ false) (pairOf ti) = false := by
  have hch : (im.trainInput ⟨ti.val, by omega⟩ false).channel ⟨ti.val, by omega⟩ = false := by
    simp [Image.channel, Image.trainInput_ti, hf]
  unfold pairReads
  rcases pairInputs_pairOf ti with h | h <;> rw [h, hch] <;> simp

theorem bitOf_bitsToNat_zero (b : Bool) (bs : List Bool) : bitOf (bitsToNat (b :: bs)) 0 = b := by
  cases b <;> simp [bitOf, bitsToNat, b2n, Nat.add_mod]

theorem bitOf_bitsToNat_succ (b : Bool) (bs : List Bool) (n : Nat) :
    bitOf (bitsToNat (b :: bs)) (n + 1) = bitOf (bitsToNat bs) n := by
  have hdiv : (b2n b + 2 * bitsToNat bs) / 2 = bitsToNat bs := by
    unfold b2n
    split <;> omega
  simp only [bitOf, bitsToNat, Nat.pow_succ', ← Nat.div_div_eq_div_mul, hdiv]

/-- With its release pair false a side's token is withdrawn with cause 1, the lowest (R67). -/
theorem Image.withdrawCause_release {im : Image} {side : Side} (h : (im.permits.pair (relPair side)).reading = false) :
    im.withdrawCause side = 1 := by
  have hbit : bitOf (im.grantConditions side) 0 = false := by
    rw [Image.grantConditions, bitOf_bitsToNat_zero, h]
  simp [Image.withdrawCause, hbit]

/-- A token held while its release pair goes false is withdrawn with cause 1. -/
theorem Image.pairChange_withdraw {im : Image} {side : Side} {ti : Fin 6} (hq : pairOf ti = relPair side)
    (hf : (im.inp.tis.get ⟨ti.val, by omega⟩).fault = 0) (hh : (im.permits.side side).held = true)
    (hp : im.sidePending side = false) : .withdraw side 1 ∈ (im.pairChange ti false).commit.decided := by
  apply Image.mem_decidePermits (side := side)
  rw [tokenActions_withdraw (cause := 1) ?pending ?held (Image.withdrawCause_release ?reads) (by decide)]
  · exact List.mem_singleton_self _
  case pending =>
    unfold Image.sidePending
    rw [Image.readPair_commit]
    exact hp
  case held => rw [Image.readPair_side]; exact hh
  case reads => rw [← hq, Image.readPair_reading, pairReads_false im ti hf]

/-- While an action of each side is pending a change of a pair decides nothing (R316). -/
theorem Image.pairChange_commit_of_pending {im : Image} (ti : Fin 6) (on : Bool) (ha : im.sidePending .a = true)
    (hb : im.sidePending .b = true) : (im.pairChange ti on).commit = im.commit := by
  have hpend : ∀ side, ((im.trainInput ⟨ti.val, by omega⟩ on).readPair false (pairOf ti)).sidePending side =
      im.sidePending side := by
    intro side
    unfold Image.sidePending
    rw [Image.readPair_commit]
    rfl
  rw [Image.pairChange, Image.decidePermits_commit, tokenActions_eq_nil ((hpend _).trans ha),
    tokenActions_eq_nil ((hpend _).trans hb), List.append_nil, List.append_nil]
  exact Image.readPair_commit _ _ _

/-! ## The discrepancy latch (R64) -/

/-- The event of a pair's discrepancy latch (R64). -/
def pairEvent : Pair → Nat
  | .zero => 35
  | _ => 34

/-- The image of a pair that has latched, before its event. -/
def pairLatched (im : Image) (q : Pair) : Image :=
  (((im.onPair q (fun p => { p with latched := true, reading := false })).bump (pairObj q) 4).setReg (pairObj q) 3 1).setReg
    (pairObj q) 1 0

theorem Image.latchPair_eq {im : Image} {q : Pair} (hl : (im.permits.pair q).latched = false)
    (h0 : 0 < (im.permits.pair q).differ) (ht : im.pairTime q ≤ (im.permits.pair q).differ) :
    im.latchPair q = (pairLatched im q).raise (pairEvent q) modScope ⟨pairItem q, 0, (pairLatched im q).pairTime q⟩ := by
  unfold Image.latchPair
  rw [if_pos (by simp [hl, h0, ht])]
  cases q <;> rfl

/-- A pair that latches reads false, with its event. -/
theorem Image.latchPair_spec {im : Image} {q : Pair} (hl : (im.permits.pair q).latched = false)
    (h0 : 0 < (im.permits.pair q).differ) (ht : im.pairTime q ≤ (im.permits.pair q).differ) :
    ((im.latchPair q).permits.pair q).latched = true ∧ ((im.latchPair q).permits.pair q).reading = false ∧
      (im.latchPair q).evActive (pairEvent q) modScope = true := by
  rw [Image.latchPair_eq hl h0 ht]
  have hperm := Image.permits_of_sansEvents (Image.raise_sansEvents (pairLatched im q) (pairEvent q) modScope
    ⟨pairItem q, 0, (pairLatched im q).pairTime q⟩ (by cases q <;> decide))
  have hpair : (pairLatched im q).permits.pair q = { im.permits.pair q with latched := true, reading := false } :=
    by cases q <;> rfl
  rw [hperm, hpair]
  exact ⟨rfl, rfl, Image.raise_active _ _ _ _ (Image.speaks_mod _ _)⟩

/-! ## The hold-off and the network permit (R84, R87) -/

theorem eq_true_of_bitsToNat {a b c d e f : Bool} (h : bitsToNat [a, b, c, d, e, f] = 63) : f = true := by
  revert a b c d e f
  decide

/-- With all six conditions of R66 met the hold-off is over. -/
theorem Image.holdoffOver_of_conditions {im : Image} {side : Side} (h : im.grantConditions side = 63) :
    im.holdoffOver side = true := eq_true_of_bitsToNat h

/-- A side all of whose conditions hold is granted its token, and shows all six (R66, R68). -/
theorem Image.decideToken_grant {im : Image} {side : Side} (hp : im.sidePending side = false)
    (hh : (im.permits.side side).held = false) (hc : im.grantConditions side = 63) :
    .grant side ∈ (im.decideToken side).commit.decided ∧ (im.decideToken side).reg (tokenObj side) 2 = 63 := by
  refine ⟨?_, ?_⟩
  · rw [Image.decideToken_commit, tokenActions_grant hp hh hc]
    simp
  · rw [Image.decideToken_eq, hc]
    exact (Image.reg_setReg_same im 63 (plainReg_tokenObj side)).trans (by cases side <;> decide)

theorem Image.decideToken_commit_of_pending {im : Image} {side : Side} (hp : im.sidePending side = true) :
    (im.decideToken side).commit = im.commit := by
  rw [Image.decideToken_commit, tokenActions_eq_nil hp, List.append_nil]

/-- A source's event and its count are no condition. -/
theorem sameConditions_raiseSource (im : Image) {n ctr : Nat} (src : Source) (hn : n < 255)
    (hp : plainReg 0x2405 ctr = true) :
    SameConditions (im.raiseSource n ctr src) im ∧ (im.raiseSource n ctr src).commit = im.commit := by
  unfold Image.raiseSource
  split
  · exact ⟨sameConditions_of_sansEvents rfl, rfl⟩
  · have hraise := Image.raise_sansEvents (im.bump 0x2405 ctr) n modScope src hn
    exact ⟨(sameConditions_of_sansEvents hraise).trans (sameConditions_setReg im _ hp rfl),
      (Image.commit_of_sansEvents hraise).trans rfl⟩

/-- The image with the permit's source marked silent. -/
def permitSilent (im : Image) : Image :=
  { im with inp := { im.inp with sup := { im.inp.sup with permitOut := true } } }

/-- The permit's source times out (R87, R294): the decision that follows finds it silent, and nothing else changed. -/
theorem Image.permitLost_spec {im : Image} (hreq : im.permitRequired = true) (hout : im.inp.sup.permitOut = false)
    (ht : max (im.inp.sup.permit.getD 0) (max (im.inp.sup.permitReq.getD im.now) im.inp.sup.since) + im.reg 0x2305 4 ≤ im.now) :
    SameConditions im.permitLost (permitSilent im) ∧ im.permitLost.commit = im.commit := by
  have hif : ∀ (c : Prop) (_ : Decidable c) (x : Image) (n ctr : Nat) (src : Source), n < 255 → plainReg 0x2405 ctr = true →
      SameConditions (if c then x.raiseSource n ctr src else x) x ∧
        (if c then x.raiseSource n ctr src else x).commit = x.commit := by
    intro c _ x n ctr src hn hp
    split
    · exact sameConditions_raiseSource x src hn hp
    · exact ⟨sameConditions_of_sansEvents rfl, rfl⟩
  unfold Image.permitLost
  rw [if_pos (by simp [hreq, hout, ht])]
  have hshown := sameConditions_setReg (permitSilent im) 1 (idx := 0x2305) (sub := 5) (by decide) (by decide)
  have h33 := fun c i x => hif c i x 33 6 ⟨0, 2, im.reg 0x2305 4⟩ (by decide) (by decide)
  have h31 := fun c i x => hif c i x 31 5 ⟨0, 2, im.reg 0x2305 4⟩ (by decide) (by decide)
  exact ⟨(h33 _ _ _).1.trans ((h31 _ _ _).1.trans hshown), (h33 _ _ _).2.trans ((h31 _ _ _).2.trans rfl)⟩

/-- Cause 5 of R67: every condition before the permit's holds, and its source is silent while the permit itself reads
true, as the model tells it from cause 4 (log 56). -/
theorem withdrawCause_silent {im : Image} {side : Side} (hreq : im.reg (tokenObj side) 3 = 1)
    (hrel : (im.permits.pair (relPair side)).reading = true) (hzero : im.permits.zero.reading = true)
    (htr : im.permits.traction = false) (hon : im.reg 0x2305 side.code = 1) :
    (permitSilent im).withdrawCause side = 5 := by
  have hod : ∀ idx sub, (permitSilent im).reg idx sub = im.reg idx sub := fun _ _ => Image.reg_of_od rfl
  have hmet : (permitSilent im).permitMet side = (false, true) := by
    unfold Image.permitMet
    rw [hod, hod, hreq, hon]
    rfl
  have hrel' : ((permitSilent im).permits.pair (relPair side)).reading = true := hrel
  have hzero' : (permitSilent im).permits.zero.reading = true := hzero
  have htr' : (permitSilent im).permits.traction = false := htr
  unfold Image.withdrawCause Image.grantConditions
  rw [hrel', hzero', htr', hmet]
  simp [bitOf_bitsToNat_zero, bitOf_bitsToNat_succ _ _ 0, bitOf_bitsToNat_succ _ _ 1]

/-- A held token whose permit's source has timed out is withdrawn with cause 5 (R67, R87). -/
theorem Image.permitLost_withdraw {im : Image} {side : Side} (hreq : im.permitRequired = true)
    (hout : im.inp.sup.permitOut = false)
    (ht : max (im.inp.sup.permit.getD 0) (max (im.inp.sup.permitReq.getD im.now) im.inp.sup.since) + im.reg 0x2305 4 ≤ im.now)
    (hh : (im.permits.side side).held = true) (hp : im.sidePending side = false)
    (hcause : (permitSilent im).withdrawCause side = 5) :
    im.permitLost.decidePermits.inp.sup.permitOut = true ∧
      .withdraw side 5 ∈ im.permitLost.decidePermits.commit.decided := by
  obtain ⟨hsame, hcommit⟩ := Image.permitLost_spec hreq hout ht
  have hpend : im.permitLost.sidePending side = false := by
    unfold Image.sidePending at hp ⊢
    rwa [hcommit]
  have hheld : (im.permitLost.permits.side side).held = true := by rw [hsame.permits]; exact hh
  refine ⟨?_, Image.mem_decidePermits (side := side) ?_⟩
  · rw [Image.decidePermits_inp, hsame.inp]
    rfl
  · rw [tokenActions_withdraw hpend hheld ((hsame.withdrawCause side).trans hcause) (by decide)]
    exact List.mem_singleton_self _

/-- Settles O18: a change of a pair, its latch, the hold-off and the permit's timeout, each by what the pair shows and
what the permit decision decides on it. -/
theorem pairsAndTokens : Obligations.PairsAndTokens := by
  unfold Obligations.PairsAndTokens
  intro s hrun
  refine ⟨?reads, ?withdraws, ?latches, ?grants, ?waits, ?bothWait, ?silent⟩
  case reads =>
    intro ti on hl ha hb
    obtain ⟨t, ht, himg⟩ := State.act_running hrun (fun im => im.pairChange ti on)
    obtain ⟨hreading, hreg⟩ := Image.pairChange_reading s.hush.img ti on
    have htrue : pairReads (s.hush.img.trainInput ⟨ti.val, by omega⟩ on) (pairOf ti) = true := by
      have hl' : ((s.hush.img.trainInput ⟨ti.val, by omega⟩ on).permits.pair (pairOf ti)).latched = false := hl
      have ha' : (s.hush.img.trainInput ⟨ti.val, by omega⟩ on).channel (pairInputs (pairOf ti)).1 = true := ha
      have hb' : (s.hush.img.trainInput ⟨ti.val, by omega⟩ on).channel (pairInputs (pairOf ti)).2 = true := hb
      rw [pairReads, ha', hb', hl']
      rfl
    rw [htrue] at hreading hreg
    exact ⟨t, ht, by rw [himg]; exact hreading, by rw [himg]; exact hreg⟩
  case withdraws =>
    intro side ti hq hf hh hp
    obtain ⟨t, ht, himg⟩ := State.act_running hrun (fun im => im.pairChange ti false)
    refine ⟨t, ht, ?_, ?_⟩ <;> rw [himg]
    · exact Image.pairChange_withdraw hq hf hh hp
    · exact (Image.pairChange_reading _ ti false).1.trans (pairReads_false _ ti hf)
  case latches =>
    intro q hl h0 ht
    obtain ⟨t, hexec, himg⟩ := State.act_running hrun (fun im => im.latchPair q)
    have hspec := Image.latchPair_spec (im := s.hush.img) hl h0 ht
    rw [← himg] at hspec
    refine ⟨t, hexec, hspec.1, hspec.2.1, ?_⟩
    cases q <;> exact hspec.2.2
  case grants =>
    intro side hc hh hp
    obtain ⟨t, ht, himg⟩ := State.act_running hrun (fun im => if im.holdoffOver side then im.decideToken side else im)
    have hover : s.hush.img.holdoffOver side = true := Image.holdoffOver_of_conditions hc
    have hgrant := Image.decideToken_grant (im := s.hush.img) hp hh hc
    rw [if_pos hover] at himg
    rw [← himg] at hgrant
    exact ⟨t, ht, hgrant⟩
  case waits =>
    intro side hp
    obtain ⟨t, ht, himg⟩ := State.act_running hrun (fun im => if im.holdoffOver side then im.decideToken side else im)
    refine ⟨t, ht, ?_⟩
    rw [himg]
    split
    · exact Image.decideToken_commit_of_pending hp
    · rfl
  case bothWait =>
    intro ti on ha hb
    obtain ⟨t, ht, himg⟩ := State.act_running hrun (fun im => im.pairChange ti on)
    refine ⟨t, ht, ?_⟩
    rw [himg]
    exact Image.pairChange_commit_of_pending ti on ha hb
  case silent =>
    intro side hreq hout ht hh hp hside hrel hzero htr hon
    obtain ⟨t, hexec, himg⟩ := State.act_running hrun (fun im => im.permitLost.decidePermits)
    have hcause : (permitSilent s.hush.img).withdrawCause side = 5 := withdrawCause_silent hside hrel hzero htr hon
    have hlost := Image.permitLost_withdraw (im := s.hush.img) hreq hout ht hh hp hcause
    rw [← himg] at hlost
    exact ⟨t, hexec, hlost⟩

end Sys2Proof.Machine.ReleaseLoop
end

section
/-! The commands of the loops, and traction with an open loop (R77 to R79, R88). -/

namespace Sys2Proof.Machine.ReleaseLoop

/-! ## A write that is taken -/

/-- What the checks of R510 find last, the state rule, is passed by a write that passes them all. -/
theorem State.stateRule_of_checkWrite {s : State} {p : Path} {idx sub : Nat} {data : Bytes}
    (hl : s.img.legacyAt p idx = false) (h : s.checkWrite p idx sub data = Verdict.ok) :
    s.stateRule p idx sub (ofLe data) = Verdict.ok := by
  unfold State.checkWrite at h
  split at h
  · exact absurd h (by decide)
  · split at h
    · exact absurd h (by decide)
    · dsimp only at h
      split at h
      · split at h
        · exact absurd h (by decide)
        · split at h
          · exact absurd h (by decide)
          · rw [hl] at h
            simp only [Bool.not_false, Bool.true_or, if_true] at h
            split at h
            · exact h
            · rename_i hc
              exact absurd (congrArg Verdict.code h) hc
      · rename_i hc
        exact absurd (congrArg Verdict.code h) hc

/-- A module object whose write keeps no authorisation alive, since it is not RWA (R567), and is answered with its commit:
it is neither a store nor a chunk (R512). -/
def plainModule (idx sub : Nat) : Bool :=
  nativePlace idx == .module idx && (nativeRow idx sub).all (fun r => subAccess idx sub r != .rwa) && idx != 0x1010 &&
    idx != 0x2801

theorem State.applyWrite_plain {s : State} {p : Path} {idx sub : Nat} (data : Bytes)
    (hl : s.img.legacyAt p idx = false) (hm : plainModule idx sub = true) :
    s.applyWrite p idx sub data = s.moduleWrite p idx sub data := by
  simp only [plainModule, Bool.and_eq_true, beq_iff_eq] at hm
  obtain ⟨⟨⟨hplace, hacc⟩, -⟩, -⟩ := hm
  have hnative : s.applyNative p idx sub data = s.moduleWrite p idx sub data := by
    unfold State.applyNative
    rw [hplace]
  have hif : ¬ (s.img.legacyAt p idx && decide (0x2000 ≤ idx)) = true := by simp [hl]
  unfold State.applyWrite
  cases hr : nativeRow idx sub with
  | none => exact (if_neg hif).trans hnative
  | some r =>
    rw [hr] at hacc
    have hne : ¬ subAccess idx sub r = .rwa := by simpa using hacc
    simp only [if_neg hne]
    exact (if_neg hif).trans hnative

/-- The image with the answer to a write waiting for its commit. -/
def owing (im : Image) (p : Path) (idx sub : Nat) : Image :=
  { im with commit := { im.commit with answers := im.commit.answers ++ [⟨p, idx, sub, false⟩] } }

@[simp] theorem owing_reg (im : Image) (p : Path) (idx sub i k : Nat) : (owing im p idx sub).reg i k = im.reg i k :=
  Image.reg_of_od rfl

@[simp] theorem owing_permits (im : Image) (p : Path) (idx sub : Nat) : (owing im p idx sub).permits = im.permits := rfl

/-- A command that writes a plain module object, taken while a lane runs: its object's effect, and an answer that waits
for the commit (R512). -/
theorem State.serve_writeRow {s : State} {p : Path} {idx sub : Nat} {data : Bytes} (h : s.takes p idx sub data)
    (hm : plainModule idx sub = true) {f : Image → Image} (hw : s.hush.moduleWrite p idx sub data = (s.hush.edit f, 0)) :
    ∃ t, s.serve (fun s => s.writeRow p idx sub data) = .next t ∧ t.img = owing (f s.hush.img) p idx sub ∧
      t.owes p idx sub := by
  obtain ⟨hrun, hl, hc⟩ := h
  have hrun' : (s.hush.edit f).running = true := hrun
  have hlater : (s.hush.edit f).answersLater idx sub = false := by
    simp only [plainModule, Bool.and_eq_true, bne_iff_ne] at hm
    simp [State.answersLater, hm.1.2, hm.2]
  have hrow : s.hush.writeRow p idx sub data = (s.hush.edit f).edit (fun im => owing im p idx sub) := by
    unfold State.writeRow
    rw [hc]
    unfold State.finishWrite
    rw [State.applyWrite_plain (s := s.hush) data hl hm, hw]
    unfold State.answerWrite
    simp only [hlater, hrun']
    rfl
  exact ⟨_, (State.serve_running hrun _).trans (congrArg _ hrow), rfl, List.mem_append_right _ (List.mem_singleton_self _)⟩

/-! ## The open request of a side (R88) -/

/-- A value that is written reads as the register write leaves it, whether or not the change is recorded (R393). -/
theorem Image.put_od (im : Image) (p : Path) (idx sub v : Nat) : (im.put p idx sub v).od = (im.setReg idx sub v).od :=
  iteInduction (motive := fun x : Image => x.od = (im.setReg idx sub v).od) (fun _ => rfl) (fun _ =>
    iteInduction (motive := fun x : Image => x.od = (im.setReg idx sub v).od) (fun _ => rfl) (fun _ => rfl))

theorem plainReg_loopObj (side : Side) : plainReg (loopObj side) 2 = true := by cases side <;> decide

theorem plainModule_loopObj (side : Side) : plainModule (loopObj side) 2 = true := by cases side <;> decide

theorem State.moduleWrite_loopObj (s : State) (p : Path) (side : Side) (data : Bytes) :
    s.moduleWrite p (loopObj side) 2 data = (s.edit (fun im => im.put p (loopObj side) 2 (ofLe data)), 0) := by
  cases side <;> rfl

theorem Image.put_loopObj (im : Image) (p : Path) (side : Side) (on : Bool) :
    (im.put p (loopObj side) 2 (ofLe [b2n on])).reg (loopObj side) 2 = b2n on := by
  have hval : ofLe [b2n on] = b2n on := by cases on <;> rfl
  rw [Image.reg_of_od (Image.put_od im p _ _ _), hval,
    Image.reg_setReg_flag im on (plainReg_loopObj side) (by cases side <;> decide)]

/-- A side whose open request is set commands its lane switch open (R76, R88). -/
theorem Image.loopCommand_of_request {im : Image} {side : Side} (h : im.reg (loopObj side) 2 = 1) :
    im.loopCommand side = false := by
  simp [Image.loopCommand, h]

/-! ## The fault reset of a side (R78) -/

/-- The image of a side whose fault has been cleared, before the event's latch is released. -/
def loopCleared (im : Image) (side : Side) : Image :=
  (im.onSide side (fun x => { x with
    fault := 0, gateClosedRun := 0, gateOpenRun := 0, laneDiffer := 0, overCurrent := 0 })).setReg 0x230C side.code 0

/-- A fault reset that is allowed clears the side's fault, and EV38's latch with the last (R78). -/
theorem Image.loopReset_cases {im x : Image} {side : Side} (h : im.loopReset side = some x) :
    x = loopCleared im side ∨ x = (loopCleared im side).release 38 modScope := by
  unfold Image.loopReset at h
  dsimp only at h
  split at h
  · exact absurd h (by simp)
  · obtain rfl := Option.some.inj h
    split
    · exact .inr rfl
    · exact .inl rfl

theorem Image.loopReset_sansEvents {im x : Image} {side : Side} (h : im.loopReset side = some x) :
    x.sansEvents = (loopCleared im side).sansEvents := by
  rcases Image.loopReset_cases h with rfl | rfl
  · rfl
  · exact Image.release_sansEvents _ _ _ (by decide)

theorem Image.loopReset_fault {im x : Image} {side : Side} (h : im.loopReset side = some x) :
    (x.permits.side side).fault = 0 ∧ x.reg 0x230C side.code = 0 := by
  have hsame := Image.loopReset_sansEvents h
  refine ⟨?_, ?_⟩
  · rw [Image.permits_of_sansEvents hsame]
    cases side <;> rfl
  · rw [Image.reg_of_sansEvents hsame (by cases side <;> decide) (by decide), loopCleared,
      Image.reg_setReg_same _ _ (by cases side <;> decide)]
    exact Nat.zero_mod _

/-- The side a fault reset names. -/
def sideByte (side : Side) : Bytes := [match side with | .a => 1 | .b => 2]

/-- A write of the fault reset that is taken is allowed: the checks refuse it while the cause stands (R78). -/
theorem State.loopReset_of_takes {s : State} {p : Path} {side : Side} (h : s.takes p 0x230C 3 (sideByte side)) :
    ∃ x, s.hush.img.loopReset side = some x := by
  obtain ⟨-, hl, hc⟩ := h
  have hrule := State.stateRule_of_checkWrite (s := s.hush) hl hc
  have hside : (if ofLe (sideByte side) = 2 then Side.b else Side.a) = side := by cases side <;> rfl
  have hstate : s.hush.stateRule p 0x230C 3 (ofLe (sideByte side)) =
      if (s.hush.img.loopReset (if ofLe (sideByte side) = 2 then Side.b else Side.a)).isNone then deny abState else Verdict.ok := by
    have hforced : overlayForced 0x230C 3 = none := by decide
    have hopen : rwlDoor 0x230C 3 = none := by decide
    have hplace : nativePlace 0x230C = .module 0x230C := by decide
    unfold State.stateRule
    rw [hforced, hopen, hplace]
    simp only [Option.isSome_none, Bool.and_false, Bool.not_true, Bool.or_false, Bool.false_eq_true, if_false]
    rfl
  rw [hstate, hside] at hrule
  cases hx : s.hush.img.loopReset side with
  | some x => exact ⟨x, rfl⟩
  | none =>
    rw [hx] at hrule
    exact absurd hrule (by decide)

/-! ## Traction with an open loop (R79) -/

/-- EV37 is raised once its timer has run longer than 0x2300:04. -/
theorem Image.tractionOpen_eq {im : Image} {f : Nat} (hs : im.permits.tractionSince = some f)
    (ht : f + im.reg 0x2300 4 < im.now) (h37 : im.permits.ev37 = false) : im.tractionOpen =
    Image.raise (Image.bump (Image.setReg { im with permits := { im.permits with ev37 := true } } 0x2312 1 1) 0x2312 2)
      37 modScope Source.zero := by
  unfold Image.tractionOpen
  rw [hs]
  exact if_pos (by simp [ht, h37])

theorem Image.tractionOpen_spec {im : Image} {f : Nat} (hs : im.permits.tractionSince = some f)
    (ht : f + im.reg 0x2300 4 < im.now) (h37 : im.permits.ev37 = false) :
    im.tractionOpen.evActive 37 modScope = true ∧ im.tractionOpen.permits.ev37 = true ∧ im.tractionOpen.reg 0x2312 1 = 1 := by
  rw [Image.tractionOpen_eq hs ht h37]
  generalize hx : Image.setReg { im with permits := { im.permits with ev37 := true } } 0x2312 1 1 = x
  have hshown : x.reg 0x2312 1 = 1 := by
    rw [← hx, Image.reg_setReg_same _ _ (by decide)]
    decide
  have hraise := Image.raise_sansEvents (x.bump 0x2312 2) 37 modScope Source.zero (by decide)
  refine ⟨Image.raise_active _ _ _ _ (Image.speaks_mod _ _), ?_, ?_⟩
  · rw [Image.permits_of_sansEvents hraise, ← hx]
    rfl
  · rw [Image.reg_of_sansEvents hraise (by decide) (by decide), Image.reg_bump_other _ (by decide) (by decide) (by decide),
      hshown]

/-- Settles O20: the two writes by what their objects do, the timeout by EV37's own operation. -/
theorem loopCommandsAndTraction : Obligations.LoopCommandsAndTraction := by
  unfold Obligations.LoopCommandsAndTraction
  intro s p side hrun
  refine ⟨?request, ?reset, ?traction⟩
  case request =>
    intro on h
    obtain ⟨t, ht, himg, howes⟩ := State.serve_writeRow h (plainModule_loopObj side)
      (State.moduleWrite_loopObj s.hush p side [b2n on])
    have hreg : t.img.reg (loopObj side) 2 = b2n on := by
      rw [himg, owing_reg, Image.put_loopObj]
    refine ⟨t, ht, hreg, fun hon => Image.loopCommand_of_request ?_, howes⟩
    rw [hreg, hon]
    rfl
  case reset =>
    intro h
    obtain ⟨x, hx⟩ := State.loopReset_of_takes h
    have hx' : (s.hush.img.loopReset (if ofLe (sideByte side) = 2 then Side.b else Side.a)).getD s.hush.img = x := by
      cases side <;> exact congrArg (Option.getD · _) hx
    obtain ⟨t, ht, himg, howes⟩ := State.serve_writeRow h (by decide) (f := fun im =>
      (im.loopReset (if ofLe (sideByte side) = 2 then Side.b else Side.a)).getD im) rfl
    obtain ⟨hfault, hreg⟩ := Image.loopReset_fault hx
    rw [hx'] at himg
    refine ⟨t, ht, ?_, ?_, howes⟩
    · rw [himg, owing_permits, hfault]
    · rw [himg, owing_reg, hreg]
  case traction =>
    intro f hs ht h37
    obtain ⟨t, hexec, himg⟩ := State.act_running hrun (fun im => im.tractionOpen)
    have hspec := Image.tractionOpen_spec (im := s.hush.img) hs ht h37
    rw [← himg] at hspec
    exact ⟨t, hexec, hspec⟩

end Sys2Proof.Machine.ReleaseLoop
end

section
/-! The release of a stall in the lock zone (R126) on an axis that moves by itself (R132): such an axis leads itself only
while its own generator is busy, and a move that goes on at its own target plans none. -/

namespace Sys2Proof.Machine.LeafMotion

/-! ## The generator that leads an axis -/

theorem Image.axis_onAxis_same (im : Image) (a : Axis) (f : AxisState → AxisState) :
    (im.onAxis a f).axis a = f (im.axis a) := upd_get_same _ _ _

/-- A generator whose move is held leads its axis. -/
theorem Image.leadsItself_of_held {im : Image} {a : Axis} {h : Held} (hheld : (im.axis a).solo.held = some h) :
    im.leadsItself a = true := by
  simp only [Image.leadsItself, Gen.busy, hheld, Option.isSome_some, Bool.or_true, Bool.true_or]

/-- Outside Manual, an axis whose own generator is idle is led by its group's. -/
theorem Image.leadGen_of_idle {im : Image} {a : Axis} (hidle : (im.axis a).solo.busy = false)
    (hst : (im.door (axisDoor a)).st ≠ .manual) : im.leadGen a = im.axisGen a := by
  simp only [Image.leadGen, hidle, hst, decide_false, Bool.or_self, Bool.false_eq_true, if_false]

theorem Image.axisGen_of_doors {x y : Image} (h : x.doors = y.doors) (a : Axis) : x.axisGen a = y.axisGen a := by
  unfold Image.axisGen
  cases axisGroup a <;> simp only [Image.gen, Image.door, h]

/-! ## The release -/

/-- The image of an axis that the lock zone no longer holds. -/
def zoneFreed (im : Image) (a : Axis) : Image := im.onAxis a (fun x => { x with zoneHold := false })

/-- What the release makes of the leading generator at a level of the Belt. -/
def released (level : Nat) (c : Terms) (w : Gen) : Gen :=
  match w.held with
  | some h =>
    if h.cause != .stall then w
    else if 3 ≤ level then { w with held := some { h with cause := .belt } }
    else w.resume c h.aim
  | none => w

theorem zoneFreed_solo (im : Image) (a : Axis) : ((zoneFreed im a).axis a).solo = (im.axis a).solo := by
  rw [zoneFreed, Image.axis_onAxis_same]

theorem released_eq_resume {level : Nat} {w : Gen} {h : Held} (c : Terms) (hheld : w.held = some h)
    (hcause : h.cause = .stall) (hlevel : level < 3) : released level c w = w.resume c h.aim := by
  have hstall : ¬ (h.cause != .stall) = true := by rw [hcause]; decide
  have hbelt : ¬ 3 ≤ level := Nat.not_le.mpr hlevel
  simp only [released, hheld, if_neg hstall, if_neg hbelt]

/-- An axis that leads itself is released whatever holds the other leaf. -/
theorem Image.zoneRelease_of_leadsItself {im : Image} {a : Axis} (hzone : (im.axis a).zoneHold = true)
    (hangle : 2 * (im.axis a).plant.angle.natAbs < im.stallLimit a) (hlead : (zoneFreed im a).leadsItself a = true) :
    im.zoneRelease a = (zoneFreed im a).onAxis a (fun x => { x with
      solo := released im.belt.level ((zoneFreed im a).leadTerms a) x.solo }) := by
  have hgo : im.zoneRelease a =
      (zoneFreed im a).onLead a (released im.belt.level ((zoneFreed im a).leadTerms a)) := by
    unfold Image.zoneRelease
    rw [if_pos (by simp only [hzone, hangle, decide_true, Bool.and_self])]
    change (if (!(zoneFreed im a).leadsItself a && _) = true then _ else _) = _
    rw [hlead]
    rfl
  rw [hgo, Image.onLead, if_pos hlead]

/-- At its target, the released move of an axis's own generator is over, and the group's generator leads with whatever it
holds (R126, R132). -/
theorem Image.zoneRelease_leadGen {im : Image} {a : Axis} {h : Held} (hzone : (im.axis a).zoneHold = true)
    (hangle : 2 * (im.axis a).plant.angle.natAbs < im.stallLimit a) (hheld : (im.axis a).solo.held = some h)
    (hcause : h.cause = .stall) (hlevel : im.belt.level < 3) (hpos : (im.axis a).solo.pos = 256 * h.aim.target)
    (horders : (im.axis a).solo.orders = []) (hst : (im.door (axisDoor a)).st ≠ .manual) :
    (im.zoneRelease a).leadGen a = im.axisGen a := by
  have hsolo := zoneFreed_solo im a
  have hlead : (zoneFreed im a).leadsItself a = true := Image.leadsItself_of_held (hsolo ▸ hheld)
  have hrelease := Image.zoneRelease_of_leadsItself hzone hangle hlead
  have hdoors : (im.zoneRelease a).doors = im.doors := by rw [hrelease]; rfl
  have hidle : ((im.zoneRelease a).axis a).solo.busy = false := by
    rw [hrelease, Image.axis_onAxis_same, hsolo, released_eq_resume _ hheld hcause hlevel]
    simp only [Gen.busy, Gen.resume, Gen.begin, Gen.renew, Gen.obstacleOver, hpos, horders, if_true, Option.isSome_none,
      Bool.or_self, List.isEmpty_nil, Bool.not_true]
  rw [Image.leadGen_of_idle hidle (by simpa only [Image.door, hdoors] using hst), Image.axisGen_of_doors hdoors]

/-! ## A counterexample -/

/-- The last of an approach to the shared set-point (R132), held by a stall in the lock zone. -/
def stalledApproach : Held := ⟨⟨.approach, 5000, 0, 0⟩, .stall⟩

/-- A closing doorway whose stroke waits for the retry of a trip, while leaf 1 is brought to the shared set-point: the
stall has come where the approach ends. -/
def stalledAtSetPoint : State :=
  { State.reset with
    powered := true
    buckle := { Buckle.reset with railP := 1, railQ := 1, selfTest := true }
    lanes := ⟨{ LaneState.reset with st := .operational, active := true }, LaneState.reset⟩
    img := (Image.reset.onDoor 0 (fun w => { w with
        st := .closing, leaves := { w.leaves with pos := 256 * 5000, held := some ⟨⟨.stroke, 0, 0, 0⟩, .trip⟩ } })).onAxis 0
      (fun x => { x with
        zoneHold := true, guard := { x.guard with rejoin := true }
        solo := { x.solo with pos := 256 * 5000, held := some stalledApproach } }) }

/-- Refutes O24: its LOCK_ZONE_STALL_RELEASE clause wants nothing held of the generator that leads the axis afterwards.
Where the released move is the axis's own and stands at its target, the lead passes to the group's generator, whose
stroke a trip still holds. -/
theorem not_obstaclesAndStalls : ¬ Obligations.ObstaclesAndStalls := by
  unfold Obligations.ObstaclesAndStalls
  rintro ⟨-, -, -, hzone, -, -⟩
  have hrun : stalledAtSetPoint.running = true := by decide
  have hangle : 2 * (stalledAtSetPoint.img.axis 0).plant.angle.natAbs < stalledAtSetPoint.img.stallLimit 0 := by decide
  obtain ⟨-, hresume⟩ := hzone stalledAtSetPoint 0 hrun (by decide) hangle
  obtain ⟨t, hexec, hnone, -⟩ := hresume stalledApproach (by decide) rfl (by decide) (by decide)
  obtain ⟨t', hexec', himg⟩ := ReleaseLoop.State.act_running hrun (fun im => im.zoneRelease 0)
  obtain rfl : t = t' := Host.Outcome.next.inj (hexec.symm.trans hexec')
  have hlead : t.img.leadGen 0 = stalledAtSetPoint.hush.img.axisGen 0 := by
    rw [himg]
    exact Image.zoneRelease_leadGen (h := stalledApproach) (by decide) hangle (by decide) rfl (by decide) (by decide)
      (by decide) (by decide)
  rw [hlead] at hnone
  exact absurd hnone (by decide)

end Sys2Proof.Machine.LeafMotion
end

section
/-! What the rows of the supply and the clocks share: event frames, and writes of objects that need authorisation. -/

namespace Sys2Proof.Machine.Clocks
open ReleaseLoop

/-! ## What an event operation leaves -/

theorem Image.belt_of_sansEvents {a b : Image} (h : a.sansEvents = b.sansEvents) : a.belt = b.belt :=
  show a.sansEvents.belt = b.sansEvents.belt by rw [h]

theorem Image.clk_of_sansEvents {a b : Image} (h : a.sansEvents = b.sansEvents) : a.clk = b.clk :=
  show a.sansEvents.clk = b.sansEvents.clk by rw [h]

theorem Image.net_of_sansEvents {a b : Image} (h : a.sansEvents = b.sansEvents) : a.net = b.net :=
  show a.sansEvents.net = b.sansEvents.net by rw [h]

/-- A condition event of the module that follows a test shows the test. -/
theorem Image.follow_active (im : Image) (c : Prop) [Decidable c] (n : Nat) (src : Source) :
    (if c then im.raise n modScope src else im.clearEv n modScope src).evActive n modScope = decide c := by
  by_cases hc : c
  · rw [if_pos hc, decide_eq_true hc]
    exact Image.raise_active im n modScope src (Image.speaks_mod im n)
  · rw [if_neg hc, decide_eq_false hc]
    exact Image.clearEv_inactive im n modScope src

theorem Image.follow_sansEvents (im : Image) (c : Prop) [Decidable c] {n : Nat} (src : Source) (hn : n < 255) :
    (if c then im.raise n modScope src else im.clearEv n modScope src).sansEvents = im.sansEvents :=
  Image.ite_sansEvents (Image.raise_sansEvents im n modScope src hn) (Image.clearEv_sansEvents im n modScope src hn)

/-- A latch released where its condition is absent is no longer set (R581). -/
theorem Image.release_isLatched {im : Image} {n : Nat} {scope : Fin 13} (hl : im.isLatched n scope = true)
    (ha : im.evActive n scope = false) : (im.release n scope).isLatched n scope = false := by
  unfold Image.isLatched at hl
  unfold Image.evActive at ha
  simp [Image.release, hl, ha, Image.isLatched, Image.onScope, upd_get_same]

/-! ## The frames a command is written in -/

/-- A command on the working image changes that image and what the standby shadows alone (R7). -/
theorem State.act_running_imageOnly {s : State} (h : s.running = true) (f : Image → Image) :
    ∃ t, s.act f = .next t ∧ s.imageOnly t ∧ t.img = f s.hush.img := by
  have hr : s.hush.running = true := h
  exact ⟨s.hush.both f, by simp only [State.act, State.live, State.go, hr, if_true], rfl, rfl⟩

/-! ## A write that needs authorisation -/

/-- A command that writes an object, taken while a lane runs, whose write does `f` and is answered with its commit: `f`,
and an answer that waits (R512). -/
theorem State.serve_writeRow_of_applyWrite {s : State} {p : Path} {idx sub : Nat} {data : Bytes} (h : s.takes p idx sub data)
    {f : Image → Image} (hw : s.hush.applyWrite p idx sub data = (s.hush.edit f, 0)) (h1 : idx ≠ 0x1010) (h2 : idx ≠ 0x2801) :
    ∃ t, s.serve (fun s => s.writeRow p idx sub data) = .next t ∧ t.img = owing (f s.hush.img) p idx sub ∧
      t.owes p idx sub := by
  obtain ⟨hrun, -, hc⟩ := h
  have hrun' : (s.hush.edit f).running = true := hrun
  have hlater : (s.hush.edit f).answersLater idx sub = false := by simp [State.answersLater, h1, h2]
  have hrow : s.hush.writeRow p idx sub data = (s.hush.edit f).edit (fun im => owing im p idx sub) := by
    unfold State.writeRow State.finishWrite State.answerWrite
    rw [hc, hw]
    simp only [hlater, hrun']
    rfl
  exact ⟨_, (State.serve_running hrun _).trans (congrArg _ hrow), rfl, List.mem_append_right _ (List.mem_singleton_self _)⟩

/-- A module object whose write keeps the path's authorisation open (R567). -/
def guardedModule (idx sub : Nat) : Bool :=
  nativePlace idx == .module idx && (nativeRow idx sub).any (fun r => subAccess idx sub r = .rwa)

theorem State.applyWrite_guarded {s : State} {p : Path} {idx sub : Nat} (data : Bytes)
    (hl : s.img.legacyAt p idx = false) (hm : guardedModule idx sub = true) :
    s.applyWrite p idx sub data = (s.edit (fun im => im.touchAuth p)).moduleWrite p idx sub data := by
  simp only [guardedModule, Bool.and_eq_true, beq_iff_eq, Option.any_eq_true, decide_eq_true_eq] at hm
  obtain ⟨hplace, r, hr, hacc⟩ := hm
  have hl' : (s.edit (fun im => im.touchAuth p)).img.legacyAt p idx = false := hl
  unfold State.applyWrite State.applyNative
  simp only [hr, hacc, if_true, hl', Bool.false_and, Bool.false_eq_true, if_false, hplace]

/-- A command that writes a guarded module object, taken while a lane runs. -/
theorem State.serve_writeRow_guarded {s : State} {p : Path} {idx sub : Nat} {data : Bytes} (h : s.takes p idx sub data)
    (hm : guardedModule idx sub = true) (h1 : idx ≠ 0x1010) (h2 : idx ≠ 0x2801) {f : Image → Image}
    (hw : ∀ u : State, u.moduleWrite p idx sub data = (u.edit f, 0)) :
    ∃ t, s.serve (fun s => s.writeRow p idx sub data) = .next t ∧
      t.img = owing (f (s.hush.img.touchAuth p)) p idx sub ∧ t.owes p idx sub :=
  State.serve_writeRow_of_applyWrite (f := fun im => f (im.touchAuth p)) h
    ((State.applyWrite_guarded (s := s.hush) data h.2.1 hm).trans (hw _)) h1 h2

end Sys2Proof.Machine.Clocks
end

section
/-! The hold-up store, the motor bus, the backup cell, the seal, the operating time (R198, R215, R217, R234, R581, R609). -/

namespace Sys2Proof.Machine.Clocks
open ReleaseLoop

theorem Image.measureHoldup_spec (im : Image) (j : Nat) : (im.measureHoldup j).reg 0x210A 1 = wrap 16 j ∧
    (im.measureHoldup j).evActive 3 modScope = decide (j < 450) := by
  unfold Image.measureHoldup
  refine ⟨?_, Image.follow_active _ _ _ _⟩
  rw [Image.reg_of_sansEvents (Image.follow_sansEvents _ _ _ (by decide)) (by decide) (by decide),
    Image.reg_setReg_same _ _ (by decide)]
  rfl

theorem Image.measureCell_spec (im : Image) (mv : Nat) : (im.measureCell mv).reg 0x210D 1 = wrap 16 mv ∧
    (im.measureCell mv).belt.cellMv = mv ∧ (im.measureCell mv).evActive 5 modScope = decide (mv < 2600) := by
  unfold Image.measureCell
  have hsame := Image.follow_sansEvents (Image.setReg { im with belt := { im.belt with cellMv := mv } } 0x210D 1 mv)
    (mv < 2600) (n := 5) ⟨0, 0, mv⟩ (by decide)
  refine ⟨?_, ?_, Image.follow_active _ _ _ _⟩
  · rw [Image.reg_of_sansEvents hsame (by decide) (by decide), Image.reg_setReg_same _ _ (by decide)]
    rfl
  · rw [Image.belt_of_sansEvents hsame]
    rfl

/-- A bus fault that is confirmed stops the converter that runs (R217). -/
theorem Image.busFault_spec {im : Image} {excess : Bool} (hc : im.belt.converter = true)
    (hok : (if excess then decide (2 ≤ im.belt.busHigh) else im.elapsed im.belt.busLowSince 100) = true) :
    (im.busFault excess).belt.converter = false ∧ (im.busFault excess).belt.busFault = (if excess then 1 else 2) ∧
      (im.busFault excess).isLatched 2 modScope = true := by
  unfold Image.busFault
  rw [if_pos (by rw [hok, hc]; rfl)]
  have hsame := fun x : Image => Image.belt_of_sansEvents
    (Image.latch_sansEvents x 2 modScope ⟨0, if excess then 1 else 2, im.belt.bus⟩ false (by decide))
  refine ⟨?_, ?_, Image.latch_latched _ _ _ _ _ (Image.speaks_mod _ _)⟩
  · rw [hsame]
    rfl
  · rw [hsame]
    rfl

/-- The clear of EV02 releases its latch and restarts the converter (R581). -/
theorem Image.clearModule_spec {im : Image} (hl : im.isLatched 2 modScope = true) (ha : im.evActive 2 modScope = false) :
    im.clearModule.isLatched 2 modScope = false ∧ im.clearModule.belt.converter = true ∧ im.clearModule.belt.busFault = 0 := by
  have hhad : bitOf (im.ev.scopes.get modScope).latched 2 = true := hl
  unfold Image.clearModule
  rw [if_pos hhad]
  exact ⟨Image.release_isLatched hl ha, rfl, rfl⟩

/-- Settles O26: the measurements by their events, the bus fault by its latch, the two clears by their writes. -/
theorem supplyMeasurementsAndFaults : Obligations.SupplyMeasurementsAndFaults := by
  unfold Obligations.SupplyMeasurementsAndFaults
  intro s
  refine ⟨?holdup, ?bus, ?clear, ?cell, ?cover, ?save, rfl, rfl⟩
  case holdup =>
    intro j hrun
    obtain ⟨t, ht, himg⟩ := State.act_running hrun (fun im => im.measureHoldup j)
    exact ⟨t, ht, himg ▸ Image.measureHoldup_spec _ j⟩
  case bus =>
    intro excess hrun hc hok
    obtain ⟨t, ht, himg⟩ := State.act_running hrun (fun im => im.busFault excess)
    exact ⟨t, ht, himg ▸ Image.busFault_spec (im := s.hush.img) hc hok⟩
  case clear =>
    intro p h hl ha
    obtain ⟨t, ht, himg, howes⟩ := State.serve_writeRow h (by decide) (f := Image.clearModule) rfl
    obtain ⟨hreleased, hon, hfault⟩ := Image.clearModule_spec (im := s.hush.img) hl ha
    refine ⟨t, ht, ?_, ?_, ?_, howes⟩ <;> rw [himg]
    · exact hreleased
    · exact hon
    · exact hfault
  case cell =>
    intro mv hrun
    obtain ⟨t, ht, himg⟩ := State.act_running hrun (fun im => im.measureCell mv)
    exact ⟨t, ht, himg ▸ Image.measureCell_spec _ mv⟩
  case cover =>
    intro p h
    obtain ⟨t, ht, himg, howes⟩ := State.serve_writeRow_guarded h (by decide) (by decide) (by decide)
      (f := Image.clearSeal) (fun _ => rfl)
    exact ⟨t, ht, by rw [himg]; rfl, howes⟩
  case save =>
    intro hrun hdue
    have hsaved : s.hush.img.saveOp =
        { s.img with outs := [], clk := { s.img.clk with opSaved := s.img.op } } := if_pos (by
      simp only [Bool.or_eq_true, decide_eq_true_eq]
      exact Or.inl hdue)
    obtain ⟨t, ht, honly, himg⟩ := State.act_running_imageOnly hrun Image.saveOp
    exact ⟨t, ht, honly, himg.trans hsaved⟩

end Sys2Proof.Machine.Clocks
end

section
/-! PTP, SNTP and the wall time (R201 to R206, R501, R502). -/

namespace Sys2Proof.Machine.Clocks
open ReleaseLoop

/-! ## Registers of the communication part -/

/-- A register whose reads are its last write, in the communication part too: neither the mode nor the node-ID in force,
not forced by Overlay mode, and narrower than the mark of a default that depends on the node-ID. -/
def steadyReg (idx sub : Nat) : Bool :=
  decide (sub < 256) && !decide (idx = 0x2FF0 ∧ sub = 1) && !decide (idx = 0x2903 ∧ sub = 2) &&
    (overlayForced idx sub).isNone && decide (regBits idx sub ≤ 64)

theorem steadyReg_iff {idx sub : Nat} : steadyReg idx sub = true ↔ sub < 256 ∧ ¬ (idx = 0x2FF0 ∧ sub = 1) ∧
    ¬ (idx = 0x2903 ∧ sub = 2) ∧ overlayForced idx sub = none ∧ regBits idx sub ≤ 64 := by
  simp only [steadyReg, Bool.and_eq_true, Bool.not_eq_true', decide_eq_true_eq, decide_eq_false_iff_not,
    Option.isNone_iff_eq_none, and_assoc]

theorem Image.reg_setReg_steady (im : Image) (v : Nat) {idx sub : Nat} (hp : steadyReg idx sub = true) :
    (im.setReg idx sub v).reg idx sub = wrap (regBits idx sub) v := by
  obtain ⟨-, -, -, hforced, hbits⟩ := steadyReg_iff.mp hp
  simp [Image.reg, hforced, Image.held_setReg_same im idx sub v (wrap_ne_nodeDefault v hbits)]

theorem Image.reg_setReg_apart (im : Image) (v : Nat) {idx sub idx' sub' : Nat} (hp : steadyReg idx sub = true)
    (hs : sub' < 256) (hk : ¬ (idx' = idx ∧ sub' = sub)) : (im.setReg idx sub v).reg idx' sub' = im.reg idx' sub' := by
  obtain ⟨hs0, hmode, hnode, -, -⟩ := steadyReg_iff.mp hp
  exact Image.reg_congr (im.setReg_find_other v hs0 hs hk) (im.setReg_find_other v hs0 (by decide) (by omega))
    (im.setReg_find_other v hs0 (by decide) (by omega))

/-! ## The wall time is stepped or slewed (R203) -/

/-- An occurrence raises and clears nothing. -/
theorem Image.occur_evActive (im : Image) (n k : Nat) (src : Source) :
    (im.occur n modScope src).evActive k modScope = im.evActive k modScope := by
  unfold Image.occur
  split
  · rfl
  · simp [Image.evActive, Image.onScope, upd_get_same]

theorem Image.draft_sansEvents (im : Image) (d : Draft) : (im.draft d).sansEvents = im.sansEvents := rfl

theorem Image.draft_evActive (im : Image) (d : Draft) (n : Nat) (scope : Fin 13) :
    (im.draft d).evActive n scope = im.evActive n scope := rfl

/-- The image of a wall time that has been stepped, before the event and the record. -/
def wallStepped (im : Image) (new : Nat) : Image :=
  let stepped : Image := { im with clk := { im.clk with
    wallUs := new, slewUs := 0, slewFrac := 0, slewing := false, invalid := false, backup := false } }
  (stepped.bump 0x2103 4).setSreg 0x2103 5 (((new : Int) - im.clk.wallUs) / 1000)

theorem Image.stepWall_eq (im : Image) (new cause : Nat) :
    ∃ src d, im.stepWall new cause = ((wallStepped im new).occur 25 modScope src).draft d := ⟨_, _, rfl⟩

theorem Image.stepWall_sansEvents (im : Image) (new cause : Nat) :
    (im.stepWall new cause).sansEvents = (wallStepped im new).sansEvents := by
  obtain ⟨src, d, heq⟩ := Image.stepWall_eq im new cause
  rw [heq, Image.draft_sansEvents, Image.occur_sansEvents _ 25 modScope src (by decide)]

theorem Image.stepWall_evActive (im : Image) (new cause n : Nat) :
    (im.stepWall new cause).evActive n modScope = im.evActive n modScope := by
  obtain ⟨src, d, heq⟩ := Image.stepWall_eq im new cause
  rw [heq, Image.draft_evActive, Image.occur_evActive]
  rfl

theorem wallStepped_reg (im : Image) (new : Nat) {idx sub : Nat} (hs : sub < 256) (hi : idx ≠ 0x2103) :
    (wallStepped im new).reg idx sub = im.reg idx sub := by
  unfold wallStepped
  dsimp only
  rw [Image.setSreg, Image.reg_setReg_apart _ _ (by decide) hs (by simp [hi]), Image.bump,
    Image.reg_setReg_apart _ _ (by decide) hs (by simp [hi])]
  rfl

/-- A register that the disciplining of the wall time leaves: no event's, and none of what it shows of itself. -/
def apartFromTime (idx sub : Nat) : Bool :=
  decide (sub < 256) && !eventRegs idx && idx != 0x2103 && !decide (idx = 0x2104 ∧ sub = 2) &&
    !decide (idx = 0x2102 ∧ sub = 5)

theorem apartFromTime_iff {idx sub : Nat} : apartFromTime idx sub = true ↔ sub < 256 ∧ eventRegs idx = false ∧
    idx ≠ 0x2103 ∧ ¬ (idx = 0x2104 ∧ sub = 2) ∧ ¬ (idx = 0x2102 ∧ sub = 5) := by
  simp only [apartFromTime, Bool.and_eq_true, Bool.not_eq_true', decide_eq_true_eq, decide_eq_false_iff_not, bne_iff_ne,
    ne_eq, and_assoc]

/-- What a source that disciplines the wall time leaves of the image, and what it shows (R202, R203). -/
structure Disciplined (im t : Image) (src : Nat) : Prop where
  source : t.clk.source = src
  now : t.now = im.now
  lastPtp : t.clk.lastPtp = im.clk.lastPtp
  lastSntp : t.clk.lastSntp = im.clk.lastSntp
  interval : t.clk.ptpInterval = im.clk.ptpInterval
  net : t.net = im.net
  synced : t.evActive 26 modScope = false
  reg : ∀ idx sub, apartFromTime idx sub = true → t.reg idx sub = im.reg idx sub

/-- The image of a source that shows a measured offset. -/
def offsetShown (im : Image) (src : Nat) (offsetUs : Int) : Image :=
  let shown := im.setSreg 0x2104 2 offsetUs
  { shown with clk := { shown.clk with source := src, boundFrom := shown.now } }

/-- The image of a source that disciplines the wall time, before the offset is removed. -/
def sourceTaken (im : Image) (src : Nat) (offsetUs : Int) : Image :=
  (offsetShown im src offsetUs).clearEv 26 modScope Source.zero

theorem sourceTaken_disciplined (im : Image) (src : Nat) (offsetUs : Int) : Disciplined im (sourceTaken im src offsetUs) src := by
  have hsame := Image.clearEv_sansEvents (offsetShown im src offsetUs) 26 modScope Source.zero (by decide)
  have hclk := Image.clk_of_sansEvents hsame
  refine ⟨congrArg (·.source) hclk, congrArg (·.frame) hclk, congrArg (·.lastPtp) hclk, congrArg (·.lastSntp) hclk,
    congrArg (·.ptpInterval) hclk, (Image.net_of_sansEvents hsame).trans rfl, Image.clearEv_inactive _ _ _ _, fun idx sub h => ?_⟩
  obtain ⟨hs, hev, -, hshown, -⟩ := apartFromTime_iff.mp h
  exact (Image.reg_of_sansEvents hsame hs hev).trans (Image.reg_setReg_apart im _ (by decide) hs hshown)

/-- The slew and the step keep the source and what it has shown. -/
theorem Image.discipline_disciplined (im : Image) (src : Nat) (offsetUs : Int) :
    Disciplined im (im.discipline src offsetUs) src := by
  have htaken := sourceTaken_disciplined im src offsetUs
  unfold Image.discipline
  refine iteInduction (motive := fun t : Image => Disciplined im t src) (fun _ => ?step) (fun _ => ?slew)
  case step =>
    change Disciplined im ((sourceTaken im src offsetUs).stepWall
      (((sourceTaken im src offsetUs).clk.wallUs : Int) - offsetUs).toNat src) src
    generalize (((sourceTaken im src offsetUs).clk.wallUs : Int) - offsetUs).toNat = new
    have hsame := Image.stepWall_sansEvents (sourceTaken im src offsetUs) new src
    have hclk := Image.clk_of_sansEvents hsame
    refine ⟨(congrArg (·.source) hclk).trans htaken.source, (congrArg (·.frame) hclk).trans htaken.now,
      (congrArg (·.lastPtp) hclk).trans htaken.lastPtp, (congrArg (·.lastSntp) hclk).trans htaken.lastSntp,
      (congrArg (·.ptpInterval) hclk).trans htaken.interval, (Image.net_of_sansEvents hsame).trans htaken.net,
      (Image.stepWall_evActive _ _ _ _).trans htaken.synced, fun idx sub h => ?_⟩
    obtain ⟨hs, hev, hstep, -, -⟩ := apartFromTime_iff.mp h
    rw [Image.reg_of_sansEvents hsame hs hev, wallStepped_reg _ _ hs hstep, htaken.reg idx sub h]
  case slew =>
    exact ⟨htaken.source, htaken.now, htaken.lastPtp, htaken.lastSntp, htaken.interval, htaken.net, htaken.synced,
      htaken.reg⟩

/-- A source that gives its UTC offset too (R201). -/
theorem Image.takeUtc_discipline (im : Image) (utc : Int) (src : Nat) (offsetUs : Int) :
    Disciplined im ((im.takeUtc utc).discipline src offsetUs) src := by
  obtain ⟨h1, h2, h3, h4, h5, h6, h7, h8⟩ := Image.discipline_disciplined (im.takeUtc utc) src offsetUs
  refine ⟨h1, h2, h3, h4, h5, h6, h7, fun idx sub h => (h8 idx sub h).trans ?_⟩
  obtain ⟨hs, -, -, -, hutc⟩ := apartFromTime_iff.mp h
  exact Image.reg_setReg_apart _ _ (by decide) hs hutc

/-! ## PTP (R501) -/

/-- The image of a Sync of a slave port whose measurements have been shown. -/
def syncShown (im : Image) (off : Int) (delay gm interval : Nat) : Image :=
  let since := (if im.ptpValid then im.clk.ptpRunSince else none).getD im.now
  let shown := (((((im.setReg 0x290A 3 9).setSreg 0x290A 4 (clampInt (-2147483648) 2147483647 off)).setReg 0x290A 5
    (min 0xFFFFFFFF delay)).setReg 0x290A 6 gm).bump 0x290A 8)
  { shown with clk := shown.clk.synced true shown.now since interval }

/-- A valid Sync shows its measurements and disciplines the wall time unless SNTP does (R202). -/
theorem Image.ptpSync_eq {im : Image} {off : Int} {delay gm : Nat} {utc : Int} {interval : Nat} (hon : im.reg 0x290A 1 ≠ 0)
    (hd : delay < 10000000) : im.ptpSync off delay gm utc true interval =
      if im.clk.source = 2 then (syncShown im off delay gm interval).setSreg 0x2104 2 (off.tdiv 1000)
      else ((syncShown im off delay gm interval).takeUtc utc).discipline 1 (off.tdiv 1000) := by
  have hvalid : (true && decide (delay < 10000000)) = true := by simp [hd]
  unfold Image.ptpSync
  rw [if_neg hon, hvalid]
  rfl

theorem syncShown_reg (im : Image) (off : Int) {delay : Nat} (gm interval : Nat) (hd : delay < 10000000) :
    (syncShown im off delay gm interval).reg 0x290A 3 = 9 ∧ (syncShown im off delay gm interval).reg 0x290A 5 = delay ∧
      (syncShown im off delay gm interval).reg 0x290A 8 = wrap (regBits 0x290A 8) (im.reg 0x290A 8 + 1) := by
  have hod : ∀ idx sub, (syncShown im off delay gm interval).reg idx sub = (((((im.setReg 0x290A 3 9).setSreg 0x290A 4
    (clampInt (-2147483648) 2147483647 off)).setReg 0x290A 5 (min 0xFFFFFFFF delay)).setReg 0x290A 6 gm).bump 0x290A 8).reg idx sub :=
    fun _ _ => rfl
  have hdelay : wrap (regBits 0x290A 5) (min 0xFFFFFFFF delay) = delay := by
    rw [show regBits 0x290A 5 = 32 by decide, wrap, Nat.min_eq_right (by omega)]
    exact Nat.mod_eq_of_lt (by omega)
  simp only [hod, Image.bump, Image.setSreg]
  refine ⟨?_, ?_, ?_⟩
  · rw [Image.reg_setReg_apart _ _ (by decide) (by decide) (by decide), Image.reg_setReg_apart _ _ (by decide) (by decide) (by decide),
      Image.reg_setReg_apart _ _ (by decide) (by decide) (by decide), Image.reg_setReg_apart _ _ (by decide) (by decide) (by decide),
      Image.reg_setReg_steady _ _ (by decide)]
    decide
  · rw [Image.reg_setReg_apart _ _ (by decide) (by decide) (by decide), Image.reg_setReg_apart _ _ (by decide) (by decide) (by decide),
      Image.reg_setReg_steady _ _ (by decide), hdelay]
  · rw [Image.reg_setReg_steady _ _ (by decide), Image.reg_setReg_apart _ _ (by decide) (by decide) (by decide),
      Image.reg_setReg_apart _ _ (by decide) (by decide) (by decide), Image.reg_setReg_apart _ _ (by decide) (by decide) (by decide),
      Image.reg_setReg_apart _ _ (by decide) (by decide) (by decide)]

/-- A slave port whose Sync has come in this frame is valid, whatever the master's interval (R501). -/
theorem Image.ptpValid_of_sync {im : Image} (h3 : im.reg 0x290A 3 = 9) (h5 : im.reg 0x290A 5 < 10000000)
    (hl : im.clk.lastPtp = some im.now) : im.ptpValid = true := by
  simp [Image.ptpValid, h3, h5, hl]

/-- What a valid Sync leaves, whichever source is in force. -/
theorem Image.ptpSync_spec {im : Image} {off : Int} {delay gm : Nat} {utc : Int} {interval : Nat}
    (hon : im.reg 0x290A 1 ≠ 0) (hd : delay < 10000000) :
    let t := im.ptpSync off delay gm utc true interval
    t.clk.lastPtp = some im.now ∧ t.reg 0x290A 3 = 9 ∧ t.reg 0x290A 5 = delay ∧ t.ptpValid = true ∧
      t.reg 0x290A 8 = wrap (regBits 0x290A 8) (im.reg 0x290A 8 + 1) ∧
      (im.clk.source ≠ 2 → t.clk.source = 1 ∧ t.evActive 26 modScope = false) := by
  intro t
  obtain ⟨h3, h5, h8⟩ := syncShown_reg im off gm interval hd
  have hkept : t.clk.lastPtp = some im.now ∧ t.now = im.now ∧
      (∀ sub, sub < 256 → t.reg 0x290A sub = (syncShown im off delay gm interval).reg 0x290A sub) ∧
      (im.clk.source ≠ 2 → t.clk.source = 1 ∧ t.evActive 26 modScope = false) := by
    rw [show t = _ from Image.ptpSync_eq hon hd]
    split
    next hsntp =>
      exact ⟨rfl, rfl, fun sub hs => Image.reg_setReg_apart _ _ (by decide) hs (by simp), fun hn => absurd hsntp hn⟩
    next =>
      have hdone := Image.takeUtc_discipline (syncShown im off delay gm interval) utc 1 (off.tdiv 1000)
      exact ⟨hdone.lastPtp, hdone.now, fun sub hs => hdone.reg _ _ (apartFromTime_iff.mpr ⟨hs, by decide, by decide, by simp, by simp⟩),
        fun _ => ⟨hdone.source, hdone.synced⟩⟩
  obtain ⟨hlast, hnow, hreg, hsource⟩ := hkept
  have h3' := (hreg 3 (by decide)).trans h3
  have h5' := (hreg 5 (by decide)).trans h5
  exact ⟨hlast, h3', h5', Image.ptpValid_of_sync h3' (h5' ▸ hd) (hnow ▸ hlast), (hreg 8 (by decide)).trans h8, hsource⟩

/-! ## SNTP (R502) -/

/-- A poll that is due queries the first server where it has an address. -/
theorem Image.sntpPoll_spec {im : Image} (hidle : im.net.bb.sntp = none) (hdue : im.net.bb.sntpDue ≤ im.now)
    (hserver : im.reg 0x290B 1 ≠ 0) : im.sntpPoll.net.bb.sntp = some (1, im.now) ∧
      .sntpQuery (im.reg 0x290B 1) (im.vlanId false) ∈ im.sntpPoll.outs ∧
      im.sntpPoll.net.bb.sntpDue = im.now + 1000 * im.reg 0x290B 3 := by
  have heq : im.sntpPoll = (im.onBb (fun b => { b with sntpDue := im.now + 1000 * im.reg 0x290B 3 })).sntpQuery 1 := by
    have hreg : (im.onBb (fun b => { b with sntpDue := im.now + 1000 * im.reg 0x290B 3 })).reg 0x290B 1 ≠ 0 := hserver
    unfold Image.sntpPoll
    rw [hidle]
    simp [hdue, hserver, hreg]
  rw [heq]
  exact ⟨rfl, List.mem_append_right _ (List.mem_singleton_self _), rfl⟩

/-- The image of an SNTP reply that is valid, before the wall time follows it. -/
def replyTaken (im : Image) : Image :=
  let shown := (im.setReg 0x290B 4 1).onBb (fun b => { b with sntp := none })
  { shown with clk := { shown.clk with lastSntp := some shown.now } }

theorem replyTaken_od (im : Image) : (replyTaken im).od = (im.setReg 0x290B 4 1).od := rfl

theorem replyTaken_reg (im : Image) : (replyTaken im).reg 0x290B 4 = 1 := by
  rw [Image.reg_of_od (replyTaken_od im), Image.reg_setReg_steady im 1 (by decide)]
  decide

theorem replyTaken_ptpLate (im : Image) : (replyTaken im).ptpLate = im.ptpLate := by
  have hlim : (replyTaken im).reg 0x2104 5 = im.reg 0x2104 5 := by
    rw [Image.reg_of_od (replyTaken_od im), Image.reg_setReg_apart im 1 (by decide) (by decide) (by decide)]
  unfold Image.ptpLate
  rw [hlim]
  rfl

/-- A reply in time is shown; it serves only where PTP is silent (R202, the model's log 189). -/
theorem Image.sntpReply_spec {im : Image} {n f utc stratum : Nat} (hq : im.net.bb.sntp = some (n, f))
    (htime : im.now ≤ f + 1000) (h1 : 1 ≤ stratum) (h15 : stratum ≤ 15) :
    let t := im.sntpReply utc stratum false
    t.reg 0x290B 4 = 1 ∧ t.net.bb.sntp = none ∧ t.clk.lastSntp = some im.now ∧
      (im.ptpLate = true → t.clk.source = 2) ∧ (im.ptpLate = false → t.clk.source = im.clk.source) := by
  intro t
  have heq : ∃ utcS off, t = if im.ptpLate = true then ((replyTaken im).takeUtc utcS).discipline 2 off else replyTaken im := by
    refine ⟨(replyTaken im).sreg 0x2104 7, Int.ofNat (replyTaken im).clk.wallUs -
      (Int.ofNat (utc * 1000) + (replyTaken im).sreg 0x2104 7 * 1000000), ?_⟩
    rw [← replyTaken_ptpLate]
    change im.sntpReply utc stratum false = _
    unfold Image.sntpReply
    simp only [hq, if_neg (show ¬ f + 1000 < im.now by omega), h1, h15, decide_true, Bool.and_self, Bool.not_true,
      Bool.or_self, Bool.false_eq_true, if_false]
    change (if (!(replyTaken im).ptpLate) = true then replyTaken im else _) = _
    cases (replyTaken im).ptpLate <;> rfl
  obtain ⟨utcS, off, heq⟩ := heq
  rw [heq]
  split
  next hlate =>
    have hdone := Image.takeUtc_discipline (replyTaken im) utcS 2 off
    exact ⟨(hdone.reg 0x290B 4 (by decide)).trans (replyTaken_reg im), congrArg (·.bb.sntp) hdone.net, hdone.lastSntp,
      fun _ => hdone.source, fun hn => absurd hlate (by simp [hn])⟩
  next hlate => exact ⟨replyTaken_reg im, rfl, rfl, fun hy => absurd hy hlate, fun _ => rfl⟩

/-! ## Both sources silent (R202) -/

theorem Image.sourceTimeout_spec {im : Image} {f g : Nat} (hp : im.clk.lastPtp = some f) (hs : im.clk.lastSntp = some g)
    (hf : f + 1000 * im.reg 0x2104 5 ≤ im.now) (hg : g + 1000 * im.reg 0x2104 5 ≤ im.now) :
    im.sourceTimeout.evActive 26 modScope = true ∧ im.sourceTimeout.clk.ptpRunSince = none ∧
      im.sourceTimeout.clk.source = (if im.clk.source = 3 then 3 else 0) := by
  have heq : ∃ x : Image, im.sourceTimeout = x.raise 26 modScope Source.zero ∧ x.clk.ptpRunSince = none ∧
      x.clk.source = (if im.clk.source = 3 then 3 else 0) := by
    unfold Image.sourceTimeout
    simp only [hp, hs, hf, hg, decide_true, Bool.and_self, if_true]
    refine ⟨_, rfl, rfl, ?_⟩
    by_cases h1 : im.clk.source = 1 <;> simp [h1]
  obtain ⟨x, heq, hrun, hsource⟩ := heq
  have hclk := Image.clk_of_sansEvents (Image.raise_sansEvents x 26 modScope Source.zero (by decide))
  rw [heq, hclk]
  exact ⟨Image.raise_active _ _ _ _ (Image.speaks_mod _ _), hrun, hsource⟩

/-! ## The write of the wall time (R206) -/

/-- The state rule lets a write of the wall time pass where no source disciplines it, or 0x2104:06 lets it. -/
theorem Image.setWall_spec {im : Image} (h : (im.clk.source = 1 ∨ im.clk.source = 2) → im.reg 0x2104 6 ≠ 0) :
    (im.setWall.getD im).clk.source = 3 ∧ (im.setWall.getD im).clk.boundFrom = im.now := by
  have hgo : ¬ ((im.clk.source = 1 || im.clk.source = 2) && im.reg 0x2104 6 = 0) = true := by
    simpa using h
  unfold Image.setWall
  rw [if_neg hgo]
  exact ⟨rfl, rfl⟩

/-- Settles O50: a Sync and a reply by what disciplining the wall time leaves, the timeout by EV26, the write by its row. -/
theorem timeSources : Obligations.TimeSources := by
  unfold Obligations.TimeSources
  intro s hrun
  refine ⟨?sync, ?poll, ?reply, ?timeout, ?back, ?write⟩
  case sync =>
    intro off delay gm utc interval hon hd
    obtain ⟨t, ht, himg⟩ := State.act_running hrun (fun im => im.ptpSync off delay gm utc true interval)
    exact ⟨t, ht, himg ▸ Image.ptpSync_spec (im := s.hush.img) hon hd⟩
  case poll =>
    intro hidle hdue hserver
    obtain ⟨t, ht, himg⟩ := State.act_running hrun Image.sntpPoll
    exact ⟨t, ht, himg ▸ Image.sntpPoll_spec (im := s.hush.img) hidle hdue hserver⟩
  case reply =>
    intro n f utc stratum hq htime h1 h15
    obtain ⟨t, ht, himg⟩ := State.act_running hrun (fun im => im.sntpReply utc stratum false)
    exact ⟨t, ht, himg ▸ Image.sntpReply_spec (im := s.hush.img) hq htime h1 h15⟩
  case timeout =>
    intro f g hp hs hf hg
    obtain ⟨t, ht, himg⟩ := State.act_running hrun Image.sourceTimeout
    exact ⟨t, ht, himg ▸ Image.sourceTimeout_spec (im := s.hush.img) hp hs hf hg⟩
  case back =>
    intro hsntp hvalid hrunSince
    obtain ⟨t, ht, honly, himg⟩ := State.act_running_imageOnly hrun Image.ptpReturn
    have hback : s.hush.img.ptpReturn = { s.img with outs := [], clk := { s.img.clk with source := 1 } } := if_pos (by
      simp only [Bool.and_eq_true, decide_eq_true_eq]
      exact ⟨⟨hsntp, hvalid⟩, hrunSince⟩)
    exact ⟨t, ht, honly, himg.trans hback⟩
  case write =>
    intro p h hfree
    obtain ⟨t, ht, himg, howes⟩ := State.serve_writeRow_guarded h (by decide) (by decide) (by decide)
      (f := fun im => im.setWall.getD im) (fun _ => rfl)
    obtain ⟨hsource, hbound⟩ := Image.setWall_spec (im := s.hush.img.touchAuth p) hfree
    exact ⟨t, ht, by rw [himg]; exact hsource, by rw [himg]; exact hbound, howes⟩

end Sys2Proof.Machine.Clocks
end

section
/-! Missed deadlines, lane faults and injections (R185, R190, R191, R355, R357, R358, R362). -/

namespace Sys2Proof.Machine.Clocks
open ReleaseLoop

/-! ## What belongs to a lane -/

@[simp] theorem PerLane.get_on_same {α : Type} (x : PerLane α) (l : Lane) (f : α → α) : (x.on l f).get l = f (x.get l) := by
  cases l <;> rfl

/-! ## What a report and a block that is sent leave -/

@[simp] theorem State.report_lanes (s : State) (f : Image → Image) : (s.report f).lanes = s.lanes := by
  unfold State.report
  split <;> rfl

@[simp] theorem State.report_powered (s : State) (f : Image → Image) : (s.report f).powered = s.powered := by
  unfold State.report
  split <;> rfl

@[simp] theorem State.report_buckle (s : State) (f : Image → Image) : (s.report f).buckle = s.buckle := by
  unfold State.report
  split <;> rfl

/-- The state without what sending blocks changes: the numbers and the flights of the Seam, the counts and the record of what was
sent. -/
def sansBlocks (s : State) : State :=
  { s with img := { s.img with od := [], outs := [] }, seam := { s.seam with flights := [], nextSeq := ⟨0, 0⟩ } }

theorem State.sendOn_sansBlocks (s : State) (l : Lane) (k : Link) (body : BlockBody) (h : BlockHead) (payload : Option Bytes) :
    sansBlocks (s.sendOn l k body h payload) = sansBlocks s := by
  unfold State.sendOn
  dsimp only
  split <;> rfl

/-- A fold of steps that each keep a view keeps it. -/
theorem foldl_keeps {σ α β : Type} (view : σ → β) {f : σ → α → σ} (h : ∀ s a, view (f s a) = view s) (xs : List α) (s : σ) :
    view (xs.foldl f s) = view s := by
  induction xs generalizing s with
  | nil => rfl
  | cons a xs ih => exact (ih (f s a)).trans (h s a)

theorem lanes_of_sansBlocks {s t : State} (h : sansBlocks t = sansBlocks s) : t.lanes = s.lanes :=
  show (sansBlocks t).lanes = (sansBlocks s).lanes by rw [h]

theorem buckle_of_sansBlocks {s t : State} (h : sansBlocks t = sansBlocks s) : t.buckle = s.buckle :=
  show (sansBlocks t).buckle = (sansBlocks s).buckle by rw [h]

theorem ev_of_sansBlocks {s t : State} (h : sansBlocks t = sansBlocks s) : t.img.ev = s.img.ev :=
  show (sansBlocks t).img.ev = (sansBlocks s).img.ev by rw [h]

/-! ## An occurrence stands beside others -/

theorem Image.shown_of_ev {a b : Image} (h : a.ev = b.ev) (n : Nat) (scope : Fin 13) : a.shown n scope = b.shown n scope := by
  rw [Image.shown, Image.shown, h]

theorem Image.occur_shown_of_shown {im : Image} {k : Nat} (n : Nat) (src : Source) (h : im.shown k modScope = true) :
    (im.occur n modScope src).shown k modScope = true := by
  by_cases hk : k = n
  · subst hk
    exact Image.occur_shown im k modScope src (Image.speaks_mod im k)
  · rw [Image.occur, if_neg (by simp), Image.shown, Image.note_scopes]
    simpa [Image.shown, Image.onScope, upd_get_same, EvState.found, hk] using h

theorem Image.draft_shown (im : Image) (d : Draft) (n : Nat) (scope : Fin 13) :
    (im.draft d).shown n scope = im.shown n scope := rfl

/-! ## A lane fault (R357) -/

/-- A fault that is counted, and in the first 10 s of operation a failed start too (R370). -/
def faultCounted (s : State) (l : Lane) (f : FaultLatch) (early : Bool) : State :=
  let s := s.countFault l f
  if early then
    (s.report (fun im => ((im.setReg (startObj l) 6 9).bump (startObj l) 0x0A).occur 17 modScope ⟨0, 9, l.code⟩)).powerUpRecord l 17 false
  else s

/-- A lane whose fault has halted it. -/
def faultMarked (f : FaultLatch) (op : Nat) (x : LaneState) : LaneState :=
  { x with faulted := true, latch := some f, reported := (0, 0), faults := if x.st = .operational then x.faults ++ [op] else x.faults }

/-- Its report goes out on a link that is up. -/
def faultSent (l : Lane) (f : FaultLatch) (c : Clock) (s : State) (k : Link) : State :=
  if s.seam.up k then
    s.sendOn l k (.fault ⟨f.event, f.checker, f.unit, f.group⟩) ⟨c.frame, 0, 1⟩ (some (c.faultPayload f.event f.checker f.unit f.group))
  else s

theorem State.laneFault_eq {s : State} {l : Lane} (hp : s.powered = true) (hop : (s.lanes.get l).st = .operational)
    (hnf : (s.lanes.get l).faulted = false) (event checker unit group : Nat) : ∃ early,
    s.laneFault l event checker unit group =
      let f : FaultLatch := ⟨event, checker, unit, group, s.img.clk.frame, s.img.clk.stitch⟩
      [Link.one, Link.two].foldl (faultSent l f s.img.clk)
        (((faultCounted s l f early).onLane l (faultMarked f s.img.clk.opMs)).onBuckle
          (fun b => { b with request := b.request.on l (fun _ => false) })) := by
  refine ⟨match (s.lanes.get l).opAt with | some t => decide (s.img.clk.opMs < t + 10000) | none => false, ?_⟩
  unfold State.laneFault
  rw [if_neg (by simp [hp, hnf]), hop]
  rfl

theorem faultSent_sansBlocks (l : Lane) (f : FaultLatch) (c : Clock) (s : State) (k : Link) :
    sansBlocks (faultSent l f c s k) = sansBlocks s := by
  unfold faultSent
  split
  · exact State.sendOn_sansBlocks _ _ _ _ _ _
  · rfl

theorem State.countFault_ev (s : State) (l : Lane) (f : FaultLatch) : (s.countFault l f).img.ev = s.img.ev := by
  unfold State.countFault
  rw [State.report_img]
  split
  · rfl
  · split <;> rfl

theorem faultCounted_lanes (s : State) (l : Lane) (f : FaultLatch) (early : Bool) : (faultCounted s l f early).lanes = s.lanes := by
  unfold faultCounted
  split <;> simp [State.countFault, State.powerUpRecord]

theorem faultCounted_shown {s : State} (l : Lane) (f : FaultLatch) (early : Bool) {n : Nat}
    (h : s.img.shown n modScope = true) : (faultCounted s l f early).img.shown n modScope = true := by
  have hc : (s.countFault l f).img.shown n modScope = true := (Image.shown_of_ev (State.countFault_ev s l f) n modScope).trans h
  unfold faultCounted
  split
  · rw [State.powerUpRecord, State.edit_img, Image.draft_shown, State.report_img]
    refine Image.occur_shown_of_shown 17 _ ?_
    rwa [Image.shown_of_ev ((Image.bump_ev _ _ _).trans (Image.setReg_ev _ _ _ _))]
  · exact hc

/-- What a fault of an operational lane leaves: it stands in the latch, the lane asks for no grant, its last overrun and its
injections are as they were, and so is every occurrence shown. -/
theorem State.laneFault_spec {s : State} {l : Lane} (hp : s.powered = true) (hop : (s.lanes.get l).st = .operational)
    (hnf : (s.lanes.get l).faulted = false) (event checker unit group : Nat) :
    let t := s.laneFault l event checker unit group
    (t.lanes.get l).faulted = true ∧ t.buckle.request.get l = false ∧
      (t.lanes.get l).latch = some ⟨event, checker, unit, group, s.img.clk.frame, s.img.clk.stitch⟩ ∧
      (t.lanes.get l).overran = (s.lanes.get l).overran ∧
      (∀ n, s.img.shown n modScope = true → t.img.shown n modScope = true) := by
  intro t
  obtain ⟨early, heq⟩ := State.laneFault_eq hp hop hnf event checker unit group
  have hsame := (congrArg sansBlocks heq).trans (foldl_keeps sansBlocks (faultSent_sansBlocks _ _ _) _ _)
  have hlane : t.lanes.get l = faultMarked ⟨event, checker, unit, group, s.img.clk.frame, s.img.clk.stitch⟩ s.img.clk.opMs
      (s.lanes.get l) := by
    rw [lanes_of_sansBlocks hsame, State.onBuckle_lanes, State.onLane_lanes, PerLane.get_on_same, faultCounted_lanes]
  rw [hlane]
  refine ⟨rfl, ?_, rfl, rfl, fun n h => ?_⟩
  · rw [buckle_of_sansBlocks hsame]
    exact PerLane.get_on_same _ _ _
  · rw [Image.shown_of_ev (ev_of_sansBlocks hsame)]
    exact faultCounted_shown l _ early h

/-! ## A missed deadline (R190, R191) -/

/-- The lane has overrun the frame before. -/
def overranBefore (x : LaneState) (now : Nat) : Bool :=
  match x.overran with
  | some (f, _) => decide (f + 1 = now)
  | none => false

theorem overranBefore_of {x : LaneState} {now f : Nat} {b : Bool} (h : x.overran = some (f, b)) (hf : f + 1 = now) :
    overranBefore x now = true := by
  rw [overranBefore, h]
  exact decide_eq_true hf

/-- An overrun shows EV06 and is noted; the second frame in a row is a lane fault. -/
theorem State.countOverrun_spec {s : State} {l : Lane} (hp : s.powered = true) (hop : (s.lanes.get l).st = .operational)
    (hnf : (s.lanes.get l).faulted = false) (cause : Nat) :
    let t := s.countOverrun l cause
    t.img.shown 6 modScope = true ∧ (t.lanes.get l).overran = some (s.img.now, cause == 2) ∧
      (∀ b : Bool, ∀ f : Nat, (s.lanes.get l).overran = some (f, b) → f + 1 = s.img.now →
        (t.lanes.get l).faulted = true ∧ t.buckle.request.get l = false) := by
  intro t
  let u : State := (s.report (fun im => (im.bump 0x2100 (5 + cause)).occur 6 modScope ⟨0, cause, 0⟩)).onLane l
    (fun x => { x with overran := some (s.img.now, cause == 2) })
  have hlane : u.lanes.get l = { s.lanes.get l with overran := some (s.img.now, cause == 2) } := by
    simp only [u, State.onLane_lanes, State.report_lanes, PerLane.get_on_same]
  have hshown : u.img.shown 6 modScope = true := by
    simp only [u, State.onLane_img, State.report_img]
    exact Image.occur_shown _ 6 modScope _ (Image.speaks_mod _ _)
  obtain ⟨hfault, hask, -, hkept, hstays⟩ := State.laneFault_spec (s := u) (l := l)
    (by simp only [u, State.onLane_powered, State.report_powered, hp]) (by rw [hlane]; exact hop) (by rw [hlane]; exact hnf)
    (if u.granted == some l then 7 else 8) 0 0 0
  have ht : t = if overranBefore (s.lanes.get l) s.img.now = true
      then u.laneFault l (if u.granted == some l then 7 else 8) 0 0 0 else u := rfl
  rw [ht]
  split
  next => exact ⟨hstays 6 hshown, hkept.trans (by rw [hlane]), fun _ _ _ _ => ⟨hfault, hask⟩⟩
  next hfirst => exact ⟨hshown, by rw [hlane], fun _ _ hov hf => absurd (overranBefore_of hov hf) hfirst⟩

/-- What a missed deadline does before it is counted leaves the lanes and the frame (R190). -/
theorem State.frameOverrun_eq {s : State} {l : Lane} (hp : s.powered = true) (hop : (s.lanes.get l).st = .operational)
    (hnf : (s.lanes.get l).faulted = false) (w : Deadline) : ∃ u : State,
    s.frameOverrun l w = u.countOverrun l (if w = .first then 1 else 2) ∧ u.lanes = s.lanes ∧ u.powered = s.powered ∧
      u.img.now = s.img.now := by
  unfold State.frameOverrun
  rw [if_neg (by simp [hp, hop, hnf])]
  cases w with
  | first =>
    refine ⟨_, rfl, ?_⟩
    split
    · split
      · exact ⟨rfl, rfl, rfl⟩
      · exact ⟨rfl, rfl, rfl⟩
    · exact ⟨rfl, rfl, rfl⟩
  | second =>
    refine ⟨_, rfl, ?_⟩
    split <;> exact ⟨rfl, rfl, rfl⟩

/-! ## An injection that is due (R362) -/

/-- A lane whose injection has been taken: the next is 600 s on. -/
def injectionTaken (s : State) (l : Lane) : State := s.onLane l (fun x => { x with injDue := x.injDue + 600000 })

@[simp] theorem injectionTaken_lane (s : State) (l : Lane) : (injectionTaken s l).lanes.get l =
    { s.lanes.get l with injDue := (s.lanes.get l).injDue + 600000 } := PerLane.get_on_same _ _ _

/-- An operational lane runs the injection that is due, in a frame that is no survey frame and carries nothing over. -/
theorem State.inject_eq {s : State} {l : Lane} (hp : s.powered = true) (hop : (s.lanes.get l).st = .operational)
    (hnf : (s.lanes.get l).faulted = false) (hdue : (s.lanes.get l).injDue ≤ s.img.clk.opMs)
    (hsurvey : s.img.clk.frame % 64 ≠ 0) (hov : (s.lanes.get l).overran = none) (r : Injection) : s.inject l r =
      match r with
      | .passed => ((injectionTaken s l).report (fun im => im.bump (lockstepObj l) 5)).onLane l
          (fun x => { x with injLast := s.img.clk.opMs })
      | .rawMissing unit group checker => (injectionTaken s l).laneFault l 14 (wrap 8 checker) (wrap 8 unit) (wrap 8 group)
      | .residual unit group => (injectionTaken s l).laneFault l 13 3 (wrap 8 unit) (wrap 8 group) := by
  unfold State.inject
  rw [if_neg (by simp [hp, hop, hnf, hov, hsurvey, hdue])]
  cases r <;> rfl

/-- An injection that passes is noted (R362). -/
theorem State.inject_passed {s : State} {l : Lane} (hp : s.powered = true) (hop : (s.lanes.get l).st = .operational)
    (hnf : (s.lanes.get l).faulted = false) (hdue : (s.lanes.get l).injDue ≤ s.img.clk.opMs)
    (hsurvey : s.img.clk.frame % 64 ≠ 0) (hov : (s.lanes.get l).overran = none) :
    (s.inject l .passed).lanes.get l = { s.lanes.get l with
      injDue := (s.lanes.get l).injDue + 600000, injLast := s.img.clk.opMs } := by
  rw [State.inject_eq hp hop hnf hdue hsurvey hov]
  simp only [State.onLane_lanes, State.report_lanes, PerLane.get_on_same, injectionTaken_lane]

/-- Settles O35: a missed deadline by its count, the three checks and a failed injection by the lane fault. -/
theorem laneFaultRules : Obligations.LaneFaultRules := by
  unfold Obligations.LaneFaultRules
  intro s l hp hop hnf
  have hfault := fun event checker unit group =>
    State.laneFault_spec (s := s.hush) (l := l) hp hop hnf event checker unit group
  refine ⟨?deadline, ?slice, ?lockstep, ?memory, ?injection⟩
  case deadline =>
    intro w
    obtain ⟨u, heq, hlanes, hpow, hnow⟩ := State.frameOverrun_eq (s := s.hush) (l := l) hp hop hnf w
    have hspec := State.countOverrun_spec (s := u) (l := l) (hpow.trans hp) (by rw [hlanes]; exact hop)
      (by rw [hlanes]; exact hnf) (if w = .first then 1 else 2)
    rw [← heq, hnow, hlanes] at hspec
    obtain ⟨hshown, hnoted, hagain⟩ := hspec
    exact ⟨_, rfl, hshown, hnoted.trans (by cases w <;> rfl), hagain⟩
  case slice =>
    intro k
    obtain ⟨hf, hask, hlatch, -, -⟩ := hfault (if s.granted == some l then 7 else 8) 0 (k.val + 1) 0
    have hrow : s.hush.watchdog l k = s.hush.laneFault l (if s.granted == some l then 7 else 8) 0 (k.val + 1) 0 := if_pos hop
    refine ⟨s.hush.watchdog l k, rfl, ?_⟩
    rw [hrow]
    exact ⟨hf, hask, hlatch.trans (by simp)⟩
  case lockstep =>
    intro unit group checker
    obtain ⟨hf, hask, hlatch, -, -⟩ := hfault 13 (checker.val + 1) unit.val group.val
    exact ⟨_, rfl, hf, hask, hlatch⟩
  case memory =>
    have hrow : s.hush.memoryFault l = (s.hush.report (fun im => im.bump (lockstepObj l) 9)).laneFault l
        (if s.granted == some l then 7 else 8) 0 0 0 := if_neg (by simp [hp, hnf, hop])
    obtain ⟨hf, hask, hlatch, -, -⟩ := State.laneFault_spec (s := s.hush.report (fun im => im.bump (lockstepObj l) 9)) (l := l)
      (by simp [hp]) (by simp [hop]) (by simp [hnf]) (if s.granted == some l then 7 else 8) 0 0 0
    refine ⟨s.hush.memoryFault l, rfl, ?_⟩
    rw [hrow]
    refine ⟨hf, hask, hlatch.trans ?_⟩
    rw [State.report_img]
    simp [Image.bump, Image.setReg]
  case injection =>
    intro hdue hsurvey hov
    have hrow := State.inject_eq (s := s.hush) (l := l) hp hop hnf hdue hsurvey hov
    have hfails := fun event checker unit group => State.laneFault_spec (s := injectionTaken s.hush l) (l := l) hp
      (by simp [hop]) (by simp [hnf]) event checker unit group
    refine ⟨⟨s.hush.inject l .passed, rfl, ?_⟩, fun u g k => ⟨s.hush.inject l (.rawMissing u g k), rfl, ?_⟩,
      fun u g => ⟨s.hush.inject l (.residual u g), rfl, ?_⟩⟩
    · rw [State.inject_passed (s := s.hush) hp hop hnf hdue hsurvey hov]
      exact ⟨rfl, rfl, hnf⟩
    · obtain ⟨hf, -, hlatch, -, -⟩ := hfails 14 (wrap 8 k) (wrap 8 u) (wrap 8 g)
      rw [hrow]
      exact ⟨hf, hlatch⟩
    · obtain ⟨hf, -, hlatch, -, -⟩ := hfails 13 3 (wrap 8 u) (wrap 8 g)
      rw [hrow]
      exact ⟨hf, hlatch⟩

end Sys2Proof.Machine.Clocks
end

section
/-! What the outputs of the module leave of the commits that wait (R319, R320). -/

namespace Sys2Proof.Machine.Clocks
open ReleaseLoop

/-! ## The ledger part of the image -/

@[simp] theorem Image.setReg_commit (im : Image) (idx sub v : Nat) : (im.setReg idx sub v).commit = im.commit := rfl
@[simp] theorem Image.bump_commit (im : Image) (idx sub : Nat) : (im.bump idx sub).commit = im.commit := by
  rw [Image.bump, Image.setReg_commit]
@[simp] theorem Image.bumpD_commit (im : Image) (d : Door) (off sub : Nat) : (im.bumpD d off sub).commit = im.commit := by
  rw [Image.bumpD, Image.bump_commit]
@[simp] theorem Image.setDreg_commit (im : Image) (d : Door) (off sub v : Nat) : (im.setDreg d off sub v).commit = im.commit := rfl
@[simp] theorem Image.bumpC_commit (im : Image) (c : Chan) (off sub : Nat) : (im.bumpC c off sub).commit = im.commit := by
  rw [Image.bumpC, Image.bump_commit]
@[simp] theorem Image.setCreg_commit (im : Image) (c : Chan) (off sub v : Nat) : (im.setCreg c off sub v).commit = im.commit := rfl
@[simp] theorem Image.onDoor_commit (im : Image) (d : Door) (f : Doorway → Doorway) : (im.onDoor d f).commit = im.commit := rfl
@[simp] theorem Image.onChan_commit (im : Image) (c : Chan) (f : Channel → Channel) : (im.onChan c f).commit = im.commit := rfl
@[simp] theorem Image.onSide_commit (im : Image) (side : Side) (f : SideState → SideState) : (im.onSide side f).commit = im.commit := rfl
@[simp] theorem Image.onServer_commit (im : Image) (k : Fin 2) (f : SdoServer → SdoServer) : (im.onServer k f).commit = im.commit := rfl
@[simp] theorem Image.send_commit (im : Image) (o : Out) : (im.send o).commit = im.commit := rfl
@[simp] theorem Image.draft_commit (im : Image) (d : Draft) : (im.draft d).commit = im.commit := rfl
@[simp] theorem Image.setMask_commit (im : Image) (m : Nat) : (im.setMask m).commit = im.commit := rfl

@[simp] theorem Image.onPort_commit (im : Image) (q : Port) (f : CanPort → CanPort) : (im.onPort q f).commit = im.commit := by
  cases q <;> rfl

@[simp] theorem Image.raise_commit (im : Image) {n : Nat} (scope : Fin 13) (src : Source) (hn : n < 255) :
    (im.raise n scope src).commit = im.commit := Image.commit_of_sansEvents (Image.raise_sansEvents im n scope src hn)

@[simp] theorem Image.clearEv_commit (im : Image) {n : Nat} (scope : Fin 13) (src : Source) (hn : n < 255) :
    (im.clearEv n scope src).commit = im.commit := Image.commit_of_sansEvents (Image.clearEv_sansEvents im n scope src hn)

@[simp] theorem Image.occur_commit (im : Image) {n : Nat} (scope : Fin 13) (src : Source) (hn : n < 255) :
    (im.occur n scope src).commit = im.commit := Image.commit_of_sansEvents (Image.occur_sansEvents im n scope src hn)

/-! ## Answers, and what lands in a stitch -/

@[simp] theorem Image.endRequest_commit (im : Image) (q : Port) (k : Fin 32) (o : Outcome) :
    (im.endRequest q k o).commit = im.commit := by
  unfold Image.endRequest
  split <;> simp

@[simp] theorem Image.submit_commit (im : Image) (q : Port) (k : Fin 32) (r : Request) :
    (im.submit q k r).commit = im.commit := by simp [Image.submit, apply_ite Image.commit]

@[simp] theorem Image.resubmit_commit (im : Image) (q : Port) (k : Fin 32) (r : Request) :
    (im.resubmit q k r).commit = im.commit := by simp [Image.resubmit, apply_ite Image.commit]

@[simp] theorem Image.sdoFrame_commit (im : Image) (k : Fin 2) (data : Bytes) : (im.sdoFrame k data).commit = im.commit := by
  unfold Image.sdoFrame
  split <;> simp

@[simp] theorem Image.sdoAnswer_commit (im : Image) (p : Path) (idx sub code : Nat) :
    (im.sdoAnswer p idx sub code).commit = im.commit := by
  unfold Image.sdoAnswer
  split
  · rfl
  · simp [apply_ite Image.commit]

@[simp] theorem Image.gatewayReply_commit (im : Image) (p : Path) (code : Nat) (data : Bytes) :
    (im.gatewayReply p code data).commit = im.commit := by
  unfold Image.gatewayReply
  dsimp only
  split <;> rfl

@[simp] theorem Image.reply_commit (im : Image) (p : Path) (idx sub code : Nat) (data : Bytes) :
    (im.reply p idx sub code data).commit = im.commit := by
  unfold Image.reply
  split <;> simp [Image.answer]

@[simp] theorem Image.sendAnswers_commit (im : Image) (xs : List Answer) : (im.sendAnswers xs).commit = im.commit :=
  foldl_keeps Image.commit (fun _ _ => Image.reply_commit _ _ _ _ _ _) xs im

@[simp] theorem Image.applyAction_commit (im : Image) (a : LedgerAction) : (im.applyAction a).commit = im.commit := by
  cases a <;> simp [Image.applyAction, apply_ite Image.commit]

@[simp] theorem Image.switchChan_commit (im : Image) (c : Chan) : (im.switchChan c).commit = im.commit := by
  simp [Image.switchChan, Image.switchOn, apply_ite Image.commit]

@[simp] theorem Image.unlockChans_commit (im : Image) (as : List LedgerAction) : (im.unlockChans as).commit = im.commit := by
  refine foldl_keeps Image.commit (fun im a => ?_) as im
  split
  · exact foldl_keeps Image.commit (fun im n => by simp [apply_ite Image.commit]) _ im
  · rfl

@[simp] theorem Image.land_commit (im : Image) (as : List LedgerAction) : (im.land as).commit = im.commit := by
  have hpublish : ∀ (im : Image) (a : LedgerAction), (match a.door? with
      | some d => im.onDoor d Doorway.publish
      | none => im).commit = im.commit := by
    intro im a
    split <;> rfl
  calc (im.land as).commit = ((im.applyActions as).unlockChans as).commit := foldl_keeps Image.commit hpublish as _
    _ = (im.applyActions as).commit := Image.unlockChans_commit _ as
    _ = im.commit := foldl_keeps Image.commit Image.applyAction_commit as im

/-- What a new active takes account of with its first commit (R268). -/
@[simp] theorem Image.seeChan_commit (im : Image) (c : Chan) : (im.seeChan c).commit = im.commit := by
  simp [Image.seeChan, Image.tripSeen, Image.thermalSeen, apply_ite Image.commit]

/-! ## The commits that wait -/

/-- The frame whose commits take effect in the next stitch, and the commits that wait for an acknowledgement. -/
def waits (s : State) : Option Nat × List CommitRec := (s.landing, s.img.commit.out)

theorem waits_of_sansBlocks {s t : State} (h : sansBlocks t = sansBlocks s) : waits t = waits s :=
  show waits (sansBlocks t) = waits (sansBlocks s) by rw [h]

theorem waits_edit (s : State) {f : Image → Image} (h : ∀ im, (f im).commit = im.commit) : waits (s.edit f) = waits s := by
  unfold waits
  rw [State.edit_landing, State.edit_img, h]

@[simp] theorem State.report_landing (s : State) (f : Image → Image) : (s.report f).landing = s.landing := by
  unfold State.report
  split <;> rfl

@[simp] theorem State.report_owner (s : State) (f : Image → Image) : (s.report f).owner = s.owner := by
  unfold State.report
  split <;> rfl

theorem waits_report (s : State) {f : Image → Image} (h : ∀ im, (f im).commit = im.commit) : waits (s.report f) = waits s := by
  unfold waits
  rw [State.report_landing, State.report_img, h]

theorem State.sendBlock_sansBlocks (s : State) (l : Lane) (body : BlockBody) (h : BlockHead) (payload : Option Bytes) :
    sansBlocks (s.sendBlock l body h payload) = sansBlocks s := by
  unfold State.sendBlock
  split
  · rfl
  · exact State.sendOn_sansBlocks _ _ _ _ _ _

@[simp] theorem waits_onSeam (s : State) (f : Seam → Seam) : waits (s.onSeam f) = waits s := rfl
@[simp] theorem waits_onLane (s : State) (l : Lane) (f : LaneState → LaneState) : waits (s.onLane l f) = waits s := rfl
@[simp] theorem waits_onBuckle (s : State) (f : Buckle → Buckle) : waits (s.onBuckle f) = waits s := rfl
@[simp] theorem waits_onMirror (s : State) (f : Mirror → Mirror) : waits (s.onMirror f) = waits s := rfl

theorem waits_sendBlock (s : State) (l : Lane) (body : BlockBody) (h : BlockHead) (payload : Option Bytes) :
    waits (s.sendBlock l body h payload) = waits s := waits_of_sansBlocks (State.sendBlock_sansBlocks s l body h payload)

theorem waits_sendMany (s : State) (l : Lane) (body : BlockBody) (from_ n count : Nat) :
    waits (s.sendMany l body from_ n count) = waits s :=
  foldl_keeps waits (fun _ _ => waits_sendBlock _ _ _ _ _) _ s

theorem waits_sendCopy (s : State) (l : Lane) : waits (s.sendCopy l) = waits s := by
  have hrest : ∀ u : State, waits (match u.seam.copyNext with
      | some n =>
        let rate := if u.seam.upCount = 1 then min 24 (u.img.reg 0x2204 2) else u.img.reg 0x2204 2
        let k := min rate (4096 - n)
        if u.seam.upCount = 0 then u
        else (u.sendMany l .image n k 4096).onSeam (fun m => { m with copyNext := if n + k = 4096 then none else some (n + k) })
      | none => u) = waits u := by
    intro u
    split
    · simp only [apply_ite waits, waits_onSeam, waits_sendMany, ite_self]
    · rfl
  unfold State.sendCopy
  refine (hrest _).trans ?_
  split
  · rw [waits_onSeam, waits_sendBlock]
  · rfl

theorem waits_sendDigests (s : State) (l : Lane) : waits (s.sendDigests l) = waits s := by
  unfold State.sendDigests
  dsimp only
  split <;> simp only [apply_ite waits, waits_onSeam, waits_sendMany, ite_self]

/-- The release of a frame sends, and takes nothing into effect by itself (R187). -/
theorem waits_releaseFrame (s : State) (l : Lane) : waits (s.releaseFrame l) = waits s := by
  unfold State.releaseFrame
  split
  · rfl
  · dsimp only
    rw [waits_sendDigests, waits_sendCopy, waits_sendBlock, waits_sendMany,
      foldl_keeps waits (fun _ _ => waits_sendBlock _ _ _ _ _), waits_sendMany]
    rfl

/-! ## Released commits take effect (R319, R320) -/

theorem takeEffect_commit (s : State) (cs : List CommitRec) (view : Image) (stitch : Nat) :
    (s.takeEffect cs view stitch).landing = s.landing ∧ (s.takeEffect cs view stitch).img.commit = s.img.commit := by
  unfold State.takeEffect
  dsimp only
  split <;> simp [apply_ite Image.commit]

/-- The commits up to a frame wait no longer. -/
theorem State.settle_waits (s : State) (frame : Nat) :
    waits (s.settle frame) = (s.landing, s.img.commit.out.filter (fun c => !decide (c.frame ≤ frame))) := by
  unfold State.settle
  dsimp only
  split
  next hnone =>
    have hall : s.img.commit.out.filter (fun c => !decide (c.frame ≤ frame)) = s.img.commit.out := by
      rw [List.filter_eq_self]
      rw [List.getLast?_eq_none_iff, List.filter_eq_nil_iff] at hnone
      simpa using hnone
    rw [hall]
    rfl
  next =>
    have hkept := fun u cs view stitch => takeEffect_commit u cs view stitch
    split <;> exact Prod.ext (hkept _ _ _ _).1 (congrArg (·.out) (hkept _ _ _ _).2)

/-- A new active's first commit takes no commit with it. -/
theorem waits_firstCommit (s : State) : waits s.firstCommit = waits s := by
  unfold State.firstCommit
  split
  · split
    · exact waits_edit _ (fun im => foldl_keeps Image.commit Image.seeChan_commit _ im)
    · rfl
  · rfl

/-- Every commit that waits is of a frame after `f`, and none is to take effect in the next stitch. -/
def landed (f : Nat) (w : Option Nat × List CommitRec) : Prop := w.1 = none ∧ ∀ c ∈ w.2, f < c.frame

theorem landed_settle {s : State} {f : Nat} (h : s.landing = none) : landed f (waits (s.settle f)) := by
  rw [State.settle_waits]
  refine ⟨h, fun c hc => ?_⟩
  have hlate := (List.mem_filter.mp hc).2
  simpa using hlate

theorem landed_settle_of_landed {s : State} {f : Nat} (frame : Nat) (h : landed f (waits s)) :
    landed f (waits (s.settle frame)) := by
  rw [State.settle_waits]
  exact ⟨h.1, fun c hc => h.2 c (List.mem_filter.mp hc).1⟩

/-- The stitch after an acknowledgement releases the commits up to it; the release of a frame only adds to them. -/
theorem State.landStitch_landed {s : State} {l : Lane} {f : Nat} (hl : s.activeLane = some l) (hf : s.landing = some f) :
    landed f (waits s.landStitch) := by
  have hdone : landed f (waits ({ s with landing := none }.settle f)) := landed_settle rfl
  unfold State.landStitch
  rw [hl, hf]
  dsimp only
  split
  · split
    · exact hdone
    · split
      · rw [waits_firstCommit]
        exact landed_settle_of_landed _ (by rw [waits_releaseFrame]; exact hdone)
      · rw [waits_releaseFrame]
        exact hdone
  · exact hdone

/-! ## The rest of the stitch -/

/-- Section H moves no commit (R186). -/
theorem waits_finishWork (s : State) : waits s.finishWork = waits s := by
  have hmirror : ∀ u : State, waits u.mirrorFrame = waits u := by
    intro u
    unfold State.mirrorFrame
    simp only [apply_ite waits, waits_onMirror, ite_self,
      waits_edit _ (fun im => Image.clearEv_commit im (n := 39) modScope Source.zero (by decide))]
  have hstores : ∀ (im : Image) (a b : Store), (im.storeEvent a b).commit = im.commit := by
    intro im a b
    simp [Image.storeEvent, apply_ite Image.commit]
  unfold State.finishWork
  split
  next w _ =>
    have hsection : waits (s.sectionH w.cycles) = waits s := by
      unfold State.sectionH
      dsimp only
      rw [hmirror, waits_edit _ (fun im => by simp [apply_ite Image.commit, hstores])]
      rfl
    exact hsection
  next => rfl

theorem waits_workStitch (s : State) : waits s.workStitch = waits s := by
  unfold State.workStitch
  split
  · rw [apply_ite waits, waits_finishWork, ite_self]
  · rfl

theorem faultCounted_waits (s : State) (l : Lane) (f : FaultLatch) (early : Bool) :
    waits (faultCounted s l f early) = waits s := by
  have hcount : waits (s.countFault l f) = waits s :=
    waits_report s (fun im => by simp [apply_ite Image.commit])
  unfold faultCounted
  dsimp only
  split
  · rw [State.powerUpRecord, waits_edit _ (fun im => Image.draft_commit im _), waits_report _ (fun im => by simp), hcount]
  · exact hcount

/-- An overrun of an operational lane moves no commit, nor does the lane fault it may be. -/
theorem waits_countOverrun {s : State} {l : Lane} (hp : s.powered = true) (hop : (s.lanes.get l).st = .operational)
    (hnf : (s.lanes.get l).faulted = false) (cause : Nat) : waits (s.countOverrun l cause) = waits s := by
  let u : State := (s.report (fun im => (im.bump 0x2100 (5 + cause)).occur 6 modScope ⟨0, cause, 0⟩)).onLane l
    (fun x => { x with overran := some (s.img.now, cause == 2) })
  have hu : waits u = waits s := (waits_onLane _ _ _).trans (waits_report s (fun im => by simp))
  have hlane : u.lanes.get l = { s.lanes.get l with overran := some (s.img.now, cause == 2) } := by
    simp only [u, State.onLane_lanes, State.report_lanes, PerLane.get_on_same]
  obtain ⟨early, heq⟩ := State.laneFault_eq (s := u) (l := l)
    (by simp only [u, State.onLane_powered, State.report_powered, hp]) (by rw [hlane]; exact hop) (by rw [hlane]; exact hnf)
    (if u.granted == some l then 7 else 8) 0 0 0
  have hfault : waits (u.laneFault l (if u.granted == some l then 7 else 8) 0 0 0) = waits s := by
    rw [heq]
    dsimp only
    rw [foldl_keeps waits (fun _ _ => waits_of_sansBlocks (faultSent_sansBlocks _ _ _ _ _)), waits_onBuckle, waits_onLane,
      faultCounted_waits, hu]
  have ht : s.countOverrun l cause = if overranBefore (s.lanes.get l) s.img.now = true
      then u.laneFault l (if u.granted == some l then 7 else 8) 0 0 0 else u := rfl
  rw [ht, apply_ite waits, hfault, hu, ite_self]

theorem State.activeLane_powered {s : State} {l : Lane} (h : s.activeLane = some l) : s.powered = true :=
  (State.active_rail h).1

theorem State.standbyUp_iff {s : State} {l : Lane} (h : s.activeLane = some l) : s.standbyUp = true ↔
    (s.lanes.get l.other).st = .operational ∧ (s.lanes.get l.other).faulted = false := by
  simp [State.standbyUp, h]

theorem waits_lateCommit (s : State) : waits s.lateCommit = waits s := by
  unfold State.lateCommit
  split
  · rfl
  next l hl =>
    dsimp only
    split
    next hlate =>
      simp only [Bool.and_eq_true] at hlate
      obtain ⟨hop, hnf⟩ := (State.standbyUp_iff hl).mp hlate.1.1
      have hover := fun g : Seam → Seam =>
        waits_countOverrun (s := s.onSeam g) (l := l.other) (State.activeLane_powered hl) hop hnf 1
      exact hover _
    next => rfl

/-! ## The stitch up to what it lands (R108) -/

/-- What decides which lane acts, and what is to take effect in the next stitch. -/
def standing (s : State) : Bool × Lane × PerLane LaneState × Option Lane × Option Nat :=
  (s.powered, s.owner, s.lanes, s.granted, s.landing)

theorem activeLane_of_standing {s t : State} (h : standing t = standing s) : t.activeLane = s.activeLane := by
  simp only [standing, Prod.mk.injEq] at h
  obtain ⟨hp, ho, hl, hg, -⟩ := h
  unfold State.activeLane
  rw [hp, ho, hl, hg]

theorem standing_of_sansBlocks {s t : State} (h : sansBlocks t = sansBlocks s) : standing t = standing s :=
  show standing (sansBlocks t) = standing (sansBlocks s) by rw [h]

@[simp] theorem standing_edit (s : State) (f : Image → Image) : standing (s.edit f) = standing s := rfl
@[simp] theorem standing_note (s : State) (f : Image → Image) : standing (s.note f) = standing s := rfl
@[simp] theorem standing_onSeam (s : State) (f : Seam → Seam) : standing (s.onSeam f) = standing s := rfl
@[simp] theorem standing_onMirror (s : State) (f : Mirror → Mirror) : standing (s.onMirror f) = standing s := rfl

theorem standing_sampleStrobes (s : State) : standing s.sampleStrobes = standing s := by
  have hmissed : ∀ (c : Prop) (_ : Decidable c) (u : State) (f : Image → Image),
      standing (if c then u.note f else u) = standing u :=
    fun c _ u f => (apply_ite standing c _ _).trans (by rw [standing_note, ite_self])
  unfold State.sampleStrobes
  exact (hmissed _ _ _ _).trans rfl

theorem standing_sendLinkAcks (s : State) : standing s.sendLinkAcks = standing s := by
  unfold State.sendLinkAcks
  dsimp only
  refine (foldl_keeps standing (fun u p => ?_) _ _).trans (standing_onSeam s _)
  split
  · exact (standing_onSeam _ _).trans (standing_of_sansBlocks (State.sendOn_sansBlocks _ _ _ _ _ _))
  · rfl

theorem standing_shadowStitch (s : State) (x : StitchSample) : standing (s.shadowStitch x) = standing s := by
  unfold State.shadowStitch
  split
  · rfl
  · dsimp only [standing, State.granted]
    simp only [apply_ite State.powered, apply_ite State.owner, apply_ite State.lanes, apply_ite State.buckle,
      apply_ite State.landing, State.report_powered, State.report_owner, State.report_lanes, State.report_buckle,
      State.report_landing, ite_self]

/-- A stitch up to the commits that take effect in it: strobes, hold window, acknowledgements, the slices' work, the
Mirror's words. -/
def stitchWorked (s : State) (x : StitchSample) : State :=
  let s := ({ s with tick := s.tick + 1 }.sampleStrobes).ageHold
  let s := s.ageFlights.sendLinkAcks
  let s := s.shadowStitch x
  (if s.running then s.edit (fun im => im.stitchWork x) else s.idleStitch x).mirrorWords

theorem State.stitch_eq {s : State} (x : StitchSample) (h : s.powered = true) :
    s.stitch x = (stitchWorked s x).landStitch.workStitch.lateCommit := by
  unfold State.stitch
  rw [if_neg (by simp [h])]
  rfl

theorem standing_stitchWorked (s : State) (x : StitchSample) : standing (stitchWorked s x) = standing s := by
  have hmirror : ∀ u : State, standing u.mirrorWords = standing u := by
    intro u
    unfold State.mirrorWords
    rw [apply_ite standing, standing_onMirror, ite_self]
  have hidle : ∀ u : State, standing (u.idleStitch x) = standing u := by
    intro u
    unfold State.idleStitch
    simp only [apply_ite standing, standing_edit, ite_self]
  unfold stitchWorked
  dsimp only
  rw [hmirror, apply_ite standing, standing_edit, hidle, ite_self, standing_shadowStitch, standing_sendLinkAcks,
    State.ageFlights, standing_onSeam]
  exact (standing_sampleStrobes { s with tick := s.tick + 1 })

/-- STITCH releases the commits that have been acknowledged (R189, R320). -/
theorem State.stitch_landed {s : State} {l : Lane} {f : Nat} (hl : s.activeLane = some l) (hf : s.landing = some f)
    (x : StitchSample) : landed f (waits (s.stitch x)) := by
  have hstand := standing_stitchWorked s x
  have hland : (stitchWorked s x).landing = some f := (congrArg (·.2.2.2.2) hstand).trans hf
  rw [State.stitch_eq x (State.activeLane_powered hl), waits_lateCommit, waits_workStitch]
  exact State.landStitch_landed ((activeLane_of_standing hstand).trans hl) hland

end Sys2Proof.Machine.Clocks
end

section
/-! Commits at the standby and the loss of qualification (R189, R317 to R320, R322, R326). -/

namespace Sys2Proof.Machine.Clocks
open ReleaseLoop

/-- A command that acts while a lane runs the module does so on the state it begins with. -/
theorem State.live_running {s : State} (h : s.running = true) (f : State → State) : s.live f = .next (f s.hush) := by
  have hr : s.hush.running = true := h
  simp only [State.live, State.go, hr, if_true]

theorem State.running_of_activeLane {s : State} {l : Lane} (h : s.activeLane = some l) : s.running = true := by
  simp [State.running, h]

/-! ## The loss of qualification (R320, R326) -/

/-- The standby's line is clear, and it follows no more. -/
def unlined (s : State) (l : Lane) : State :=
  let s := s.onBuckle (fun b => { b with qualified := b.qualified.on l.other (fun _ => false) })
  s.onSeam (fun m => { m with
    standby := if s.standbyUp then 1 else 0, sections := 0, copyNext := none, copyDone := none, rx := [], unbroken := false,
    declared := some s.releasedFrame })

/-- The active runs single-lane, with EV11. -/
def singleLaned (cause : Nat) (im : Image) : Image :=
  ((({ im with commit := { im.commit with singleLane := true } }).setReg 0x2204 4 cause).bump 0x2204 5).raise 11 modScope ⟨0, cause, 0⟩

theorem State.unqualify_eq {s : State} {l : Lane} (hl : s.activeLane = some l) (cause : Nat) :
    s.unqualify cause =
      if s.seam.standby = 4 || !s.img.commit.singleLane then
        { (unlined s l).edit (singleLaned cause) with
          landing := some ((unlined s l).edit (singleLaned cause)).releasedFrame, trail := none, trailG := [], drained := [], bus := s.bus.alone }
      else (unlined s l).edit (fun im => im.raise 11 modScope ⟨0, cause, 0⟩) := by
  unfold State.unqualify
  rw [hl]
  rfl

theorem unlined_standby (s : State) (l : Lane) : (unlined s l).seam.standby ≤ 1 := by
  have hle : ∀ b : Bool, (if b then 1 else 0) ≤ 1 := by decide
  exact hle _

theorem State.unqualify_spec {s : State} {l : Lane} (hl : s.activeLane = some l) (cause : Nat) :
    (s.unqualify cause).buckle = { s.buckle with qualified := s.buckle.qualified.on l.other (fun _ => false) } ∧
      (s.unqualify cause).seam.standby ≤ 1 ∧ (s.unqualify cause).img.evActive 11 modScope = true := by
  have hraised := fun im : Image => Image.raise_active im 11 modScope ⟨0, cause, 0⟩ (Image.speaks_mod im 11)
  rw [State.unqualify_eq hl]
  split <;> exact ⟨rfl, unlined_standby s l, hraised _⟩

/-- An active that had a standby runs single-lane, and what waits takes effect in the next stitch (R320). -/
theorem State.unqualify_single {s : State} {l : Lane} (hl : s.activeLane = some l) (hc : s.img.commit.singleLane = false)
    (cause : Nat) : (s.unqualify cause).img.commit.singleLane = true ∧ (s.unqualify cause).landing = some s.releasedFrame := by
  have hsingle : (singleLaned cause s.img).commit.singleLane = true := by
    rw [singleLaned, Image.raise_commit _ _ _ (by decide), Image.bump_commit, Image.setReg_commit]
  have hnow : (singleLaned cause s.img).now = s.img.now :=
    congrArg (·.clk.frame) (Image.raise_sansEvents _ 11 modScope ⟨0, cause, 0⟩ (by decide))
  have hreleased : ((unlined s l).edit (singleLaned cause)).releasedFrame = s.releasedFrame := by
    show (if s.release.isSome = true then (singleLaned cause s.img).now - 1 else (singleLaned cause s.img).now) = _
    rw [hnow]
    rfl
  rw [State.unqualify_eq hl, if_pos (by simp [hc])]
  exact ⟨hsingle, congrArg some hreleased⟩

theorem State.unqualify_line {s : State} {l : Lane} (hl : s.activeLane = some l) (cause : Nat) :
    (s.unqualify cause).buckle.qualified.get l.other = false := by
  rw [(State.unqualify_spec hl cause).1]
  exact PerLane.get_on_same _ _ _

/-! ## The standby's commit (R317, R318) -/

/-- What the standby holds: the frame it last applied, the frames that wait, its image, and whether its store is current. -/
def held (s : State) (l : Lane) : Nat × List Image × Image × Bool :=
  (s.seam.lastApplied, s.sealed, s.shadow, (s.lanes.get l.other).current)

theorem held_sendAck (s : State) (l k : Lane) (frame result : Nat) : held (s.sendAck k frame result) l = held s l := by
  have hsent : sansBlocks (s.sendAck k frame result) = sansBlocks s := State.sendBlock_sansBlocks _ _ _ _ _
  show held (sansBlocks (s.sendAck k frame result)) l = held (sansBlocks s) l
  rw [hsent]

/-- What the standby holds once it has applied a frame: from the section copy of the image on (R322), the frame's own image and a
store that is current. -/
def frameTaken (s : State) (l : Lane) (head : Image) (rest : List Image) : Nat × List Image × Image × Bool :=
  if 533 ≤ s.seam.sections || s.seam.standby ≥ 3 then (head.now, rest, head, true)
  else (head.now, rest, s.shadow, (s.lanes.get l.other).current)

theorem frameTaken_frames (s : State) (l : Lane) (head : Image) (rest : List Image) :
    (frameTaken s l head rest).1 = head.now ∧ (frameTaken s l head rest).2.1 = rest := by
  unfold frameTaken
  split <;> exact ⟨rfl, rfl⟩

theorem frameTaken_following {s : State} (h : 3 ≤ s.seam.standby) (l : Lane) (head : Image) (rest : List Image) :
    frameTaken s l head rest = (head.now, rest, head, true) := if_pos (by simp [h])

section
variable {s : State} {l : Lane} {head : Image} {rest : List Image} {r : RxFrame} (hl : s.activeLane = some l)
  (hsealed : s.sealed = head :: rest) (hup : s.standbyUp = true) (hcopy : 2 ≤ s.seam.standby)
  (hrx : s.seam.rx.find? (fun r => r.frame == wrap 32 head.now) = some r) (hwhole : r.complete = true)
include hl hsealed hup hcopy hrx hwhole

/-- The standby applies a frame whose digest agrees. -/
theorem held_applyCommit_agrees (hagrees : r.commit = some true) : held s.applyCommit l = frameTaken s l head rest := by
  unfold State.applyCommit
  rw [hsealed, hl]
  dsimp only
  rw [hrx]
  dsimp only
  rw [if_neg (by simp [hwhole, hup, Nat.not_lt.mpr hcopy]), if_neg (by simp [hagrees]), held_sendAck]
  unfold frameTaken
  split
  · exact congrArg (fun b => (head.now, rest, head, b)) (congrArg LaneState.current (PerLane.get_on_same _ _ _))
  · rfl

/-- With a digest that differs it applies nothing. -/
theorem held_applyCommit_differs (hdiffers : r.commit = some false) : held s.applyCommit l = held s l := by
  unfold State.applyCommit
  rw [hsealed, hl]
  dsimp only
  rw [hrx]
  dsimp only
  rw [if_neg (by simp [hwhole, hup, Nat.not_lt.mpr hcopy]), if_pos (by simp [hdiffers]), held_sendAck]
  rfl

end

/-! ## The acknowledgement at the active (R319, R320) -/

/-- The frame that takes effect next, with an acknowledgement of `frame`. -/
def noted (landing : Option Nat) (frame : Nat) : Nat :=
  match landing with
  | some f => max f frame
  | none => frame

/-- An acknowledgement of a commit that waits is noted for the next stitch. -/
theorem State.commitAck_applied {s : State} {a : AckPayload} (hrun : s.running = true) (hc : s.img.commit.singleLane = false)
    (hwaits : s.img.commit.out.any (fun c => c.frame == a.frame) = true) (ha : a.result = 0) :
    (s.commitAck a).img = (s.img.standbyImage a).setReg 0x2203 4 (if s.img.now = a.frame then s.img.clk.stitch else 255) ∧
      (s.commitAck a).landing = some (noted s.landing a.frame) := by
  unfold State.commitAck
  rw [if_neg (by simp [hrun]), if_neg (by simp [hc]), if_neg (by simp [hwaits]), if_neg (by simp [ha])]
  have hflag : ∀ (handed : Bool) (u : State), (if handed = true then { u with handoverAcked := true } else u).img = u.img ∧
      (if handed = true then { u with handoverAcked := true } else u).landing = u.landing := by
    intro handed u
    split <;> exact ⟨rfl, rfl⟩
  exact ⟨(hflag _ _).1, congrArg (fun w => some (noted w a.frame)) (hflag _ _).2⟩

theorem State.commitAck_refused {s : State} {a : AckPayload} (hrun : s.running = true) (hc : s.img.commit.singleLane = false)
    (hwaits : s.img.commit.out.any (fun c => c.frame == a.frame) = true) (ha : a.result ≠ 0) :
    s.commitAck a = s.unqualify 6 := by
  unfold State.commitAck
  rw [if_neg (by simp [hrun]), if_neg (by simp [hc]), if_neg (by simp [hwaits]), if_pos ha]

@[simp] theorem Image.standbyImage_commit (im : Image) (a : AckPayload) : (im.standbyImage a).commit = im.commit := by
  unfold Image.standbyImage
  split <;> rfl

/-- The inputs of the standby's image of this frame are there to be compared (R288). -/
theorem Image.standbyImage_other {im : Image} {a : AckPayload} (h : a.frame = im.now) :
    (im.standbyImage a).inp.other = some (a.di, a.ti) := by
  rw [Image.standbyImage, if_pos h]

/-! ## Late commits, a starved standby, both links down, a full copy -/

theorem State.ackLate_eq {s : State} {c : CommitRec} {cs : List CommitRec} (hout : s.img.commit.out = c :: cs)
    (hc : s.img.commit.singleLane = false) (hlate : c.frame + 3 ≤ s.img.now) : s.ackLate = s.unqualify 1 := by
  unfold State.ackLate
  rw [hout]
  dsimp only
  rw [if_pos (by simp [hc, hlate])]

theorem State.standbyStarved_eq {s : State} (hfollows : 3 ≤ s.seam.standby) (hnone : s.seam.lastApplied + 3 < s.img.now) :
    s.standbyStarved = s.unqualify 8 := by
  rw [State.standbyStarved, if_pos (by simp [hfollows, hnone])]

/-- The Seam monitor clears both lines, whether a standby followed or not. -/
theorem State.monitorTrip_buckle {s : State} {l : Lane} (hl : s.activeLane = some l) (hdown : 48 ≤ s.buckle.bothDown) :
    s.monitorTrip.buckle = { s.buckle with monitor := true, qualified := ⟨false, false⟩ } := by
  let u : State := s.onBuckle (fun b => { b with monitor := true, qualified := ⟨false, false⟩ })
  have hclear : (PerLane.mk false false).on l.other (fun _ => false) = ⟨false, false⟩ := by cases l <;> rfl
  have hcut : (u.unqualify 2).buckle = u.buckle := by
    rw [(State.unqualify_spec (s := u) (l := l) hl 2).1]
    simp only [u, State.onBuckle_buckle, hclear]
  have htrip : s.monitorTrip = if decide (2 ≤ s.seam.standby) = true then u.unqualify 2 else u := by
    rw [State.monitorTrip, if_neg (by simp [State.activeLane_powered hl, hdown])]
  rw [htrip, apply_ite State.buckle, hcut, ite_self]
  rfl

/-- A copy begins at its first section, and the standby's store is not current until it is done (R322). -/
theorem State.startCopy_spec {s : State} {l : Lane} (hl : s.activeLane = some l) (hup : s.standbyUp = true)
    (hidle : s.seam.standby ≤ 1) (hlink : s.seam.upCount ≠ 0) :
    s.startCopy.seam.standby = 2 ∧ s.startCopy.seam.sections = 0 ∧ s.startCopy.seam.copyNext = some 0 ∧
      (s.startCopy.lanes.get l.other).current = false := by
  unfold State.startCopy
  rw [hl]
  dsimp only
  rw [if_pos (by simp [hup, hidle, hlink])]
  exact ⟨rfl, rfl, rfl, congrArg LaneState.current (PerLane.get_on_same _ _ _)⟩

/-- Settles O37: each command through its rule above, on the state it begins with; STITCH through `State.stitch_landed`. -/
theorem commitAndStandbyRules : Obligations.CommitAndStandbyRules := by
  intro s l hactive
  have hl : s.hush.activeLane = some l := hactive
  have hrun : s.running = true := State.running_of_activeLane hactive
  refine ⟨?apply, ?ack, ?stitch, ?late, ?starved, ?monitor, ?copy⟩
  case apply =>
    intro head rest r hsealed hup hcopy hrx hwhole
    refine ⟨fun hagrees => ⟨_, State.live_running hrun _, ?_⟩, fun hdiffers => ⟨_, State.live_running hrun _, ?_⟩⟩
    · have htaken := held_applyCommit_agrees (s := s.hush) hl hsealed hup hcopy hrx hwhole hagrees
      obtain ⟨hlast, hframes⟩ := frameTaken_frames s.hush l head rest
      refine ⟨(congrArg (·.1) htaken).trans hlast, (congrArg (·.2.1) htaken).trans hframes, fun hfollows => ?_⟩
      rw [frameTaken_following (s := s.hush) hfollows] at htaken
      exact ⟨congrArg (·.2.2.1) htaken, congrArg (·.2.2.2) htaken⟩
    · have hkept := held_applyCommit_differs (s := s.hush) hl hsealed hup hcopy hrx hwhole hdiffers
      simp only [held, Prod.mk.injEq] at hkept
      obtain ⟨hlast, hframes, hshadow, -⟩ := hkept
      exact ⟨hlast, hframes, hshadow⟩
  case ack =>
    intro a hdual hwaits
    have hrow : exec (.commitAckReceived a) s = .next (s.hush.commitAck a) :=
      State.live_running hrun (fun s => s.commitAck a)
    refine ⟨fun ha => ⟨_, hrow, ?_⟩, fun ha => ⟨_, hrow, ?_⟩⟩
    · obtain ⟨himg, hland⟩ := State.commitAck_applied (s := s.hush) hrun hdual hwaits ha
      refine ⟨by rw [himg, Image.setReg_commit, Image.standbyImage_commit]; rfl, hland, fun hnow => ⟨?_, ?_⟩⟩
      · rw [himg]
        exact Image.standbyImage_other (im := s.hush.img) hnow
      · rw [himg, if_pos (show s.hush.img.now = a.frame from hnow.symm), Image.reg_setReg_same _ _ (by decide)]
        rfl
    · rw [State.commitAck_refused (s := s.hush) hrun hdual hwaits ha]
      exact ⟨(State.unqualify_single hl hdual 6).1, State.unqualify_line hl 6, (State.unqualify_spec hl 6).2.2⟩
  case stitch => exact fun x f hland => ⟨_, rfl, State.stitch_landed hl hland x⟩
  case late =>
    intro c cs hout hdual hlate
    refine ⟨_, State.live_running hrun _, ?_⟩
    rw [State.ackLate_eq (s := s.hush) hout hdual hlate]
    obtain ⟨hsingle, hland⟩ := State.unqualify_single hl hdual 1
    exact ⟨hsingle, hland, State.unqualify_line hl 1, (State.unqualify_spec hl 1).2.2⟩
  case starved =>
    intro hfollows hnone
    refine ⟨_, State.live_running hrun _, ?_⟩
    rw [State.standbyStarved_eq (s := s.hush) hfollows hnone]
    exact ⟨State.unqualify_line hl 8, (State.unqualify_spec hl 8).2⟩
  case monitor =>
    intro hdown
    have htrip := State.monitorTrip_buckle (s := s.hush) hl hdown
    exact ⟨_, rfl, congrArg Buckle.monitor htrip, congrArg Buckle.qualified htrip⟩
  case copy =>
    exact fun hup hidle hlink => ⟨_, State.live_running hrun _, State.startCopy_spec (s := s.hush) hl hup hidle hlink⟩

end Sys2Proof.Machine.Clocks
end

section
/-! Rest mode and the levels of the Belt (R219, R221, R223, R232, R233). -/

namespace Sys2Proof.Machine.Clocks
open ReleaseLoop

/-! ## Rest mode (R232, R233) -/

/-- Rest mode: the converter off, and 0x210C:03 reads 1 (R232). -/
theorem Image.enterRest_spec (im : Image) : im.enterRest.belt.rest = true ∧ im.enterRest.belt.converter = false ∧
    im.enterRest.reg 0x210C 3 = 1 := by
  unfold Image.enterRest
  refine ⟨rfl, rfl, ?_⟩
  rw [Image.reg_bump_other _ (by decide) (by decide) (by decide), Image.reg_setReg_same _ _ (by decide)]
  rfl

/-- Rest mode ends: the wake-up begins, and 0x210C:03 reads 0 (R233). -/
theorem Image.leaveRest_spec {im : Image} (h : im.belt.rest = true) : im.leaveRest.belt.rest = false ∧
    im.leaveRest.belt.restWaking = some im.now ∧ im.leaveRest.reg 0x210C 3 = 0 := by
  rw [Image.leaveRest, if_pos h]
  refine ⟨rfl, rfl, ?_⟩
  rw [Image.reg_setReg_same _ _ (by decide)]
  rfl

/-- A Rest delay that has run, with nothing against Rest mode, enters it (R232). -/
theorem Image.restByDelay_eq {im : Image} (hrest : im.belt.rest = false) (hset : im.reg 0x210C 2 ≠ 0)
    (hran : im.elapsed im.belt.restSince (1000 * im.reg 0x210C 2) = true) (hmay : im.mayRest = true)
    (hfree : im.restInhibit = false) : im.restByDelay = im.enterRest := by
  unfold Image.restByDelay
  rw [if_pos (by simp [hrest, hset, hran, hmay, hfree])]

/-! ## The levels of the Belt (R219, R221, R223) -/

/-- A condition that has held long enough is confirmed, and the level in force stays (R219). -/
theorem Image.confirmCond_spec {im : Image} {c : BeltCond} (h : im.reg 0x2105 7 ≤ (im.belt.conds.get c.idx).run) :
    ((im.confirmCond c).belt.conds.get c.idx).confirmed = true ∧ (im.confirmCond c).belt.level = im.belt.level := by
  unfold Image.confirmCond
  rw [if_neg (Nat.not_lt.mpr h)]
  rw [Image.belt_of_sansEvents (Image.ite_sansEvents (Image.raise_sansEvents _ 0 modScope _ (by decide)) rfl)]
  exact ⟨congrArg BeltCondState.confirmed (upd_get_same _ _ _), rfl⟩

/-- A confirmed sag that enters level 1 raises EV00 (R221). -/
theorem Image.confirmCond_sag {im : Image} (h : im.reg 0x2105 7 ≤ (im.belt.conds.get (BeltCond.idx .sag)).run)
    (hlevel : im.belt.level = 0) (hnext : im.belt.next = 0) : (im.confirmCond .sag).evActive 0 modScope = true := by
  unfold Image.confirmCond
  rw [if_neg (Nat.not_lt.mpr h)]
  dsimp only
  rw [if_pos (by simp [hlevel, hnext])]
  exact Image.raise_active _ 0 modScope _ (Image.speaks_mod _ 0)

/-- After the exit hysteresis the next lower level is decided (R223). -/
theorem Image.stepDown_eq {im : Image} (hsettled : im.belt.next = im.belt.level) (hpos : 0 < im.belt.level)
    (hran : im.elapsed im.belt.clearSince (im.reg 0x2105 6) = true) :
    im.stepDown = { im with belt := { im.belt with next := im.belt.level - 1, clearSince := some im.now } } := by
  unfold Image.stepDown
  rw [if_pos (by simp [hsettled, hpos, hran])]

/-- Settles O27: the entries into and exits from Rest mode by `enterRest` and `leaveRest`, the levels by what their rows
decide. -/
theorem restAndBeltRules : Obligations.RestAndBeltRules := by
  unfold Obligations.RestAndBeltRules
  refine ⟨fun s => ⟨?delay, ?enter, ?leave, ?wake, ?ready⟩, fun s hrun => ⟨?confirm, ?down⟩⟩
  case delay =>
    intro hrun hrest hset hran hmay hfree
    obtain ⟨t, ht, himg⟩ := State.act_running hrun (fun im => im.restByDelay)
    rw [Image.restByDelay_eq (im := s.hush.img) hrest hset hran hmay hfree] at himg
    exact ⟨t, ht, himg ▸ Image.enterRest_spec _⟩
  case enter =>
    intro p h
    obtain ⟨t, ht, himg, howes⟩ := State.serve_writeRow h (by decide) (f := Image.enterRest) rfl
    obtain ⟨hrest, hoff, hshown⟩ := Image.enterRest_spec s.hush.img
    refine ⟨t, ht, ?_, ?_, ?_, howes⟩ <;> rw [himg]
    · exact hrest
    · exact hoff
    · rw [owing_reg, hshown]
  case leave =>
    intro p h hrest
    obtain ⟨t, ht, himg, howes⟩ := State.serve_writeRow h (by decide) (f := Image.leaveRest) rfl
    obtain ⟨hleft, hwaking, hshown⟩ := Image.leaveRest_spec (im := s.hush.img) hrest
    refine ⟨t, ht, ?_, ?_, ?_, howes⟩ <;> rw [himg]
    · exact hleft
    · exact hwaking
    · rw [owing_reg, hshown]
  case wake =>
    intro hrun hrest hmust
    obtain ⟨t, ht, himg⟩ := State.act_running hrun (fun im => if im.restMustEnd then im.leaveRest else im)
    rw [if_pos (show s.hush.img.restMustEnd = true from hmust)] at himg
    exact ⟨t, ht, himg ▸ Image.leaveRest_spec (im := s.hush.img) hrest⟩
  case ready =>
    intro hrun
    obtain ⟨t, ht, himg⟩ := State.act_running hrun (fun im => im.restReady)
    exact ⟨t, ht, by rw [himg]; rfl, by rw [himg]; rfl⟩
  case confirm =>
    intro c hheld
    obtain ⟨t, ht, himg⟩ := State.act_running hrun (fun im => im.confirmCond c)
    obtain ⟨hconfirmed, hlevel⟩ := Image.confirmCond_spec (im := s.hush.img) hheld
    refine ⟨t, ht, himg ▸ hconfirmed, himg ▸ hlevel, ?_⟩
    rintro rfl h0 hnext
    exact himg ▸ Image.confirmCond_sag (im := s.hush.img) hheld h0 hnext
  case down =>
    intro hsettled hpos hran
    obtain ⟨t, ht, himg⟩ := State.act_running hrun (fun im => im.stepDown)
    rw [Image.stepDown_eq (im := s.hush.img) hsettled hpos hran] at himg
    refine ⟨t, ht, ?_, ?_, ?_⟩ <;> rw [himg] <;> rfl

end Sys2Proof.Machine.Clocks
end

section
/-! What the power-loss commit leaves of the times it saves: doorways, records, ledger and outputs move neither the operating
time nor the mark that the commit is done (R198, R230). -/

namespace Sys2Proof.Machine.Clocks
open ReleaseLoop

/-- The operating time, the operating time saved, and whether the power-loss commit is done. -/
def saved (im : Image) : Nat × Nat × Bool := (im.clk.opMs, im.clk.opSaved, im.belt.commitDone)

theorem saved_iff {im : Image} {ms op : Nat} {done : Bool} : saved im = (ms, op, done) ↔
    im.clk.opMs = ms ∧ im.clk.opSaved = op ∧ im.belt.commitDone = done := by
  simp [saved]

/-! ## Registers, items and events -/

@[simp] theorem saved_setReg (im : Image) (idx sub v : Nat) : saved (im.setReg idx sub v) = saved im := rfl
@[simp] theorem saved_setDreg (im : Image) (d : Door) (off sub v : Nat) : saved (im.setDreg d off sub v) = saved im := rfl
@[simp] theorem saved_setCreg (im : Image) (c : Chan) (off sub v : Nat) : saved (im.setCreg c off sub v) = saved im := rfl
@[simp] theorem saved_setAreg (im : Image) (a : Axis) (off sub v : Nat) : saved (im.setAreg a off sub v) = saved im := rfl
@[simp] theorem saved_setSreg (im : Image) (idx sub : Nat) (v : Int) : saved (im.setSreg idx sub v) = saved im := rfl
@[simp] theorem saved_bump (im : Image) (idx sub : Nat) : saved (im.bump idx sub) = saved im := by rw [Image.bump, saved_setReg]
@[simp] theorem saved_bumpBy (im : Image) (idx sub n : Nat) : saved (im.bumpBy idx sub n) = saved im := by
  rw [Image.bumpBy, saved_setReg]
@[simp] theorem saved_bumpD (im : Image) (d : Door) (off sub : Nat) : saved (im.bumpD d off sub) = saved im := by
  rw [Image.bumpD, saved_bump]
@[simp] theorem saved_bumpC (im : Image) (c : Chan) (off sub : Nat) : saved (im.bumpC c off sub) = saved im := by
  rw [Image.bumpC, saved_bump]
@[simp] theorem saved_bumpA (im : Image) (a : Axis) (off sub : Nat) : saved (im.bumpA a off sub) = saved im := by
  rw [Image.bumpA, saved_bump]
@[simp] theorem saved_onDoor (im : Image) (d : Door) (f : Doorway → Doorway) : saved (im.onDoor d f) = saved im := rfl
@[simp] theorem saved_onAxis (im : Image) (a : Axis) (f : AxisState → AxisState) : saved (im.onAxis a f) = saved im := rfl
@[simp] theorem saved_onChan (im : Image) (c : Chan) (f : Channel → Channel) : saved (im.onChan c f) = saved im := rfl
@[simp] theorem saved_onSide (im : Image) (k : Side) (f : SideState → SideState) : saved (im.onSide k f) = saved im := rfl
@[simp] theorem saved_onServer (im : Image) (k : Fin 2) (f : SdoServer → SdoServer) : saved (im.onServer k f) = saved im := rfl
@[simp] theorem saved_send (im : Image) (o : Out) : saved (im.send o) = saved im := rfl
@[simp] theorem saved_draft (im : Image) (d : Draft) : saved (im.draft d) = saved im := rfl
@[simp] theorem saved_rcd (im : Image) (r : Recorder) : saved { im with rcd := r } = saved im := rfl
@[simp] theorem saved_setMask (im : Image) (m : Nat) : saved (im.setMask m) = saved im := rfl
@[simp] theorem saved_decideAction (im : Image) (a : LedgerAction) : saved (im.decideAction a) = saved im := rfl
@[simp] theorem saved_change (im : Image) (source : Nat) (auth : Bool) (idx sub old new : Nat) :
    saved (im.change source auth idx sub old new) = saved im := rfl

@[simp] theorem saved_onPort (im : Image) (q : Port) (f : CanPort → CanPort) : saved (im.onPort q f) = saved im := by
  cases q <;> rfl

@[simp] theorem saved_onGen (im : Image) (d : Door) (g : Group) (f : Gen → Gen) : saved (im.onGen d g f) = saved im := by
  cases g <;> rfl

theorem saved_of_sansEvents {a b : Image} (h : a.sansEvents = b.sansEvents) : saved a = saved b :=
  show saved a.sansEvents = saved b.sansEvents by rw [h]

@[simp] theorem saved_raise (im : Image) {n : Nat} (scope : Fin 13) (src : Source) (hn : n < 255) :
    saved (im.raise n scope src) = saved im := saved_of_sansEvents (Image.raise_sansEvents im n scope src hn)

@[simp] theorem saved_clearEv (im : Image) {n : Nat} (scope : Fin 13) (src : Source) (hn : n < 255) :
    saved (im.clearEv n scope src) = saved im := saved_of_sansEvents (Image.clearEv_sansEvents im n scope src hn)

@[simp] theorem saved_occur (im : Image) {n : Nat} (scope : Fin 13) (src : Source) (hn : n < 255) :
    saved (im.occur n scope src) = saved im := saved_of_sansEvents (Image.occur_sansEvents im n scope src hn)

/-- A step that keeps the saved times keeps them over every item of a list. -/
theorem saved_foldl {α : Type} {f : Image → α → Image} (h : ∀ im a, saved (f im a) = saved im) (xs : List α) (im : Image) :
    saved (xs.foldl f im) = saved im := foldl_keeps saved h xs im

/-! ## A doorway stops, its cycle and its teach end (R57, R131, R154, R414) -/

@[simp] theorem saved_brakeDoor (im : Image) (d : Door) (due : Option Nat) (keep : Bool) :
    saved (im.brakeDoor d due keep) = saved im := by
  have hgroup : ∀ (im : Image) (g : Group), saved (im.brake d g due keep) = saved im := fun im g =>
    (saved_onGen _ d g _).trans (saved_foldl (fun im k => saved_onAxis im _ _) _ im)
  have hsolo : ∀ (im : Image) (k : Fin 3), saved (im.brakeSolo (axisOf d k) due keep) = saved im := fun im k => saved_onAxis im _ _
  rw [Image.brakeDoor, saved_foldl hsolo, hgroup, hgroup]

@[simp] theorem saved_endTeach (im : Image) (d : Door) (result : Nat) : saved (im.endTeach d result) = saved im := by
  unfold Image.endTeach
  split
  · dsimp only
    rw [saved_occur _ _ _ (by decide), saved_setDreg, saved_setDreg, saved_foldl (fun im k => saved_onAxis im _ _), saved_onDoor]
  · rfl

@[simp] theorem saved_checkDrift (im : Image) (d : Door) : saved (im.checkDrift d) = saved im := by
  unfold Image.checkDrift
  dsimp only
  split <;> simp

theorem saved_eachMover {f : Image → Axis → Image} (h : ∀ im a, saved (f im a) = saved im) (im : Image) (d : Door) :
    saved (im.eachMover d f) = saved im :=
  saved_foldl (fun im k => by rw [apply_ite saved, h, ite_self]) _ im

@[simp] theorem saved_completeTeach (im : Image) (d : Door) : saved (im.completeTeach d) = saved im := by
  unfold Image.completeTeach
  dsimp only
  split
  · exact saved_endTeach im d _
  · rw [saved_checkDrift, saved_endTeach]
    refine saved_foldl (fun im r => ?_) _ im
    split
    · rw [Image.taughtSheets, saved_onAxis, saved_setAreg, saved_setAreg, saved_change, saved_change, saved_change,
        saved_change]
    · rfl

@[simp] theorem saved_teachCycle (im : Image) (d : Door) (c : Cycle) (outcome : Nat) :
    saved (im.teachCycle d c outcome) = saved im := by
  have hmovers := fun (im : Image) (f : AxisState → AxisState) => saved_eachMover (fun im a => saved_onAxis im a f) im d
  simp [Image.teachCycle, apply_ite saved, hmovers]

@[simp] theorem saved_adaptCycle (im : Image) (d : Door) (c : Cycle) (outcome : Nat) :
    saved (im.adaptCycle d c outcome) = saved im := by
  unfold Image.adaptCycle
  split
  · rw [saved_checkDrift]
    exact saved_eachMover (fun im a => by simp [apply_ite saved]) im d
  · rfl

@[simp] theorem saved_endWindow (im : Image) (d : Door) (again : Bool) : saved (im.endWindow d again) = saved im := by
  simp [Image.endWindow, apply_ite saved]

@[simp] theorem saved_windowOver (im : Image) (d : Door) : saved (im.windowOver d) = saved im := by
  simp [Image.windowOver, apply_ite saved]

@[simp] theorem saved_chatterNote (im : Image) (d : Door) : saved (im.chatterNote d) = saved im := by
  simp [Image.chatterNote, apply_ite saved]

@[simp] theorem saved_finishCycle (im : Image) (d : Door) (outcome : Nat) : saved (im.finishCycle d outcome) = saved im := by
  unfold Image.finishCycle
  split
  · rfl
  next c _ =>
    dsimp only
    rw [saved_onDoor, saved_teachCycle, saved_adaptCycle, apply_ite saved, saved_bump, saved_onDoor, saved_draft, saved_onDoor,
      ite_self, saved_bumpBy, saved_setDreg]
    split <;> split <;> simp [apply_ite saved]

@[simp] theorem saved_abandon (im : Image) (d : Door) (outcome : Nat) : saved (im.abandon d outcome) = saved im := by
  have hsettle : ∀ im : Image, saved (im.settleAbandon d) = saved im := by
    intro im
    unfold Image.settleAbandon
    split
    · rfl
    · simp [apply_ite saved, Image.dropCycle]
  simp [Image.abandon, apply_ite saved, hsettle, Image.dropCycle]

/-! ## The commit's part of the image (R230) -/

theorem opMs_of_saved {a b : Image} (h : saved a = saved b) : a.clk.opMs = b.clk.opMs := congrArg (·.1) h

theorem op_of_saved {a b : Image} (h : saved a = saved b) : a.op = b.op := by rw [Image.op, Image.op, opMs_of_saved h]

/-- Every doorway has stopped, its cycle and its teach are ended. -/
def doorsStopped (im : Image) : Image :=
  im.eachDoor (fun im d => (((im.brakeDoor d none false).abandon d 5).endTeach d 6).endWindow d false)

theorem saved_doorsStopped (im : Image) : saved (doorsStopped im) = saved im := by
  rw [doorsStopped, Image.eachDoor, saved_foldl (fun im d => by simp)]

/-- The power-loss commit saves the operating time, and is done. -/
theorem saved_lossCommit (im : Image) (cause : Nat) : saved (im.lossCommit cause) = (im.clk.opMs, im.op, true) := by
  rw [← op_of_saved (saved_doorsStopped im), ← opMs_of_saved (saved_doorsStopped im), Image.lossCommit, ← doorsStopped,
    Image.eachChan, saved_foldl (fun im c => saved_onChan im c _)]
  generalize doorsStopped im = x
  dsimp only
  rw [Image.eachDoor, saved_foldl (f := fun im d => im.lockOff d) (fun im d => saved_onDoor im d _)]
  rfl

/-! ## Section R assembles the records (R402) -/

@[simp] theorem saved_assign (im : Image) (x : AssembleCtx) (type scope trigger list : Nat) (payload : Bytes) :
    saved (im.assign x type scope trigger list payload) = saved im := rfl

@[simp] theorem saved_release (im : Image) {n : Nat} (scope : Fin 13) (hn : n < 255) :
    saved (im.release n scope) = saved im := saved_of_sansEvents (Image.release_sansEvents im n scope hn)

theorem saved_clearLedger (im : Image) (flying seq : Nat) : saved (im.clearLedger flying seq) = saved im := by
  have hbreach : ∀ x : Image, saved { x with breach := [] } = saved x := fun _ => rfl
  rw [Image.clearLedger, hbreach]
  simp only [saved_setReg, saved_release _ _ (show 18 < 255 by decide)]
  rw [saved_foldl (fun _ _ => by simp), saved_setReg, saved_setReg, saved_foldl (fun _ _ => by simp), saved_setReg,
    saved_foldl (fun _ _ => by simp), Image.eachDoor, saved_foldl (fun _ _ => by simp), saved_foldl (fun _ _ => by simp)]

theorem saved_assignDraft (im : Image) (x : AssembleCtx) (d : Draft) : saved (im.assignDraft x d) = saved im := by
  unfold Image.assignDraft
  split
  · dsimp only
    rw [apply_ite saved, saved_clearLedger, ite_self, saved_setReg, saved_rcd, saved_assign,
      saved_foldl (fun _ _ => saved_setReg _ _ _ _)]
  · split
    · dsimp only
      split
      · exact saved_setDreg _ _ _ _ _
      · rfl
    · rfl

theorem saved_flushChanges (im : Image) : saved im.flushChanges = saved im := by
  have hrecords : ∀ (im : Image) (scope source : Nat) (auth : Bool) (cs : List (Nat × Bool × Nat × Nat × Nat × Nat)),
      saved (im.changeRecords scope source auth cs) = saved im := by
    intro im scope source auth cs
    unfold Image.changeRecords
    split
    · rfl
    · dsimp only
      rw [saved_foldl (fun _ _ => saved_draft _ _), saved_occur _ _ _ (by decide)]
  have hdigest : ∀ (im : Image) (auth : Bool), saved (im.noteDigest auth) = saved im := by
    intro im auth
    unfold Image.noteDigest
    rw [apply_ite saved, saved_setReg, ite_self]
  unfold Image.flushChanges
  dsimp only
  split
  · rfl
  · rw [saved_foldl fun _ _ => saved_foldl (fun _ _ => saved_foldl (fun _ _ => hrecords _ _ _ _ _) _ _) _ _]
    exact hdigest im _

theorem saved_overflowSummary (im : Image) (x : AssembleCtx) : saved (im.overflowSummary x) = saved im := by
  rw [Image.overflowSummary, saved_bumpBy, saved_bumpBy, saved_rcd, saved_foldl (fun _ _ => saved_setReg _ _ _ _),
    saved_occur _ _ _ (by decide), saved_bump, saved_assign]

theorem saved_takeDrafts (im : Image) (x : AssembleCtx) (prio left : Nat) : saved (im.takeDrafts x prio left).1 = saved im :=
  saved_foldl (fun im d => saved_assignDraft im x d) _ _

theorem saved_assignEntry (im : Image) (x : AssembleCtx) (e : FifoEntry) : saved (im.assignEntry x e) = saved im := by
  unfold Image.assignEntry
  dsimp only
  split
  · exact saved_assign _ _ _ _ _ _ _
  · rw [saved_bump, saved_bump, apply_ite saved, saved_setReg, ite_self, saved_setReg, saved_assign]

/-- The records of a frame are numbered and noted, and the times stay. -/
theorem saved_assemble (im : Image) (x : AssembleCtx) : saved (im.assemble x) = saved im := by
  have hsummary : ∀ r : Image × Nat, saved (if 0 < r.2 && r.1.overflowDue then (r.1.overflowSummary x, r.2 - 1) else r).1 =
      saved r.1 := by
    intro r
    split
    · exact saved_overflowSummary r.1 x
    · rfl
  unfold Image.assemble
  dsimp only
  rw [saved_foldl (fun im e => saved_assignEntry im x e), saved_rcd, saved_takeDrafts, hsummary, saved_takeDrafts,
    saved_takeDrafts, saved_flushChanges]

/-! ## A commit takes effect (R319) -/

theorem saved_endRequest (im : Image) (q : Port) (k : Fin 32) (o : Outcome) : saved (im.endRequest q k o) = saved im := by
  unfold Image.endRequest
  split
  · rfl
  · rw [saved_bump, saved_onPort]

theorem saved_resubmit (im : Image) (q : Port) (k : Fin 32) (r : Request) : saved (im.resubmit q k r) = saved im := by
  unfold Image.resubmit
  dsimp only
  split
  · rfl
  · rw [Image.submit, apply_ite saved, saved_send, saved_bump, saved_onPort, ite_self, saved_endRequest]

theorem saved_sdoFrame (im : Image) (k : Fin 2) (data : Bytes) : saved (im.sdoFrame k data) = saved im := by
  unfold Image.sdoFrame
  split
  · rfl
  · exact saved_resubmit _ _ _ _

theorem saved_sdoAnswer (im : Image) (p : Path) (idx sub code : Nat) : saved (im.sdoAnswer p idx sub code) = saved im := by
  unfold Image.sdoAnswer
  split
  · rfl
  · rw [apply_ite saved, saved_onServer, saved_sdoFrame, ite_self]

theorem saved_gatewayReply (im : Image) (p : Path) (code : Nat) (data : Bytes) :
    saved (im.gatewayReply p code data) = saved im := by
  unfold Image.gatewayReply
  dsimp only
  split <;> rfl

theorem saved_reply (im : Image) (p : Path) (idx sub code : Nat) (data : Bytes) :
    saved (im.reply p idx sub code data) = saved im := by
  unfold Image.reply
  split
  · rfl
  · rfl
  · rw [saved_sdoAnswer, saved_gatewayReply, Image.answer, saved_send]

theorem saved_sendAnswers (im : Image) (xs : List Answer) : saved (im.sendAnswers xs) = saved im :=
  saved_foldl (fun im (a : Answer) => saved_reply im a.path a.idx a.sub 0 []) xs im

theorem saved_applyAction (im : Image) (a : LedgerAction) : saved (im.applyAction a) = saved im := by
  cases a <;> simp [Image.applyAction, apply_ite saved]

theorem saved_switchChan (im : Image) (c : Chan) : saved (im.switchChan c) = saved im := by
  simp [Image.switchChan, Image.switchOn, apply_ite saved]

theorem saved_unlockChans (im : Image) (as : List LedgerAction) : saved (im.unlockChans as) = saved im := by
  refine saved_foldl (fun im a => ?_) as im
  split
  · exact saved_foldl (fun im n => by simp [apply_ite saved, saved_switchChan]) _ im
  · rfl

/-- Ledger actions that take effect move counts, outputs and doorways. -/
theorem saved_land (im : Image) (as : List LedgerAction) : saved (im.land as) = saved im := by
  unfold Image.land
  refine (saved_foldl (fun im a => ?_) as _).trans ((saved_unlockChans _ as).trans (saved_foldl saved_applyAction as im))
  split <;> rfl

/-! ## The frame of the commit is sealed, released and settled (R230, R314, R319) -/

/-- The frame delta is counted and sealed. -/
theorem saved_sectionS (s : State) (blocks : Nat) (records : List Nat) (stitch : Nat) :
    saved (s.sectionS blocks records stitch).img = saved s.img := by
  have hshare : saved (s.img.deltaShare (max blocks records.length)).1 = saved s.img := by
    unfold Image.deltaShare
    dsimp only
    rw [saved_setReg, saved_setReg, apply_ite saved, saved_bump, ite_self]
    rfl
  exact hshare

theorem saved_of_sansBlocks {s t : State} (h : sansBlocks t = sansBlocks s) : saved t.img = saved s.img :=
  show saved (sansBlocks t).img = saved (sansBlocks s).img by rw [h]

theorem saved_sendBlock (s : State) (l : Lane) (body : BlockBody) (h : BlockHead) (payload : Option Bytes) :
    saved (s.sendBlock l body h payload).img = saved s.img :=
  saved_of_sansBlocks (State.sendBlock_sansBlocks s l body h payload)

theorem saved_sendMany (s : State) (l : Lane) (body : BlockBody) (from_ n count : Nat) :
    saved (s.sendMany l body from_ n count).img = saved s.img :=
  foldl_keeps (fun s : State => saved s.img) (fun _ _ => saved_sendBlock _ _ _ _ _) _ s

theorem saved_sendCopy (s : State) (l : Lane) : saved (s.sendCopy l).img = saved s.img := by
  unfold State.sendCopy
  dsimp only
  split <;> split <;>
    simp only [apply_ite State.img, apply_ite saved, State.onSeam_img, saved_sendMany, saved_sendBlock, ite_self]

theorem saved_sendDigests (s : State) (l : Lane) : saved (s.sendDigests l).img = saved s.img := by
  unfold State.sendDigests
  dsimp only
  split <;> simp only [apply_ite State.img, State.onSeam_img, saved_sendMany, ite_self]

theorem saved_releaseFrame (s : State) (l : Lane) : saved (s.releaseFrame l).img = saved s.img := by
  unfold State.releaseFrame
  split
  · rfl
  · dsimp only
    rw [saved_sendDigests, saved_sendCopy, saved_sendBlock, saved_sendMany]
    refine (foldl_keeps (fun s : State => saved s.img) (fun _ _ => saved_sendBlock _ _ _ _ _) _ _).trans ?_
    rw [saved_sendMany]

theorem saved_takeEffect (s : State) (cs : List CommitRec) (view : Image) (stitch : Nat) :
    saved (s.takeEffect cs view stitch).img = saved s.img := by
  have hlabel : ∀ (im : Image) (e : Nat), saved { im with clk := { im.clk with effectStitch := e } } = saved im := fun _ _ => rfl
  unfold State.takeEffect
  dsimp only
  split <;> simp only [State.onStore_img, State.edit_img, saved_sendAnswers, saved_setMask, apply_ite saved, hlabel, saved_land,
    ite_self]

theorem saved_settle (s : State) (frame : Nat) : saved (s.settle frame).img = saved s.img := by
  unfold State.settle
  dsimp only
  split
  · rfl
  · simp only [apply_ite State.img, saved_takeEffect, ite_self]
    rfl

end Sys2Proof.Machine.Clocks
end

section
/-! Input loss, the power-loss commit and the return of the input (R222, R230, R236, R237, R304). -/

namespace Sys2Proof.Machine.Clocks
open ReleaseLoop

/-! ## The loss is declared, and ends before the commit (R222, R236) -/

/-- The loss is marked with the voltage it was found at, and EV01 is active. -/
theorem Image.declareLoss_spec {im : Image} (hnone : im.belt.lostAt = none) (hlow : im.belt.vin < 400)
    (hlost : im.elapsed im.belt.absentSince (im.reg 0x2106 7) = true ∨ im.belt.link < 3600) :
    im.declareLoss.belt.lostAt = some im.now ∧ im.declareLoss.belt.lossVin = im.belt.vin ∧
      im.declareLoss.evActive 1 modScope = true := by
  have hclk := Image.clk_of_sansEvents
    (Image.raise_sansEvents (im.bump 0x2106 8) 1 modScope ⟨0, 0, im.belt.vin⟩ (by decide))
  have hnow : ((im.bump 0x2106 8).raise 1 modScope ⟨0, 0, im.belt.vin⟩).now = im.now :=
    congrArg Clock.frame hclk
  unfold Image.declareLoss
  dsimp only
  rw [if_pos (by simpa [hnone, hlow] using hlost)]
  exact ⟨congrArg some hnow, rfl, Image.raise_active _ 1 modScope _ (Image.speaks_mod _ 1)⟩

/-- The return of the input ends the loss and clears EV01. -/
theorem Image.inputBack_spec (im : Image) (vin : Nat) : (im.inputBack vin).belt.lostAt = none ∧
    (im.inputBack vin).belt.vin = vin ∧ (im.inputBack vin).evActive 1 modScope = false :=
  ⟨rfl, rfl, Image.clearEv_inactive _ 1 modScope _⟩

theorem State.inputReturn_before {s : State} (hrun : s.running = true) (hdone : s.img.belt.commitDone = false)
    (hlost : s.img.belt.lostAt.isSome = true) (vin : Nat) : s.inputReturn vin = s.edit (fun im => im.inputBack vin) := by
  rw [State.inputReturn, if_neg (by simp [hdone]), if_pos (by simp [hrun, hlost])]

/-! ## The input returns after the commit (R237) -/

theorem State.inputReturn_after {s : State} (hpow : s.powered = true) (hidle : s.activeLane = none)
    (hdone : s.img.belt.commitDone = true) (vin : Nat) : s.inputReturn vin =
      { s with powered := false }.powerGood (s.img.belt.input == 2) vin (s.img.reg 0x2903 1) s.buckle.selfTest := by
  rw [State.inputReturn, if_pos hdone, if_pos (by simp [hpow, hidle])]

/-- Power good starts both lanes anew, with the tick at 0 (R364). -/
theorem State.powerGood_starts {s : State} (hoff : s.powered = false) (dc : Bool) (vin plug : Nat) (ok : Bool) :
    (s.powerGood dc vin plug ok).powered = true ∧ (s.powerGood dc vin plug ok).lanes.a.st = .starting ∧
      (s.powerGood dc vin plug ok).lanes.b.st = .starting ∧ (s.powerGood dc vin plug ok).lanes.a.kind = 1 ∧
      (s.powerGood dc vin plug ok).lanes.b.kind = 1 ∧ (s.powerGood dc vin plug ok).tick = 0 := by
  rw [State.powerGood, if_neg (by simp [hoff])]
  exact ⟨rfl, rfl, rfl, rfl, rfl, rfl⟩

/-! ## Both lanes stop (R230, R304) -/

@[simp] theorem State.stopLanes_img (s : State) : s.stopLanes.img = s.img.safeOutputs.openLoops := rfl

theorem saved_safeOutputs (im : Image) : saved im.safeOutputs = saved im := by
  have hbanks : ∀ (x : Image) (tos : Vector TrainOut 4) (axes : Vector AxisState 36),
      saved { x with tos := tos, axes := axes } = saved x := fun _ _ _ => rfl
  rw [Image.safeOutputs, hbanks, Image.eachChan, saved_foldl (fun _ _ => saved_onChan _ _ _)]

theorem saved_openLoops (im : Image) : saved im.openLoops = saved im := by
  rw [Image.openLoops, saved_foldl (fun _ _ => saved_onSide _ _ _)]

/-- The train outputs' safe state is off. -/
theorem Image.safeOutputs_tos (im : Image) (n : Fin 4) : (im.safeOutputs.tos.get n).on = false := by
  simp [Image.safeOutputs, Vector.get]

/-- The loops leave the train outputs as they are. -/
theorem Image.openLoops_tos (im : Image) : im.openLoops.tos = im.tos := rfl

/-- Both lane switches are open (R77). -/
theorem Image.openLoops_laneClosed (im : Image) (k : Side) : (im.openLoops.permits.side k).laneClosed = false := by
  cases k <;> rfl

/-! ## The power-loss commit (R230) -/

/-- The image of the commit with its records assembled, four times section R's share (R402). -/
def recordsAssembled (s : State) (im0 : Image) (l : Lane) : State :=
  (List.range 4).foldl (fun (s : State) _ => s.edit (fun im => im.assemble (s.assembleCtx im0 l false))) s

theorem saved_recordsAssembled (s : State) (im0 : Image) (l : Lane) : saved (recordsAssembled s im0 l).img = saved s.img :=
  foldl_keeps (fun s : State => saved s.img) (fun _ _ => saved_assemble _ _) _ s

/-- The commit made whole, sealed, released and in effect (R230). -/
def lossCommitted (s : State) (l : Lane) : State :=
  let u := recordsAssembled (s.edit (fun im => im.lossCommit s.img.lossCommitCause)) s.img l
  let seqs := newSeqs (s.img.reg 0x2700 2) (u.img.reg 0x2700 2)
  let v := ((u.sectionS 1 seqs 3).releaseFrame l).settle u.img.now
  if s.qualified then { v with shadow := v.committed }.onStore l.other (fun y => y.push seqs) else v

/-- With a cause the commit is made, and then both lanes stop. -/
theorem State.powerLoss_eq {s : State} {l : Lane} (hl : s.activeLane = some l) (hcause : s.img.lossCommitCause ≠ 0) :
    s.powerLoss = (lossCommitted s l).stopLanes := by
  unfold State.powerLoss
  rw [hl]
  dsimp only
  rw [if_neg hcause]
  rfl

theorem saved_lossCommitted (s : State) (l : Lane) : saved (lossCommitted s l).img = (s.img.clk.opMs, s.img.op, true) := by
  rw [lossCommitted, apply_ite State.img, State.onStore_img, ite_self, saved_settle, saved_releaseFrame, saved_sectionS,
    saved_recordsAssembled, State.edit_img, saved_lossCommit]

/-- Settles O25: the declaration by its event, the commit by the times that its records, release and settling leave alone
(`saved`), the return of the input by the commit being done or not. That the sealed images are dropped and the cells take
their safe states at the commit is the model's choice (log 69). -/
theorem inputLossAndItsReturn : Obligations.InputLossAndItsReturn := by
  unfold Obligations.InputLossAndItsReturn
  intro s
  refine ⟨?declared, ?commit, ?back, ?anew⟩
  case declared =>
    intro hrun hnone hlow hlost
    obtain ⟨t, ht, himg⟩ := State.act_running hrun (fun im => im.declareLoss)
    exact ⟨t, ht, himg ▸ Image.declareLoss_spec (im := s.hush.img) hnone hlow hlost⟩
  case commit =>
    intro hrun hcause
    obtain ⟨l, hl⟩ := Option.isSome_iff_exists.mp hrun
    have hrow : exec .powerLossCommit s = .next (lossCommitted s.hush l).stopLanes := by
      rw [← State.powerLoss_eq (s := s.hush) hl hcause]
      rfl
    have hsaved := saved_lossCommitted s.hush l
    generalize lossCommitted s.hush l = u at hrow hsaved
    have htimes : saved u.stopLanes.img = saved u.img := by rw [State.stopLanes_img, saved_openLoops, saved_safeOutputs]
    obtain ⟨-, hop, hdone⟩ := saved_iff.mp (htimes.trans hsaved)
    refine ⟨u.stopLanes, hrow, rfl, rfl, rfl, rfl, rfl, rfl, hop, hdone, fun n => ?_, Image.openLoops_laneClosed _⟩
    rw [State.stopLanes_img, Image.openLoops_tos]
    exact Image.safeOutputs_tos _ n
  case back =>
    intro vin hrun hdone hlost
    refine ⟨s.hush.inputReturn vin, rfl, ?_⟩
    rw [State.inputReturn_before (s := s.hush) hrun hdone hlost]
    exact Image.inputBack_spec s.hush.img vin
  case anew =>
    intro vin hpow hidle hdone
    refine ⟨s.hush.inputReturn vin, rfl, ?_⟩
    rw [State.inputReturn_after (s := s.hush) hpow hidle hdone]
    exact State.powerGood_starts rfl _ _ _ _

end Sys2Proof.Machine.Clocks
end
